-- ==== Sys2Proof/Word.lean ====
section
/-! DEFINITION. The bit-vector types of the spec's wrapping numbers and of the bytes on its two links. -/

namespace Sys2Proof

/-- One byte of a gate frame or of a line frame (R190, R191). -/
abbrev Byte := BitVec 8

/-- A card number, 64 bits (R64). -/
abbrev Card := BitVec 64

/-- A service day, 0 to 65,535, wrapping (R44, R48). -/
abbrev Day := BitVec 16

/-- A tap number or a credit limit on the gate link, 0 to 65,535, wrapping (R23, R33). -/
abbrev TapNo := BitVec 16

/-- The number of a gate port, 0 to 7 (R23). -/
abbrev PortId := Fin 8

end Sys2Proof
end

