-- ==== Sys2Proof/Syntax.lean ====
section
/-! DEFINITION. The commands of the engine: one constructor of `Instr` per row of spec/opcode_table.json, with the row's operands. -/

namespace Sys2Proof

/-- One item of a TAP frame: kind code, JOIN flag, LAST flag, 16-bit value (section 2.6, R190). -/
structure TapItem where
  kind : Byte
  join : Bool
  last : Bool
  value : BitVec 16
  deriving DecidableEq, Repr

/-- The direction of a tap (R190: flags bit 0). -/
inductive Direction where
  | tapIn
  | tapOut
  deriving DecidableEq, Repr

/-- The fields of a good TAP frame (R190). -/
structure TapFrame where
  tapNumber : TapNo
  direction : Direction
  live : Bool
  card : Card
  station : Byte
  product : Byte
  hubSeq : BitVec 32
  hubDay : Day
  hubTime : BitVec 32
  items : List TapItem
  deriving DecidableEq, Repr

/-- The steps of the engine (spec/opcode_table.json). A row of a downstream frame has no operand here: its operands
stand in the frame at the head of the receive list, which the step takes (R179). -/
inductive Instr where
  /-- POWER_ON_RESET (R185). -/
  | powerOnReset
  /-- GATE_CARRIER_LOSS (R24). -/
  | gateCarrierLoss (port : PortId)
  /-- GATE_CARRIER_RETURN (R24). -/
  | gateCarrierReturn (port : PortId)
  /-- TAP (R33): a good TAP frame received on the port. -/
  | tap (port : PortId) (frame : TapFrame)
  /-- BEACON (R51): a good BEACON frame received on the port. -/
  | beacon (port : PortId) (hubTime : BitVec 32) (hubDay : Day)
  /-- HUB_STATE (R32): a good HUB_STATE frame received on the port. -/
  | hubState (port : PortId) (alarm : Bool) (code : Byte)
  /-- ATTACH_ACK (R28): a good ATTACH_ACK frame received on the port. -/
  | attachAck (port : PortId) (positive : Bool) (echo : Byte) (firstTap : TapNo)
  /-- BAD_FRAME (R31): a frame received on the port that fails the checks of R190. -/
  | badFrame (port : PortId)
  /-- GATE_FRAME_SENT (R35). -/
  | gateFrameSent (port : PortId)
  /-- ATTACH_TIMEOUT (R29). -/
  | attachTimeout (port : PortId)
  /-- BEACON_TIMEOUT (R52). -/
  | beaconTimeout (port : PortId)
  /-- LINE_TIME_ADVANCE (R44). -/
  | lineTimeAdvance
  /-- EXPIRY_DUE (R93). -/
  | expiryDue
  /-- REFERRAL_DUE (R160): for the entry of one slot. -/
  | referralDue (slot : Fin 256)
  /-- LINE_FRAME_RECEIVED (R178): the bytes of an Ethernet frame, destination address to check sequence. -/
  | lineFrameReceived (bytes : List Byte)
  /-- LINE_CARRIER_LOSS (R182). -/
  | lineCarrierLoss
  /-- LINE_CARRIER_RETURN (R182). -/
  | lineCarrierReturn
  /-- UPSTREAM_FRAME_SENT (R182). -/
  | upstreamFrameSent
  /-- LOAD (R11). -/
  | load
  /-- REFERRAL_ANSWER (R154). -/
  | referralAnswer
  /-- VIEW (R186). -/
  | view
  /-- PORT_ATTACH (R27). -/
  | portAttach
  /-- PORT_DETACH (R36). -/
  | portDetach
  /-- SET_PORT_OPTIONS (R40). -/
  | setPortOptions
  /-- CLEAR_ATTENTION (R41). -/
  | clearAttention
  /-- SET_TIME (R46). -/
  | setTime
  /-- ROLL_DAY (R164). -/
  | rollDay
  /-- ARM (R18). -/
  | arm
  /-- DISARM (R21). -/
  | disarm
  /-- COPY_ACTIVE (R15). -/
  | copyActive
  /-- COPY_ROW (R16). -/
  | copyRow
  /-- COPY_COMPLETE (R17). -/
  | copyComplete
  /-- SET_DISPOSITION (R141). -/
  | setDisposition
  /-- CAPTURE_COUNTERS (R183). -/
  | captureCounters
  /-- ENGINE_RESET (R184). -/
  | engineReset
  /-- UNKNOWN_COMMAND (R179). -/
  | unknownCommand
  /-- TAP_STEP (R78). -/
  | tapStep
  /-- TAP_NOTICE (R81). -/
  | tapNotice
  /-- EXPIRY_STEP (R96). -/
  | expiryStep
  /-- CHAIN_VISIT (R167). -/
  | chainVisit
  /-- SWEEP_ITEM (R168). -/
  | sweepItem
  /-- SLOT_WAIT_RESUME (R106). -/
  | slotWaitResume
  /-- GRANT (R108). -/
  | grant
  /-- STALL_RESUME (R111). -/
  | stallResume
  /-- REFERRAL_WORK (R156). -/
  | referralWork
  /-- DAY_SUMMARY (R170). -/
  | daySummary
  /-- OWED_PORT_NOTICE (R39). -/
  | owedPortNotice
  /-- OWED_DAY_OVERRUN (R45). -/
  | owedDayOverrun
  /-- OWED_ROLL_DONE (R174). -/
  | owedRollDone
  deriving DecidableEq, Repr

end Sys2Proof
end

