-- ==== Sys2Proof/WellFormed.lean ====
section
/-! DEFINITION. Which commands are well formed: what the operands' types do not already say. -/

namespace Sys2Proof

/-- A good TAP frame carries 0 to 6 items (R190: an item count above 6 is a bad frame). -/
def TapFrame.wf (f : TapFrame) : Bool := decide (f.items.length ≤ 6)

/-- Every other operand is in range by its type: a port is 0 to 7, a referral slot 0 to 255, each field of a frame as
wide as R190 gives it. The bytes of a line frame are checked by R178 itself. -/
def Instr.wf : Instr → Bool
  | .tap _ f => f.wf
  | _ => true

end Sys2Proof
end

