-- ==== Sys2Proof/Decode.lean ====
section
/-! DEFINITION. The command a table word spells. No row of spec/opcode_table.json gives bits ("fields": [] throughout, and no
"fixed"), so no word spells a command; the byte formats of the two links are in Machine/Framing.lean. -/

namespace Sys2Proof

/-- The command spelt by the `nbits` low bits of `w`: none, for the table gives no row any bits. -/
def decodeTableWord (_nbits _w : Nat) : Option Instr := none

end Sys2Proof
end

