-- ==== Sys2Proof/Config.lean ====
section
/-! DEFINITION. The constants the spec gives the part, and the values it names but does not give (opaque: free values). -/

namespace Sys2Proof.Config

/-- The largest line time, in seconds; line time is held there (R44). -/
abbrev lineTimeMax : Nat := 129599

/-- The largest value of a device counter, 32 bits (R189). -/
abbrev counterMax : Nat := 4294967295

/-- Slots of the Work Pool (R103). -/
abbrev poolSlots : Nat := 1024

/-- Places of the urgent queue, of the bulk queue and of the receive list (R177). -/
abbrev urgentPlaces : Nat := 32

/-- Places of the bulk queue (R177). -/
abbrev bulkPlaces : Nat := 512

/-- Places of the receive list (R177, R178). -/
abbrev receivePlaces : Nat := 16

/-- The largest pending count of a record (R70). -/
abbrev pendingMax : Nat := 1027

/-- The largest day total, in cents (R64). -/
abbrev dayTotalMax : Nat := 16777215

/-- The part code (R185, R187). -/
abbrev partCode : Nat := 4408

/-- The vendor code (R187). -/
abbrev vendorCode : Nat := 3862

/-- The silicon revision of the part. The spec names it and gives no value (R185, R187): a free value, DESIGN CHOICE, log 10. -/
opaque siliconRevision : Nat

/-- The engine's station address, fixed in the part and not given by the spec (R187): a free value, DESIGN CHOICE, log 10. -/
opaque stationAddress : BitVec 48

end Sys2Proof.Config
end

