-- ==== Sys2Proof/Machine/State.lean ====
section
/-! DEFINITION. Everything the spec gives the engine to hold, as plain data, and its values after power-on reset.
Fields marked "own" are the model's; INVENTORY.md lists every field with its rule. -/

namespace Sys2Proof.Machine

/-! ## Names -/

/-- Port states (R23). -/
inductive PortState where
  | idle | present | attaching | attached | detaching | faulted
  deriving DecidableEq, Repr

/-- Attention kinds, in the bit order of R193 (section 2.7). -/
inductive AttnKind where
  | carrierChange | attachDone | attachFailed | detachDone | fault | tapGap | clockJump | hubAlarm
  deriving DecidableEq, Repr

/-- A set of attention kinds: bit n for the kind R193 gives bit n. -/
abbrev AttnSet := BitVec 8

/-- Attention classes (R23). -/
inductive AttnClass where
  | routine | urgent
  deriving DecidableEq, Repr

/-- Causes of ATTACH_FAILED (R28, R29). -/
inductive AttachCause where
  | negative | wrongPort | timeout
  deriving DecidableEq, Repr

/-- The detail an attention event carries (section 2.7). -/
inductive AttnDetail where
  | carrier (on : Bool)
  | firstTap (n : TapNo)
  | cause (c : AttachCause)
  | nothing
  | lost (count : Nat)
  | estimate (e : Int)
  | alarmCode (code : Byte)
  deriving DecidableEq, Repr

/-- The nine conditions, highest priority first (R137). -/
inductive Condition where
  | originUnknown | attributeAbsent | stationUnknown | fareOverflow | incomplete | clockUnsettled | capped | zeroRounded
  | inexact
  deriving DecidableEq, Repr

/-- A set of conditions as a condition word: bit k − 1 for the condition of priority k (section 12.2). -/
abbrev CondSet := BitVec 9

/-- Why a journey is diverted (R144). -/
inductive DivertReason where
  | referredProduct
  | condition (c : Condition)
  deriving DecidableEq, Repr

/-- Kinds of decoded items (R37). -/
inductive AttrKind where
  | concession | companions | originHint | authRef
  deriving DecidableEq, Repr

/-- One decoded entry of a tap's list: a kind and a value (R37, R65). -/
structure Attr where
  kind : AttrKind
  value : Nat
  deriving DecidableEq, Repr

/-- Reasons of a TAP_NOTICE (R81). -/
inductive NoticeReason where
  | malformed | notReady | wrongDay | stationMismatch | lateDay | tableFull | productInvalid
  deriving DecidableEq, Repr

/-- The eight counters of a gate port (R189). -/
inductive PortCounter where
  | badFrames | unexpectedFrames | overCreditTaps | lostTaps | malformedItems | discardedAnswers | badDayBeacons
  | badTimeBeacons
  deriving DecidableEq, Repr

/-- The device counters (R189). -/
inductive CounterId where
  | port (p : PortId) (c : PortCounter)
  | foreignFrames | lineBadFrames | lineUnexpectedFrames | receiveOverruns | carrierLosses
  | chainLimitRefusals | poolEmptyRefusals | pendingSaturations
  | duplicates | displacements | journeyLimitExpiries | holdExpiries
  | tapNotices (r : NoticeReason)
  | agingGrants | stalls | slotWaits
  | journeyFrames
  | conditions (c : Condition)
  | diverts (r : DivertReason)
  | referralRequests | referralUnavailable | answersTaken | lateAnswers | alreadyAnswered | refusedAnswers | timeouts
  | recordGone
  | closures | daySummaries | rollsCompleted
  deriving DecidableEq, Repr

/-- The six tables, in the order of their codes (section 1.3). -/
inductive TableId where
  | line | stations | bands | timebands | products | concessions
  deriving DecidableEq, Repr

/-- The roles of a bank (R1). -/
inductive BankRole where
  | active | pending
  deriving DecidableEq, Repr

/-- The downstream frame kinds (R178). -/
inductive DownKind where
  | command | load | referralAnswer | view
  deriving DecidableEq, Repr

/-- The statuses of a REPLY (R180). -/
inductive Status where
  | done | busy | badState | badArgument | tableInvalid | bankArmed | late | alreadyAnswered | notFound
  deriving DecidableEq, Repr

/-- Work kinds (R101). -/
inductive WorkKind where
  | priceJourney | priceIncomplete | priceOriginUnknown | settle | reprice
  deriving DecidableEq, Repr

/-- The levels of the Work Pool (R107). -/
inductive Level where
  | l0 | l1 | l2 | l3
  deriving DecidableEq, Repr

/-- Source classes of work (R101). -/
inductive SourceClass where
  | tap | nonTap
  deriving DecidableEq, Repr

/-- Origin sources (R101). -/
inductive OriginSource where
  | none | tap | hint | referral
  deriving DecidableEq, Repr

/-- Line states (R163). -/
inductive LineState where
  | notReady | ready | rolling
  deriving DecidableEq, Repr

/-- The sources of the Pairing Unit (R76). -/
inductive PuSource where
  | intake | expiry | sweep
  deriving DecidableEq, Repr

/-- The queues of the line link (R177). -/
inductive QueueSel where
  | urgent | bulk
  deriving DecidableEq, Repr

/-! ## The fare tables (R4 to R10) -/

/-- The row of LINE (R4). -/
structure LineRow where
  bandCount : Nat
  timeBandCount : Nat
  ceiling : Nat
  rounding : Nat
  junction1 : Nat
  junction2 : Nat
  journeyLimit : Nat
  holdWindow : Nat
  referralTimeout : Nat
  generation : Nat
  deriving DecidableEq, Repr

/-- A row of STATIONS (R5). -/
structure StationRow where
  enabled : Nat
  branch : Nat
  chainage : Nat
  servingPort : Nat
  farUnits : Nat
  deriving DecidableEq, Repr

/-- A row of BANDS (R6). -/
structure BandRow where
  upper : Nat
  base : Nat
  rate : Nat
  deriving DecidableEq, Repr

/-- A row of TIMEBANDS (R7). -/
structure TimeBandRow where
  start : Nat
  factor : Nat
  deriving DecidableEq, Repr

/-- A row of PRODUCTS (R8); the expected list as a count and four kind positions (R9). -/
structure ProductRow where
  kind : Nat
  flat : Nat
  minUnits : Nat
  defaultFactor : Nat
  cap : Nat
  policy : Nat
  expectedCount : Nat
  expected0 : Nat
  expected1 : Nat
  expected2 : Nat
  expected3 : Nat
  deriving DecidableEq, Repr

/-- A row of CONCESSIONS (R10). -/
structure ConcessionRow where
  factor : Nat
  deriving DecidableEq, Repr

/-- One bank: a full set of the six tables (R1). -/
structure Bank where
  line : LineRow
  stations : Vector StationRow 64
  bands : Vector BandRow 16
  timebands : Vector TimeBandRow 8
  products : Vector ProductRow 256
  concessions : Vector ConcessionRow 16
  deriving DecidableEq, Repr

/-- A bank with every field of every row 0 (R3). -/
def Bank.zero : Bank where
  line := ⟨0, 0, 0, 0, 0, 0, 0, 0, 0, 0⟩
  stations := Vector.replicate 64 ⟨0, 0, 0, 0, 0⟩
  bands := Vector.replicate 16 ⟨0, 0, 0⟩
  timebands := Vector.replicate 8 ⟨0, 0⟩
  products := Vector.replicate 256 ⟨0, 0, 0, 0, 0, 0, 0, 0, 0, 0, 0⟩
  concessions := Vector.replicate 16 ⟨0⟩

/-- One row of some table, whole. -/
inductive TableRow where
  | line (r : LineRow)
  | station (r : StationRow)
  | band (r : BandRow)
  | timeband (r : TimeBandRow)
  | product (r : ProductRow)
  | concession (r : ConcessionRow)
  deriving DecidableEq, Repr

/-- The Table Store (R1). The armed mark is the presence of the armed generation (R1, R14; DEDUCED, log 20). -/
structure TableStore where
  active : Bank
  prep : Bank
  activeValid : Bool
  activeGen : Option Nat
  armedGen : Option Nat
  /-- The copy position while a copy is in flight: how many of the 361 rows, in table order, are copied (R16). -/
  copyPos : Option Nat
  deriving DecidableEq, Repr

/-! ## Gate ports (R23) -/

/-- The clock tracker of a port (R49). `fallenDue` is own: the beacon deadline has become due (R47, DEDUCED, log 5). -/
structure Tracker where
  estimate : Int
  seeded : Bool
  settled : Bool
  lastBeacon : Option Nat
  deadline : Option Nat
  fallenDue : Bool
  deriving DecidableEq, Repr

/-- A decoded tap (R33). -/
structure Tap where
  port : PortId
  attachment : BitVec 16
  tapNumber : TapNo
  live : Bool
  direction : Direction
  card : Card
  station : Nat
  product : Byte
  hubSeq : BitVec 32
  hubDay : Day
  time : Nat
  unsettled : Bool
  attrs : List Attr
  deriving DecidableEq, Repr

/-- The answer a live gate receives (section 2.8). REFUSE has the one reason PRODUCT_INVALID. -/
inductive Answer where
  | go (fare : Option Nat)
  | goProvisional
  | refuseProductInvalid
  deriving DecidableEq, Repr

/-- The outbound gate frames (R35). -/
inductive GateFrame where
  | attachReq (port : PortId) (creditLimit : Nat) (beaconInterval : Nat) (stations : List Nat)
  | credit (limit : TapNo)
  | gateAnswer (tapNumber : TapNo) (answer : Answer)
  | detach (port : PortId)
  deriving DecidableEq, Repr

/-- One gate port (R23). `attachFallenDue` is own: the attach deadline has become due (R47, DEDUCED, log 5). -/
structure Port where
  st : PortState
  carrier : Bool
  autoDetach : Bool
  mask : AttnSet
  cls : AttnClass
  creditLimit : Nat
  lastTaken : TapNo
  advertised : TapNo
  outstanding : Nat
  attachment : BitVec 16
  attachDeadline : Option Nat
  attachFallenDue : Bool
  badRun : Nat
  attention : AttnSet
  intake : List Tap
  transmit : List GateFrame
  tracker : Tracker
  deriving DecidableEq, Repr

/-- A clock tracker after power-on reset and after a positive ATTACH_ACK (R49). -/
def Tracker.fresh : Tracker := ⟨0, false, false, none, none, false⟩

/-- A port after power-on reset (R23). -/
def Port.reset : Port where
  st := .idle
  carrier := false
  autoDetach := true
  mask := 0
  cls := .routine
  creditLimit := 4
  lastTaken := 65535
  advertised := 65535
  outstanding := 0
  attachment := 0
  attachDeadline := none
  attachFallenDue := false
  badRun := 0
  attention := 0
  intake := []
  transmit := []
  tracker := Tracker.fresh

/-! ## The line clock (R44) -/

/-- The Line Clock (R44). -/
structure LineClock where
  time : Nat
  day : Day
  overrun : Bool
  owedOverrun : Bool
  deriving DecidableEq, Repr

/-! ## The journey table (R55, R64) -/

/-- Status of a card-day record (R64). -/
inductive RecStatus where
  | active | closing
  deriving DecidableEq, Repr

/-- An open journey (R65). -/
structure OpenJourney where
  station : Nat
  time : Nat
  port : PortId
  tapNumber : TapNo
  product : Byte
  unsettled : Bool
  attrs : List Attr
  deriving DecidableEq, Repr

/-- A held tap-out (R66). -/
structure HeldTap where
  station : Nat
  time : Nat
  port : PortId
  hubSeq : BitVec 32
  product : Byte
  unsettled : Bool
  attrs : List Attr
  holdTime : Nat
  deriving DecidableEq, Repr

/-- A card-day record (R64). -/
structure Record where
  card : Card
  day : Day
  status : RecStatus
  dayTotal : Nat
  journeys : Nat
  accrued : CondSet
  openJourney : Option OpenJourney
  held : List HeldTap
  recent : List (PortId × BitVec 32)
  pendingCount : Nat
  deriving DecidableEq, Repr

/-- A bucket: four slots, each free or holding a record, and the extension pointer (R55). Its occupancy and used count
are read from the slots (DEDUCED, log 20). -/
structure Bucket where
  slots : Vector (Option Record) 4
  ext : Option Nat
  deriving DecidableEq, Repr

/-- A bucket as reset leaves it (R75). -/
def Bucket.empty : Bucket := ⟨Vector.replicate 4 none, none⟩

/-- The journey table (R55). Buckets are kept by number; an unlisted bucket is `Bucket.empty`. -/
structure JourneyTable where
  home : List (Nat × Bucket)
  exts : List (Nat × Bucket)
  pool : List Nat
  inUse : Nat
  deriving DecidableEq, Repr

/-- The journey table after both resets (R75). -/
def JourneyTable.reset : JourneyTable := ⟨[], [], List.range' 0 16384, 0⟩

/-! ## Work (R101) -/

/-- One half of a journey (R84, R101). -/
structure Half where
  station : Nat
  time : Nat
  port : PortId
  product : Byte
  attrs : List Attr
  clock : Bool
  deriving DecidableEq, Repr

/-- A journey snapshot (R84). -/
structure Journey where
  origin : Option Half
  dest : Option Half
  source : OriginSource
  deriving DecidableEq, Repr

/-- The tap whose ending waits for a work entry (R84). -/
structure WaitingTap where
  port : PortId
  attachment : BitVec 16
  tapNumber : TapNo
  live : Bool
  deriving DecidableEq, Repr

/-- A work entry (R101). -/
structure WorkEntry where
  kind : WorkKind
  level : Level
  cls : SourceClass
  card : Card
  day : Day
  snap : Journey
  waiting : Option WaitingTap
  ticket : Option (BitVec 16)
  timedOut : Bool
  deriving DecidableEq, Repr

/-- The Work Pool and the Pricing Arbiter (R103, R107, R108). -/
structure WorkPool where
  l0 : List WorkEntry
  l1 : List WorkEntry
  l2 : List WorkEntry
  l3 : List WorkEntry
  tapInUse : Nat
  nonTapInUse : Nat
  releasedTaps : Nat
  runLevel : Option Level
  aging : Nat
  deriving DecidableEq, Repr

/-- The pool after power-on reset (R114) and after ENGINE_RESET (R113). -/
def WorkPool.reset : WorkPool := ⟨[], [], [], [], 0, 0, 0, none, 0⟩

/-! ## Expiry queue (R93) -/

/-- What an expiry entry is for; a HOLD names its held tap-out by port and hub sequence (R93). -/
inductive ExpiryKind where
  | journeyLimit
  | hold (port : PortId) (hubSeq : BitVec 32)
  deriving DecidableEq, Repr

/-- An entry of the expiry queue (R93). `fallenDue` is own: the due time has been reached (R47, DEDUCED, log 5). -/
structure ExpiryEntry where
  dueTime : Nat
  due : Bool
  fallenDue : Bool
  card : Card
  day : Day
  kind : ExpiryKind
  deriving DecidableEq, Repr

/-! ## Referrals (R149) -/

/-- An answer of the line server (section 9.3). -/
inductive RefAnswer where
  | charge (amount : Nat) (cap : Bool)
  | void
  | reprice (station : Nat)
  deriving DecidableEq, Repr

/-- States of a referral entry (R149). -/
inductive RefState where
  | free | awaiting | answered
  deriving DecidableEq, Repr

/-- Work marks of a referral entry (R149). -/
inductive RefWork where
  | none | settle | reprice | timeout
  deriving DecidableEq, Repr

/-- An entry of the Referral Table (R149). `fallenDue` is own: the due time has been reached (R47, DEDUCED, log 5). -/
structure RefEntry where
  state : RefState
  useCount : BitVec 8
  card : Card
  day : Day
  kind : WorkKind
  snap : Journey
  distance : Option Nat
  units : Option Nat
  fare : Option Nat
  reason : DivertReason
  conds : CondSet
  generation : Nat
  dueTime : Nat
  due : Bool
  fallenDue : Bool
  answer : Option RefAnswer
  work : RefWork
  deriving DecidableEq, Repr

/-- A referral entry with every field cleared but its use count (R162; the cleared values: DESIGN CHOICE, log 28). -/
def RefEntry.cleared (useCount : BitVec 8) : RefEntry where
  state := .free
  useCount := useCount
  card := 0
  day := 0
  kind := .priceJourney
  snap := ⟨none, none, .none⟩
  distance := none
  units := none
  fare := none
  reason := .referredProduct
  conds := 0
  generation := 0
  dueTime := 0
  due := false
  fallenDue := false
  answer := none
  work := .none

/-- The Referral Table (R149, R150). -/
structure ReferralTable where
  entries : Vector RefEntry 256
  freeList : List (Fin 256)
  ready : List (Fin 256)
  deriving DecidableEq, Repr

/-- The Referral Table after power-on reset (R162). -/
def ReferralTable.reset : ReferralTable where
  entries := Vector.replicate 256 (RefEntry.cleared 0)
  freeList := List.finRange 256
  ready := []

/-! ## Fare Unit (R115) -/

/-- The results of S3 to S6 and the conditions they raise (R115, R125). -/
structure FareResult where
  bandRow : Option Nat
  groupFare : Option Nat
  companions : Nat
  concessionClass : Option Nat
  timeFactor : Option Nat
  concessionFactor : Option Nat
  fare : Option Nat
  conds : CondSet
  deriving DecidableEq, Repr

/-- The reckoning of a pricing (R115). `aside` says that `result` is held aside (R125, R139); `conds` is the journey's
own set and `asideConds` the set held aside. -/
structure Reckoning where
  generation : Nat
  product : Byte
  productRow : ProductRow
  origin : Option Nat
  dest : Option Nat
  source : OriginSource
  distance : Option Nat
  units : Option Nat
  result : FareResult
  aside : Bool
  conds : CondSet
  asideConds : CondSet
  charged : Nat
  authRef : Option Nat
  deriving DecidableEq, Repr

/-- What the Fare Unit copies at a grant (R109; the whole pricing bank: DEDUCED, log 21). -/
structure Copies where
  mask : CondSet
  bank : Bank
  answer : Option RefAnswer
  deriving DecidableEq, Repr

/-- What the outcome update of a pricing decided (R131): a charge with the day total after it, none where the record was
gone (R161), and whether it bears REFERRAL_UNAVAILABLE (R153); or a diversion into a referral slot (R151). -/
inductive PriceOutcome where
  | charged (dayTotal : Option Nat) (unavailable : Bool)
  | diverted (slot : Fin 256)
  deriving DecidableEq, Repr

/-- A pricing in flight (R115). -/
structure Pricing where
  entry : WorkEntry
  copies : Copies
  reck : Reckoning
  outcome : PriceOutcome
  deriving DecidableEq, Repr

/-- The Fare Unit: IDLE, PRICING or STALLED (R109, R115). -/
inductive FareUnit where
  | idle
  | pricing (p : Pricing)
  | stalled (p : Pricing)
  deriving DecidableEq, Repr

/-! ## Upstream frames (R181) -/

/-- A JOURNEY frame (R135); an absent field is `none`. -/
structure JourneyFrame where
  card : Card
  day : Day
  kind : WorkKind
  source : OriginSource
  originStation : Option Nat
  inTime : Option Nat
  inPort : Option PortId
  inClock : Bool
  destStation : Option Nat
  outTime : Option Nat
  outPort : Option PortId
  outClock : Bool
  product : Byte
  distance : Option Nat
  units : Option Nat
  bandRow : Option Nat
  companions : Nat
  concessionClass : Option Nat
  concessionFactor : Option Nat
  timeFactor : Option Nat
  fare : Option Nat
  charged : Nat
  /-- none: NOT_APPLIED (R161). -/
  dayTotal : Option Nat
  conds : CondSet
  unavailable : Bool
  timedOut : Bool
  ticket : Option (BitVec 16)
  authRef : Option Nat
  generation : Nat
  time : Nat
  deriving DecidableEq, Repr

/-- A REFERRAL_REQUEST frame (R152). -/
structure RequestFrame where
  ticket : BitVec 16
  card : Card
  day : Day
  kind : WorkKind
  source : OriginSource
  origin : Option Half
  dest : Option Half
  distance : Option Nat
  units : Option Nat
  fare : Option Nat
  reason : DivertReason
  conds : CondSet
  authRef : Option Nat
  generation : Nat
  dueTime : Nat
  time : Nat
  deriving DecidableEq, Repr

/-- A TAP_NOTICE frame (R81): its reason, the tap, and the line time at which it was made. -/
structure TapNoticeFrame where
  reason : NoticeReason
  port : PortId
  tapNumber : TapNo
  live : Bool
  direction : Direction
  card : Card
  station : Nat
  product : Byte
  hubSeq : BitVec 32
  hubDay : Day
  time : Nat
  unsettled : Bool
  made : Nat
  deriving DecidableEq, Repr

/-- A DAY_SUMMARY frame (R171). -/
structure SummaryFrame where
  card : Card
  day : Day
  dayTotal : Nat
  journeys : Nat
  accrued : CondSet
  generation : Option Nat
  time : Nat
  deriving DecidableEq, Repr

/-- A ROLL_DONE line notice (R174). -/
structure RollDone where
  day : Day
  generation : Option Nat
  swap : Bool
  time : Nat
  deriving DecidableEq, Repr

/-- The device counters, in the order of `CounterId.index` (R189). -/
abbrev Counters := Vector Nat 117

/-- The counter snapshot (R177, R183). -/
structure CounterSnapshot where
  counters : Counters
  time : Nat
  day : Day
  deriving DecidableEq, Repr

/-- A view selector with its arguments (R186, R193). -/
inductive ViewSel where
  | identity
  | line
  | port (p : PortId)
  | card (c : Card) (day : Day)
  | tableRow (role : BankRole) (table : TableId) (row : Nat)
  | counters
  deriving DecidableEq, Repr

/-- State of the Fare Unit as the LINE view names it (R112). -/
inductive FuState where
  | idle | pricing | stalled
  deriving DecidableEq, Repr

/-- The contents of the LINE view (R187). -/
structure LineView where
  lineState : LineState
  day : Day
  time : Nat
  overrun : Bool
  oldDay : Option Day
  sweepPos : Nat
  closingCount : Nat
  summaryLength : Nat
  activeValid : Bool
  activeGen : Option Nat
  armed : Bool
  armedGen : Option Nat
  /-- Copy in flight, with the row its copy position names. -/
  copying : Bool
  copyRow : Option (TableId × Nat)
  use0 : Nat
  use1 : Nat
  use2 : Nat
  use3 : Nat
  tapInUse : Nat
  nonTapInUse : Nat
  reservation : Nat
  portReservation : Nat
  releasedTaps : Nat
  fareUnit : FuState
  runLevel : Option Level
  aging : Nat
  refFree : Nat
  refAnswered : Nat
  refWaiting : Nat
  refPastDue : Nat
  refTimedOut : Nat
  recordsInUse : Nat
  freeExtensions : Nat
  disposition : CondSet
  urgentLength : Nat
  bulkLength : Nat
  receiveLength : Nat
  owedLength : Nat
  carrier : Bool
  copyReserve : Bool
  deriving DecidableEq, Repr

/-- The contents of the PORT view (R188). -/
structure PortView where
  st : PortState
  carrier : Bool
  autoDetach : Bool
  mask : AttnSet
  cls : AttnClass
  creditLimit : Nat
  outstanding : Nat
  freeCredits : Nat
  advertised : TapNo
  expected : TapNo
  attachment : BitVec 16
  attachDeadline : Option Nat
  attention : AttnSet
  estimate : Int
  settled : Bool
  lastBeacon : Option Nat
  deriving DecidableEq, Repr

/-- The contents of a view answered DONE (R187 to R189). -/
inductive ViewContents where
  | identity (vendor part revision : Nat) (address : BitVec 48)
  | line (v : LineView)
  | port (v : PortView)
  | card (r : Record)
  | tableRow (r : TableRow)
  | counters (c : CounterSnapshot)
  deriving DecidableEq, Repr

/-- The request a REPLY answers (R180): a COMMAND with its command code, or one of the other three kinds. -/
inductive RequestKind where
  | command (code : Byte)
  | load
  | referralAnswer
  | view
  deriving DecidableEq, Repr

/-- The upstream frames (section 11.3). -/
inductive UpFrame where
  | reply (request : BitVec 16) (kind : RequestKind) (status : Status) (failing : Option (TableId × Nat))
      (contents : Option ViewContents)
  | portNotice (port : PortId) (kind : AttnKind) (detail : AttnDetail) (attention : AttnSet)
  | started (part revision time : Nat)
  | dayOverrun (day : Day) (time : Nat)
  | rollDone (d : RollDone)
  | journey (j : JourneyFrame)
  | referralRequest (r : RequestFrame)
  | tapNotice (n : TapNoticeFrame)
  | daySummary (d : SummaryFrame)
  deriving DecidableEq, Repr

/-! ## The Line Link Interface (R177) -/

/-- A good downstream frame waiting in the receive list (R178): kind, request number and body. -/
structure DownFrame where
  kind : DownKind
  request : BitVec 16
  body : List Byte
  deriving DecidableEq, Repr

/-- An entry of the owed list (R39). -/
structure OwedNotice where
  port : PortId
  kind : AttnKind
  detail : AttnDetail
  deriving DecidableEq, Repr

/-- The Line Link Interface (R177). `transmitting` says which queue's head is in transmission (R182); `replyHeld` is the
place held for the REPLY of the frame being taken (R179), false between steps; `owedOffers` is own (R39, DESIGN CHOICE, log 17).
`urgentTo` and `bulkTo` keep the destination of the frame at the head of each queue once its transmission has begun, so that it
is sent again with the same bytes (R192); the moment that fixes it: DEDUCED, log 43. -/
structure LineLink where
  carrier : Bool
  transmitting : Option QueueSel
  urgentTo : Option (BitVec 48)
  bulkTo : Option (BitVec 48)
  receive : List DownFrame
  urgent : List UpFrame
  bulk : List UpFrame
  /-- The copy reply reserve, with the request number its REPLY will return (R180). -/
  copyReserve : Option (BitVec 16)
  replyHeld : Bool
  server : Option (BitVec 48)
  selected : ViewSel
  snapshot : CounterSnapshot
  disposition : CondSet
  owed : List OwedNotice
  owedOffers : Nat
  deriving DecidableEq, Repr

/-- Every device counter 0 (R189). -/
def Counters.zero : Counters := Vector.replicate 117 0

/-- The LLI at power-on release: the STARTED notice stands in the urgent queue (R177, R185). -/
def LineLink.reset : LineLink where
  carrier := false
  transmitting := none
  urgentTo := none
  bulkTo := none
  receive := []
  urgent := [.started Config.partCode Config.siliconRevision 0]
  bulk := []
  copyReserve := none
  replyHeld := false
  server := none
  selected := .identity
  snapshot := ⟨Counters.zero, 0, 0⟩
  disposition := 0
  owed := []
  owedOffers := 0

/-! ## The Pairing Unit and the Roll Sweep -/

/-- The item the Pairing Unit has in progress between steps (R76): a tap waiting to place its TAP_NOTICE, with the
attachment number its ending will report (R81), or a step that holds its work entry until a pool slot frees, with the
gate answer it will then hand over (R106). -/
inductive PuItem where
  | notice (n : TapNoticeFrame) (attachment : BitVec 16)
  | slotWait (e : WorkEntry) (answer : Option Answer)
  deriving DecidableEq, Repr

/-- The Pairing Unit (R76). -/
structure PairingUnit where
  item : Option PuItem
  source : PuSource
  port : PortId
  deriving DecidableEq, Repr

/-- The Roll Sweep (R163). `paused` is the pause of R168. -/
structure RollSweep where
  state : LineState
  oldDay : Option Day
  pos : Nat
  visit : List Card
  paused : Bool
  closingCount : Nat
  summary : List (Card × Day)
  owedDone : Option RollDone
  deriving DecidableEq, Repr

/-! ## The machine -/

/-- The engine's state: its blocks (00_scope.md section 3), the device counters, and the queue of waiting commands. -/
structure State where
  ports : Vector Port 8
  clock : LineClock
  tables : TableStore
  jt : JourneyTable
  pu : PairingUnit
  expiry : List ExpiryEntry
  pool : WorkPool
  fu : FareUnit
  rt : ReferralTable
  roll : RollSweep
  lli : LineLink
  counters : Counters
  /-- The commands that wait, first in, first out (own). -/
  pending : List Instr
  deriving DecidableEq, Repr

/-- Why the machine stops. No rule of the spec stops the engine: every command and every frame is taken, refused with a
status, noticed, counted or discarded, and each of these is a next state. So no constructor; nothing raises it. -/
inductive Fault where
  deriving DecidableEq, Repr

/-- Why a command has no meaning. -/
inductive Refusal where
  /-- The command of this mnemonic is not modelled: raised by an arm of `exec` alone; safe. No arm raises it. -/
  | notModelled (mnemonic : String)
  deriving DecidableEq, Repr

/-- The engine at the release of the power-on reset input (R185): every block at its power-on values, line time 0 on
day 0, the line NOT_READY (R3, R23, R44, R49, R75, R100, R114, R162, R163, R177), and no command waiting. -/
def State.reset : State where
  ports := Vector.replicate 8 Port.reset
  clock := ⟨0, 0, false, false⟩
  tables := ⟨Bank.zero, Bank.zero, false, none, none, none⟩
  jt := JourneyTable.reset
  pu := ⟨none, .intake, 0⟩
  expiry := []
  pool := WorkPool.reset
  fu := .idle
  rt := ReferralTable.reset
  roll := ⟨.notReady, none, 0, [], false, 0, [], none⟩
  lli := LineLink.reset
  counters := Counters.zero
  pending := []

end Sys2Proof.Machine
end

