-- ==== Sys2Proof/Machine/Flags.lean ====
section
/-! DEFINITION. The two sets of flags the engine keeps, attention sets and condition sets, and the places of their bits
(R137, R140, R193). -/

namespace Sys2Proof.Machine

/-- The bit of an attention kind (R193). -/
def AttnKind.bitNo : AttnKind → Nat
  | .carrierChange => 0
  | .attachDone => 1
  | .attachFailed => 2
  | .detachDone => 3
  | .fault => 4
  | .tapGap => 5
  | .clockJump => 6
  | .hubAlarm => 7

/-- Whether the set holds the kind. -/
def AttnSet.has (a : AttnSet) (k : AttnKind) : Bool := a.getLsbD k.bitNo

/-- The set of one kind. -/
def AttnKind.only (k : AttnKind) : AttnSet := BitVec.twoPow 8 k.bitNo

/-- The bit of a condition: its priority less one (section 12.2). -/
def Condition.bitNo : Condition → Nat
  | .originUnknown => 0
  | .attributeAbsent => 1
  | .stationUnknown => 2
  | .fareOverflow => 3
  | .incomplete => 4
  | .clockUnsettled => 5
  | .capped => 6
  | .zeroRounded => 7
  | .inexact => 8

/-- The nine conditions, highest priority first (R137). -/
def Condition.all : List Condition :=
  [.originUnknown, .attributeAbsent, .stationUnknown, .fareOverflow, .incomplete, .clockUnsettled, .capped, .zeroRounded,
    .inexact]

/-- Whether the set holds the condition. -/
def CondSet.has (s : CondSet) (c : Condition) : Bool := s.getLsbD c.bitNo

/-- The set of one condition. -/
def Condition.only (c : Condition) : CondSet := BitVec.twoPow 9 c.bitNo

/-- The set of one condition where `b` holds, the empty set otherwise. -/
def Condition.onlyIf (c : Condition) (b : Bool) : CondSet := if b then c.only else 0

/-- The lead condition of a set: its member of highest priority, or none (R140). -/
def CondSet.lead (s : CondSet) : Option Condition := Condition.all.find? fun c => s.has c

/-- The members of a set, highest priority first. -/
def CondSet.members (s : CondSet) : List Condition := Condition.all.filter fun c => s.has c

/-- The place of a divert reason's counter: the nine conditions, then REFERRED_PRODUCT (R144). -/
def DivertReason.place : DivertReason → Fin 10
  | .condition .originUnknown => 0
  | .condition .attributeAbsent => 1
  | .condition .stationUnknown => 2
  | .condition .fareOverflow => 3
  | .condition .incomplete => 4
  | .condition .clockUnsettled => 5
  | .condition .capped => 6
  | .condition .zeroRounded => 7
  | .condition .inexact => 8
  | .referredProduct => 9

/-- The place of a condition's counter. -/
def Condition.place : Condition → Fin 9
  | .originUnknown => 0
  | .attributeAbsent => 1
  | .stationUnknown => 2
  | .fareOverflow => 3
  | .incomplete => 4
  | .clockUnsettled => 5
  | .capped => 6
  | .zeroRounded => 7
  | .inexact => 8

/-- The place of a TAP_NOTICE reason's counter (R81). -/
def NoticeReason.place : NoticeReason → Fin 7
  | .malformed => 0
  | .notReady => 1
  | .wrongDay => 2
  | .stationMismatch => 3
  | .lateDay => 4
  | .tableFull => 5
  | .productInvalid => 6

/-- The place of a gate port's counter, in the order of R189. -/
def PortCounter.place : PortCounter → Fin 8
  | .badFrames => 0
  | .unexpectedFrames => 1
  | .overCreditTaps => 2
  | .lostTaps => 3
  | .malformedItems => 4
  | .discardedAnswers => 5
  | .badDayBeacons => 6
  | .badTimeBeacons => 7

/-- The place of a device counter, in the order of R189. -/
def CounterId.index : CounterId → Fin 117
  | .port p c => ⟨8 * p.val + c.place.val, by omega⟩
  | .foreignFrames => 64
  | .lineBadFrames => 65
  | .lineUnexpectedFrames => 66
  | .receiveOverruns => 67
  | .carrierLosses => 68
  | .chainLimitRefusals => 69
  | .poolEmptyRefusals => 70
  | .pendingSaturations => 71
  | .duplicates => 72
  | .displacements => 73
  | .journeyLimitExpiries => 74
  | .holdExpiries => 75
  | .tapNotices r => ⟨76 + r.place.val, by omega⟩
  | .agingGrants => 83
  | .stalls => 84
  | .slotWaits => 85
  | .journeyFrames => 86
  | .conditions c => ⟨87 + c.place.val, by omega⟩
  | .diverts r => ⟨96 + r.place.val, by omega⟩
  | .referralRequests => 106
  | .referralUnavailable => 107
  | .answersTaken => 108
  | .lateAnswers => 109
  | .alreadyAnswered => 110
  | .refusedAnswers => 111
  | .timeouts => 112
  | .recordGone => 113
  | .closures => 114
  | .daySummaries => 115
  | .rollsCompleted => 116

/-- The value of a counter. -/
def Counters.value (cs : Counters) (c : CounterId) : Nat := cs[c.index]

/-- A counter raised by `n`, saturating at 32 bits (R189). -/
def Counters.add (cs : Counters) (c : CounterId) (n : Nat) : Counters :=
  cs.set c.index (min Config.counterMax (cs.value c + n))

end Sys2Proof.Machine
end

