-- ==== Sys2Proof/Machine/Ops.lean ====
section
/-! DEFINITION. The named operations every block shares: counters, ports, the places of the upstream queues, attention,
due times and the reservation of the Work Pool. -/

namespace Sys2Proof.Machine

/-! ## Counters -/

/-- A device counter raised by `n` (R189). -/
def State.count (c : CounterId) (n : Nat) (s : State) : State := { s with counters := s.counters.add c n }

/-- A device counter incremented. -/
def State.bump (c : CounterId) (s : State) : State := s.count c 1

/-- The counter of each condition of a set incremented (R148). -/
def State.bumpConditions (cs : CondSet) (s : State) : State :=
  cs.members.foldl (fun s c => s.bump (.conditions c)) s

/-! ## Ports -/

/-- The port of a number. -/
def State.port (s : State) (p : PortId) : Port := s.ports[p]

/-- The state with that port replaced. -/
def State.setPort (p : PortId) (q : Port) (s : State) : State := { s with ports := s.ports.set p q }

/-- The state with that port changed. -/
def State.modPort (p : PortId) (f : Port → Port) (s : State) : State := s.setPort p (f (s.port p))

/-- The free credits of a port: its credit limit less its outstanding count (R23). -/
def Port.freeCredits (q : Port) : Nat := q.creditLimit - q.outstanding

/-- The expected tap number: last taken + 1, modulo 65,536 (R23). -/
def Port.expected (q : Port) : TapNo := q.lastTaken + 1

/-- Whether the port's credit limit counts in the port reservation (R103). -/
def Port.inReservation (q : Port) : Bool := q.st == .attached || q.st == .detaching

/-- What the port adds to the port reservation (R103). -/
def Port.reserved (q : Port) : Nat := if q.inReservation then q.creditLimit else 0

/-- Whether a gate frame is a CREDIT. -/
def GateFrame.isCredit : GateFrame → Bool
  | .credit _ => true
  | _ => false

/-- A frame placed at the tail of the transmit list (R35). An unsent DETACH, or an unsent ATTACH_REQ of a failed attach, stays when
a further PORT_ATTACH places its ATTACH_REQ: the list keeps every frame and has no bound of its own (DESIGN CHOICE, log 39). -/
def Port.place (f : GateFrame) (q : Port) : Port := { q with transmit := q.transmit ++ [f] }

/-- A CREDIT with this limit placed on the transmit list: an earlier unsent CREDIT is removed, and the limit becomes the
advertised limit (R34, R35). -/
def Port.placeCredit (limit : TapNo) (q : Port) : Port :=
  { q with transmit := q.transmit.filter (fun f => !f.isCredit) ++ [.credit limit], advertised := limit }

/-- A CREDIT with limit last taken + free credits (R24, R33, R34). -/
def Port.placeFreeCredit (q : Port) : Port := q.placeCredit (q.lastTaken + BitVec.ofNat 16 q.freeCredits)

/-! ## The reservation of the Work Pool (R103) -/

/-- The port reservation: the credit limits of the ports ATTACHED or DETACHING. -/
def State.portReservation (s : State) : Nat := (s.ports.toList.map Port.reserved).sum

/-- The reservation: port reservation + released taps. -/
def State.reservation (s : State) : Nat := s.portReservation + s.pool.releasedTaps

/-- How many non-tap slots are free: 1,024 less the reservation, less the non-tap entries in use. -/
def State.nonTapFree (s : State) : Nat := (Config.poolSlots - s.reservation) - s.pool.nonTapInUse

/-- Slots in use. -/
def WorkPool.slotsInUse (w : WorkPool) : Nat := w.tapInUse + w.nonTapInUse

/-- The paused card of the sweep is offered again (R168). -/
def State.offerSweep (s : State) : State := { s with roll := { s.roll with paused := false } }

/-- The paused card is offered again where the reservation has fallen below what it was (R168). -/
def State.offerSweepIfFell (before : Nat) (s : State) : State :=
  if s.reservation < before then s.offerSweep else s

/-! ## Places of the upstream queues (R177, R181) -/

/-- Places of the urgent queue not free: frames, the copy reply reserve, the place held for the REPLY of the frame being
taken (R177). -/
def LineLink.urgentUsed (l : LineLink) : Nat :=
  l.urgent.length + (if l.copyReserve.isSome then 1 else 0) + (if l.replyHeld then 1 else 0)

/-- Whether a free urgent place exists (R177). -/
def LineLink.urgentHasPlace (l : LineLink) : Bool := decide (l.urgentUsed < Config.urgentPlaces)

/-- Whether a free bulk place exists (R177). -/
def LineLink.bulkHasPlace (l : LineLink) : Bool := decide (l.bulk.length < Config.bulkPlaces)

/-- The queue whose head a free transmitter takes (R182). -/
def LineLink.nextToSend (l : LineLink) : Option QueueSel :=
  if l.urgent.isEmpty then (if l.bulk.isEmpty then none else some .bulk) else some .urgent

/-- The broadcast address, to which frames go while the server address is none (R178). -/
def broadcast : BitVec 48 := 0xFFFFFFFFFFFF

/-- Where an upstream frame begun now is sent (R178). -/
def LineLink.destination (l : LineLink) : BitVec 48 := l.server.getD broadcast

/-- The transmission of a queue's head begins, if there is one. A head cut short before keeps its destination, so that the same
bytes are sent again (R192); any other takes the destination of this moment (R178; DEDUCED, log 43). -/
def LineLink.begin (l : LineLink) : Option QueueSel → LineLink
  | some .urgent => { l with transmitting := some .urgent, urgentTo := some (l.urgentTo.getD l.destination) }
  | some .bulk => { l with transmitting := some .bulk, bulkTo := some (l.bulkTo.getD l.destination) }
  | none => l

/-- A free transmitter starts a frame while the carrier flag is on (R182). -/
def LineLink.startSending (l : LineLink) : LineLink :=
  if l.carrier && l.transmitting.isNone then l.begin l.nextToSend else l

/-- A frame placed at the tail of the urgent queue. -/
def State.pushUrgent (f : UpFrame) (s : State) : State :=
  { s with lli := LineLink.startSending { s.lli with urgent := s.lli.urgent ++ [f] } }

/-- A frame placed at the tail of the bulk queue. -/
def State.pushBulk (f : UpFrame) (s : State) : State :=
  { s with lli := LineLink.startSending { s.lli with bulk := s.lli.bulk ++ [f] } }

/-- Whether the queue of an attention class has a place (R38, R39). -/
def LineLink.hasPlaceFor (l : LineLink) : AttnClass → Bool
  | .urgent => l.urgentHasPlace
  | .routine => l.bulkHasPlace

/-- A frame placed in the queue of an attention class (R38). -/
def State.pushFor (c : AttnClass) (f : UpFrame) (s : State) : State :=
  match c with
  | .urgent => s.pushUrgent f
  | .routine => s.pushBulk f

/-! ## Port attention (R38) -/

/-- An attention event of a port. A kind already latched changes nothing. Otherwise the kind is latched and, unless it is
masked, one port NOTICE is placed in the queue of the port's class, or owed where that queue has no place (R38, R39). -/
def State.raise (p : PortId) (k : AttnKind) (d : AttnDetail) (s : State) : State :=
  let q := s.port p
  if q.attention.has k then s
  else
    let latched := q.attention ||| k.only
    let s := s.setPort p { q with attention := latched }
    if q.mask.has k then s
    else if s.lli.hasPlaceFor q.cls then s.pushFor q.cls (.portNotice p k d latched)
    else { s with lli := { s.lli with owed := s.lli.owed ++ [⟨p, k, d⟩] } }

/-! ## Due times (R47) -/

/-- A due time: line time plus an interval, held at 129,599 (R47). -/
def State.dueAfter (s : State) (interval : Nat) : Nat := min Config.lineTimeMax (s.clock.time + interval)

/-- Whether a deadline is due: line time is at or beyond its due time, or it had become due before line time was set
backward (R47). -/
def State.isDue (s : State) (fallen : Bool) (dueTime : Nat) : Bool := fallen || decide (dueTime ≤ s.clock.time)

/-! ## Lists -/

/-- `a` placed before the first member that `before a` holds of: after every member it does not hold of. -/
def insertBefore {α : Type} (before : α → Bool) (a : α) : List α → List α
  | [] => [a]
  | b :: l => if before b then a :: b :: l else b :: insertBefore before a l

/-- `a` at the tail, unless it is there already. -/
def joinTail {α : Type} [DecidableEq α] (a : α) (l : List α) : List α := if a ∈ l then l else l ++ [a]

end Sys2Proof.Machine
end

