-- ==== Sys2Proof/Machine/Operands.lean ====
section
/-! DEFINITION. The operands of the downstream frames: byte order, the arguments of a COMMAND and of a VIEW (R193), the
header and row bodies of a LOAD, the fields of a REFERRAL_ANSWER (R191). -/

namespace Sys2Proof.Machine

/-! ## Byte order: most significant byte first (12, opening paragraph) -/

/-- The number a run of bytes carries, most significant byte first. -/
def beNat (bytes : List Byte) : Nat := bytes.foldl (fun n b => 256 * n + b.toNat) 0

/-- The low `size` bytes of a number, most significant byte first. -/
def beBytes : Nat → Nat → List Byte
  | 0, _ => []
  | size + 1, n => BitVec.ofNat 8 (n / 256 ^ size) :: beBytes size n

/-- The number in the `size` bytes at an offset. -/
def fieldAt (body : List Byte) (offset size : Nat) : Nat := beNat ((body.drop offset).take size)

/-! ## Commands (R193) -/

/-- The commands of the command table. -/
inductive CommandCode where
  | portAttach | portDetach | setPortOptions | clearAttention | setTime | rollDay | arm | disarm | copyActive
  | setDisposition | captureCounters | engineReset
  deriving DecidableEq, Repr

/-- The command of a command code, if it is one of the table (R193). -/
def commandOf (code : Byte) : Option CommandCode :=
  match code.toNat with
  | 1 => some .portAttach
  | 2 => some .portDetach
  | 3 => some .setPortOptions
  | 4 => some .clearAttention
  | 5 => some .setTime
  | 6 => some .rollDay
  | 7 => some .arm
  | 8 => some .disarm
  | 9 => some .copyActive
  | 10 => some .setDisposition
  | 11 => some .captureCounters
  | 12 => some .engineReset
  | _ => none

/-- The code of a command (R193). -/
def CommandCode.code : CommandCode → Byte
  | .portAttach => 1
  | .portDetach => 2
  | .setPortOptions => 3
  | .clearAttention => 4
  | .setTime => 5
  | .rollDay => 6
  | .arm => 7
  | .disarm => 8
  | .copyActive => 9
  | .setDisposition => 10
  | .captureCounters => 11
  | .engineReset => 12

/-- The argument length of a command, in bytes (R193). -/
def CommandCode.argLength : CommandCode → Nat
  | .portAttach => 2
  | .portDetach => 1
  | .setPortOptions => 5
  | .clearAttention => 3
  | .setTime => 4
  | .rollDay => 6
  | .arm => 2
  | .disarm => 0
  | .copyActive => 0
  | .setDisposition => 2
  | .captureCounters => 1
  | .engineReset => 0

/-- The command code byte of a COMMAND body. -/
def DownFrame.commandByte (f : DownFrame) : Byte := f.body.headD 0

/-- The arguments of a COMMAND body. -/
def DownFrame.args (f : DownFrame) : List Byte := f.body.drop 1

/-- The command a frame carries: a COMMAND with a known code and the argument length of that code (R179). -/
def DownFrame.command (f : DownFrame) : Option CommandCode :=
  if f.kind = .command then
    match commandOf f.commandByte with
    | some c => if f.args.length = c.argLength then some c else none
    | none => none
  else none

/-- A port number carried in a byte, if it is 0 to 7. -/
def portOf (n : Nat) : Option PortId := if h : n < 8 then some ⟨n, h⟩ else none

/-- A yes-or-no code in the arguments of a COMMAND: 0 no, 1 yes, any other refused (12, opening paragraph). -/
def yesNoOf (n : Nat) : Option Bool :=
  match n with
  | 0 => some false
  | 1 => some true
  | _ => none

/-- An attention class code: routine 0, urgent 1 (R193). -/
def classOf (n : Nat) : Option AttnClass :=
  match n with
  | 0 => some .routine
  | 1 => some .urgent
  | _ => none

/-- A word of attention kinds: a set bit from 8 to 15 names no kind (R193). -/
def attnSetOf (word : Nat) : Option AttnSet := if word < 256 then some (BitVec.ofNat 8 word) else none

/-- A condition word: a set bit from 9 to 15 names no condition (R193). -/
def condSetOf (word : Nat) : Option CondSet := if word < 512 then some (BitVec.ofNat 9 word) else none

/-! ## LOAD (R11, R191) -/

/-- The table of a table code (section 1.3). -/
def tableOf (code : Nat) : Option TableId :=
  match code with
  | 0 => some .line
  | 1 => some .stations
  | 2 => some .bands
  | 3 => some .timebands
  | 4 => some .products
  | 5 => some .concessions
  | _ => none

/-- The code of a table (section 1.3). -/
def TableId.code : TableId → Nat
  | .line => 0
  | .stations => 1
  | .bands => 2
  | .timebands => 3
  | .products => 4
  | .concessions => 5

/-- How many rows a table has (R11). -/
def TableId.rows : TableId → Nat
  | .line => 1
  | .stations => 64
  | .bands => 16
  | .timebands => 8
  | .products => 256
  | .concessions => 16

/-- How many fields a table has (R4 to R10). -/
def TableId.fields : TableId → Nat
  | .line => 10
  | .stations => 5
  | .bands => 3
  | .timebands => 2
  | .products => 7
  | .concessions => 1

/-- The size of a row body, in bytes (R191). -/
def TableId.rowSize : TableId → Nat
  | .line => 21
  | .stations => 9
  | .bands => 5
  | .timebands => 6
  | .products => 15
  | .concessions => 2

/-- A row body read, every field in field-number order (R191). -/
def rowOfBody (t : TableId) (b : List Byte) : TableRow :=
  match t with
  | .line => .line ⟨fieldAt b 0 1, fieldAt b 1 1, fieldAt b 2 2, fieldAt b 4 1, fieldAt b 5 4, fieldAt b 9 4, fieldAt b 13 2,
      fieldAt b 15 2, fieldAt b 17 2, fieldAt b 19 2⟩
  | .stations => .station ⟨fieldAt b 0 1, fieldAt b 1 1, fieldAt b 2 4, fieldAt b 6 1, fieldAt b 7 2⟩
  | .bands => .band ⟨fieldAt b 0 2, fieldAt b 2 2, fieldAt b 4 1⟩
  | .timebands => .timeband ⟨fieldAt b 0 4, fieldAt b 4 2⟩
  | .products => .product ⟨fieldAt b 0 1, fieldAt b 1 2, fieldAt b 3 2, fieldAt b 5 2, fieldAt b 7 2, fieldAt b 9 1,
      fieldAt b 10 1, fieldAt b 11 1, fieldAt b 12 1, fieldAt b 13 1, fieldAt b 14 1⟩
  | .concessions => .concession ⟨fieldAt b 0 2⟩

/-- A LOAD frame read: table code, body count, base row, field mask and the row bodies' bytes (section 1.3, R191). -/
structure LoadArgs where
  tableCode : Nat
  bodyCount : Nat
  baseRow : Nat
  mask : Nat
  bodies : List Byte
  deriving DecidableEq, Repr

/-- The header and the row bodies of a LOAD body (R191). -/
def loadArgsOf (b : List Byte) : LoadArgs := ⟨fieldAt b 0 1, fieldAt b 1 1, fieldAt b 2 2, fieldAt b 4 2, b.drop 6⟩

/-- Row body `i` of a LOAD of table `t`. -/
def LoadArgs.row (a : LoadArgs) (t : TableId) (i : Nat) : TableRow :=
  rowOfBody t ((a.bodies.drop (i * t.rowSize)).take t.rowSize)

/-! ## REFERRAL_ANSWER (section 9.3, R191) -/

/-- The answer of a REFERRAL_ANSWER body, if its kind is one of the three. -/
def answerOfBody (b : List Byte) : Option RefAnswer :=
  match fieldAt b 2 1 with
  | 1 => some (.charge (fieldAt b 4 2) (fieldAt b 3 1 != 0))
  | 2 => some .void
  | 3 => some (.reprice (fieldAt b 6 1))
  | _ => none

/-- The ticket of a REFERRAL_ANSWER body. -/
def ticketOfBody (b : List Byte) : BitVec 16 := BitVec.ofNat 16 (fieldAt b 0 2)

/-- The slot number of a ticket: ticket = use count × 256 + slot (R149). -/
def slotOfTicket (t : BitVec 16) : Fin 256 := ⟨t.toNat % 256, by omega⟩

/-- The use count of a ticket (R149). -/
def useOfTicket (t : BitVec 16) : BitVec 8 := BitVec.ofNat 8 (t.toNat / 256)

/-- The ticket of a use count and a slot (R149). -/
def ticketOf (use : BitVec 8) (slot : Fin 256) : BitVec 16 := BitVec.ofNat 16 (use.toNat * 256 + slot.val)

/-! ## VIEW (R186, R193) -/

/-- What a VIEW body asks for: a selector with its arguments, the last selection again, or something refused. -/
inductive ViewAsk where
  | select (v : ViewSel)
  | again
  | refused
  deriving DecidableEq, Repr

/-- The bank role of a TABLE_ROW argument: ACTIVE 1, PENDING 2 (R193). -/
def roleOf (n : Nat) : Option BankRole :=
  match n with
  | 1 => some .active
  | 2 => some .pending
  | _ => none

/-- A TABLE_ROW selector's arguments checked (R186). -/
def tableRowAsk (a : List Byte) : ViewAsk :=
  match roleOf (fieldAt a 0 1), tableOf (fieldAt a 1 1) with
  | some role, some t => if fieldAt a 2 2 < t.rows then .select (.tableRow role t (fieldAt a 2 2)) else .refused
  | _, _ => .refused

/-- A VIEW body read: the refusals of R186 but for an absent card, which needs the journey table. -/
def viewAskOf (b : List Byte) : ViewAsk :=
  let a := b.drop 1
  match fieldAt b 0 1 with
  | 0 => if a.length = 0 then .again else .refused
  | 1 => if a.length = 0 then .select .identity else .refused
  | 2 => if a.length = 0 then .select .line else .refused
  | 3 =>
    if a.length = 1 then
      match portOf (fieldAt a 0 1) with
      | some p => .select (.port p)
      | none => .refused
    else .refused
  | 4 =>
    if a.length = 10 then .select (.card (BitVec.ofNat 64 (fieldAt a 0 8)) (BitVec.ofNat 16 (fieldAt a 8 2)))
    else .refused
  | 5 => if a.length = 4 then tableRowAsk a else .refused
  | 6 => if a.length = 0 then .select .counters else .refused
  | _ => .refused

/-! ## Taking the head of the receive list (R179) -/

/-- The frame at the head of the receive list, taken: it leaves the list, and the free urgent place that admits the taking
is held for its REPLY. None where no free urgent place exists or the head is not of this kind. -/
def State.takeKind (s : State) (k : DownKind) : Option (DownFrame × State) :=
  match s.lli.receive with
  | f :: rest =>
    if s.lli.urgentHasPlace && f.kind == k then
      some (f, { s with lli := { s.lli with receive := rest, replyHeld := true } })
    else none
  | [] => none

/-- The COMMAND at the head of the receive list taken, where it is this command with arguments of its length (R179). -/
def State.takeCommand (s : State) (c : CommandCode) : Option (DownFrame × State) :=
  match s.takeKind .command with
  | some (f, t) => if f.command = some c then some (f, t) else none
  | none => none

/-- The request kind a REPLY returns (R180). -/
def DownFrame.requestKind (f : DownFrame) : RequestKind :=
  match f.kind with
  | .command => .command f.commandByte
  | .load => .load
  | .referralAnswer => .referralAnswer
  | .view => .view

/-- The REPLY of the frame being taken, placed into the place held for it (R179, R180). -/
def State.replyFull (f : DownFrame) (st : Status) (failing : Option (TableId × Nat)) (contents : Option ViewContents)
    (s : State) : State :=
  State.pushUrgent (.reply f.request f.requestKind st failing contents) { s with lli := { s.lli with replyHeld := false } }

/-- A REPLY that carries a status alone. -/
def State.reply (f : DownFrame) (st : Status) (s : State) : State := s.replyFull f st none none

end Sys2Proof.Machine
end

