-- ==== Sys2Proof/Machine/Framing.lean ====
section
/-! DEFINITION. The byte formats of the two links (R190 to R193): check sequences, byte stuffing, received gate frames as
commands, received line frames classified, and the bytes of every frame sent. -/

namespace Sys2Proof.Config

open Sys2Proof.Machine

/-- The body of a NOTICE, TAP_NOTICE or DAY_SUMMARY: the spec names its fields and gives no layout (DESIGN CHOICE, log 11). -/
opaque noticeBody : UpFrame → List Byte

/-- The value bytes of a view's item of this place in the answer: the spec gives no item its size or its coding (DESIGN CHOICE, log 11). -/
opaque viewItemValue : ViewContents → Nat → List Byte

end Sys2Proof.Config

namespace Sys2Proof.Machine

/-! ## The gate link's check sequence and byte stuffing (R190) -/

/-- One bit of the CRC-16 register: x^16 + x^12 + x^5 + 1, most significant bit first. -/
def crc16Shift (r : BitVec 16) : BitVec 16 := if r.msb then (r <<< 1) ^^^ 0x1021 else r <<< 1

/-- One byte entered into the CRC-16 register. -/
def crc16Byte (r : BitVec 16) (b : Byte) : BitVec 16 :=
  (List.range 8).foldl (fun r _ => crc16Shift r) (r ^^^ (b.setWidth 16 <<< 8))

/-- The CRC-16 of a run of bytes, from a register of all ones, without final inversion. -/
def crc16 (bytes : List Byte) : BitVec 16 := bytes.foldl crc16Byte 0xFFFF

/-- Kind byte and body followed by their CRC-16, most significant byte first. -/
def withCrc16 (bytes : List Byte) : List Byte := bytes ++ beBytes 2 (crc16 bytes).toNat

/-- The frame delimiter. -/
def delimiter : Byte := 0x7E

/-- The escape byte. -/
def escape : Byte := 0x7D

/-- Bytes as they stand between two delimiters: 7E and 7D sent as 7D and the byte exclusive-or 20. -/
def stuff : List Byte → List Byte
  | [] => []
  | b :: l => if b = delimiter ∨ b = escape then escape :: (b ^^^ 0x20) :: stuff l else b :: stuff l

/-- The stuffing undone: an escape and the byte behind it are that byte exclusive-or 20, also where no sender produces the byte (not
5E or 5D); none for an escape with nothing behind it, which is no frame the rule can undo (DESIGN CHOICE, log 37). -/
def unstuff : List Byte → Option (List Byte)
  | [] => some []
  | [b] => if b = escape then none else some [b]
  | b :: c :: l => if b = escape then (unstuff l).map ((c ^^^ 0x20) :: ·) else (unstuff (c :: l)).map (b :: ·)

/-! ## Received gate frames (R190) -/

/-- The kind codes of the inbound gate frames. -/
def tapKindCode : Nat := 1
/-- BEACON. -/
def beaconKindCode : Nat := 2
/-- HUB_STATE. -/
def hubStateKindCode : Nat := 3
/-- ATTACH_ACK. -/
def attachAckKindCode : Nat := 4

/-- One item of a TAP frame read from its four bytes. -/
def readItem (b : List Byte) : TapItem :=
  { kind := b.getD 0 0
    join := (b.getD 1 0).getLsbD 0
    last := (b.getD 1 0).getLsbD 1
    value := BitVec.ofNat 16 (fieldAt b 2 2) }

/-- The items of a TAP frame read in order. -/
def readItems : Nat → List Byte → List TapItem
  | 0, _ => []
  | n + 1, b => readItem (b.take 4) :: readItems n (b.drop 4)

/-- The fields of a TAP frame, by the offsets of R190. -/
def readTap (f : List Byte) : TapFrame where
  tapNumber := BitVec.ofNat 16 (fieldAt f 1 2)
  direction := if (f.getD 3 0).getLsbD 0 then .tapOut else .tapIn
  live := (f.getD 3 0).getLsbD 1
  card := BitVec.ofNat 64 (fieldAt f 4 8)
  station := f.getD 12 0
  product := f.getD 13 0
  hubSeq := BitVec.ofNat 32 (fieldAt f 14 4)
  hubDay := BitVec.ofNat 16 (fieldAt f 18 2)
  hubTime := BitVec.ofNat 32 (fieldAt f 20 4)
  items := readItems (fieldAt f 24 1) (f.drop 25)

/-- Whether a frame is at least 3 bytes long and its CRC-16 checks. -/
def crc16Checks (f : List Byte) : Bool :=
  decide (3 ≤ f.length) && fieldAt f (f.length - 2) 2 == (crc16 (f.take (f.length - 2))).toNat

/-- A frame's bytes, stuffing undone, as the command it spells on a port: a good frame by its kind, where its length is the one
its kind requires; otherwise a bad frame (R31, R190). -/
def readGateFrame (p : PortId) (f : List Byte) : Instr :=
  if crc16Checks f then
    if fieldAt f 0 1 = tapKindCode then
      (if 27 ≤ f.length ∧ fieldAt f 24 1 ≤ 6 ∧ f.length = 27 + 4 * fieldAt f 24 1 then .tap p (readTap f) else .badFrame p)
    else if fieldAt f 0 1 = beaconKindCode then
      (if f.length = 9 then .beacon p (BitVec.ofNat 32 (fieldAt f 1 4)) (BitVec.ofNat 16 (fieldAt f 5 2)) else .badFrame p)
    else if fieldAt f 0 1 = hubStateKindCode then
      (if f.length = 5 then .hubState p (f.getD 1 0 != 0) (f.getD 2 0) else .badFrame p)
    else if fieldAt f 0 1 = attachAckKindCode then
      (if f.length = 7 then .attachAck p (f.getD 1 0 == 1) (f.getD 2 0) (BitVec.ofNat 16 (fieldAt f 3 2)) else .badFrame p)
    else .badFrame p
  else .badFrame p

/-- What the bytes between two delimiters spell on a port; two delimiters with no byte between them make no frame. -/
def receiveGate (p : PortId) (bytes : List Byte) : Option Instr :=
  if bytes = [] then none
  else match unstuff bytes with
    | some f => some (readGateFrame p f)
    | none => some (.badFrame p)

/-! ## Gate frames as a hub sends them (R190) -/

/-- A bit as a number. -/
def bitOf (b : Bool) : Nat := if b then 1 else 0

/-- One item's four bytes. -/
def itemBytes (i : TapItem) : List Byte :=
  i.kind :: BitVec.ofNat 8 (bitOf i.join + 2 * bitOf i.last) :: beBytes 2 i.value.toNat

/-- Kind and body of a TAP frame. -/
def tapBytes (f : TapFrame) : List Byte :=
  beBytes 1 tapKindCode ++ beBytes 2 f.tapNumber.toNat ++
    [BitVec.ofNat 8 (bitOf (f.direction == .tapOut) + 2 * bitOf f.live)] ++ beBytes 8 f.card.toNat ++
    [f.station, f.product] ++ beBytes 4 f.hubSeq.toNat ++ beBytes 2 f.hubDay.toNat ++ beBytes 4 f.hubTime.toNat ++
    beBytes 1 f.items.length ++ f.items.flatMap itemBytes

/-- Kind and body of the gate frame that spells a command, and its port; none for a command that no good gate frame spells. -/
def gateFrameOf : Instr → Option (PortId × List Byte)
  | .tap p f => some (p, tapBytes f)
  | .beacon p t d => some (p, beBytes 1 beaconKindCode ++ beBytes 4 t.toNat ++ beBytes 2 d.toNat)
  | .hubState p alarm code => some (p, beBytes 1 hubStateKindCode ++ beBytes 1 (bitOf alarm) ++ [code])
  | .attachAck p positive echo first =>
    some (p, beBytes 1 attachAckKindCode ++ beBytes 1 (bitOf positive) ++ [echo] ++ beBytes 2 first.toNat)
  | _ => none

/-! ## Gate frames the engine sends (R190) -/

/-- The answer, detail and fare bytes of a GATE_ANSWER. -/
def answerBytes : Answer → List Byte
  | .go (some fare) => beBytes 1 1 ++ beBytes 1 1 ++ beBytes 2 fare
  | .go none => beBytes 1 1 ++ beBytes 1 0 ++ beBytes 2 0
  | .goProvisional => beBytes 1 2 ++ beBytes 1 0 ++ beBytes 2 0
  | .refuseProductInvalid => beBytes 1 3 ++ beBytes 1 1 ++ beBytes 2 0

/-- Kind and body of an outbound gate frame. -/
def GateFrame.bytes : GateFrame → List Byte
  | .attachReq p limit interval stations =>
    beBytes 1 8 ++ beBytes 1 p.val ++ beBytes 1 limit ++ beBytes 1 interval ++ beBytes 1 stations.length ++
      stations.flatMap (beBytes 1)
  | .credit limit => beBytes 1 9 ++ beBytes 2 limit.toNat
  | .gateAnswer n a => beBytes 1 10 ++ beBytes 2 n.toNat ++ answerBytes a
  | .detach p => beBytes 1 11 ++ beBytes 1 p.val

/-- The bytes of an outbound gate frame on the wire: its CRC-16 appended, stuffed, between delimiters. -/
def gateWireBytes (f : GateFrame) : List Byte := delimiter :: stuff (withCrc16 f.bytes) ++ [delimiter]

/-! ## The Ethernet frame (R191; its own layout and check sequence from the standard, PRESUMED, log 8) -/

/-- One bit of the CRC-32 register, reflected. -/
def crc32Shift (r : BitVec 32) : BitVec 32 := if r.getLsbD 0 then (r >>> 1) ^^^ 0xEDB88320 else r >>> 1

/-- One byte entered into the CRC-32 register. -/
def crc32Byte (r : BitVec 32) (b : Byte) : BitVec 32 :=
  (List.range 8).foldl (fun r _ => crc32Shift r) (r ^^^ b.setWidth 32)

/-- The Ethernet frame check sequence of a run of bytes, as a number. -/
def crc32 (bytes : List Byte) : BitVec 32 := ~~~(bytes.foldl crc32Byte 0xFFFFFFFF)

/-- The frame check sequence as it is sent: least significant byte first. -/
def fcsBytes (bytes : List Byte) : List Byte := (beBytes 4 (crc32 bytes).toNat).reverse

/-- The engine's frame type (R191). -/
def engineType : Nat := 0x9A44

/-- Bytes of an Ethernet frame before the engine header: destination, source, type. -/
abbrev etherHeader : Nat := 14

/-- Bytes of the engine header: kind, request number, body length. -/
abbrev engineHeader : Nat := 5

/-- The downstream kind of a kind code (R191). -/
def downKindOf (code : Nat) : Option DownKind :=
  match code with
  | 1 => some .command
  | 2 => some .load
  | 3 => some .referralAnswer
  | 4 => some .view
  | _ => none

/-- Whether a body length meets its kind's fixed part (R191). -/
def DownKind.lengthOk : DownKind → Nat → Bool
  | .command, n => decide (1 ≤ n)
  | .load, n => decide (6 ≤ n)
  | .referralAnswer, n => n == 7
  | .view, n => decide (1 ≤ n)

/-- What a line frame is found to be when its reception ends, before the room in the receive list is looked at (R178). -/
inductive LineCase where
  | foreign
  | bad
  | unexpected
  | good (source : BitVec 48) (f : DownFrame)
  deriving DecidableEq, Repr

/-- Steps 1 to 3 of R178. A frame too short to hold a type field, or the engine header and the check sequence, is a bad frame
(DEDUCED, log 9). -/
def classifyLine (b : List Byte) : LineCase :=
  if b.length < etherHeader then .bad
  else if fieldAt b 12 2 ≠ engineType then .foreign
  else if b.length < etherHeader + engineHeader + 4 then .bad
  else
    let covered := b.take (b.length - 4)
    let kind := downKindOf (fieldAt b 14 1)
    let bodyLength := fieldAt b 17 2
    if b.drop (b.length - 4) ≠ fcsBytes covered then .bad
    else if covered.length < etherHeader + engineHeader + bodyLength then .bad
    else match kind with
      | none => .unexpected
      | some k =>
        if k.lengthOk bodyLength then
          .good (BitVec.ofNat 48 (fieldAt b 6 6))
            ⟨k, BitVec.ofNat 16 (fieldAt b 15 2), (b.drop (etherHeader + engineHeader)).take bodyLength⟩
        else .bad

/-- The kind code of a downstream frame (R191). -/
def DownKind.code : DownKind → Nat
  | .command => 1
  | .load => 2
  | .referralAnswer => 3
  | .view => 4

/-- Zero bytes that bring a payload to the Ethernet minimum of 46 (R191). -/
def padding (payload : Nat) : List Byte := List.replicate (46 - payload) 0

/-- A downstream frame as the line server sends it, but for its check sequence: addresses, type, engine header, body,
padding. -/
def DownFrame.covered (dest source : BitVec 48) (f : DownFrame) : List Byte :=
  beBytes 6 dest.toNat ++ beBytes 6 source.toNat ++ beBytes 2 engineType ++ beBytes 1 f.kind.code ++
    beBytes 2 f.request.toNat ++ beBytes 2 f.body.length ++ f.body ++ padding (engineHeader + f.body.length)

/-- The bytes of a downstream frame on the wire (R191). -/
def DownFrame.wire (dest source : BitVec 48) (f : DownFrame) : List Byte :=
  f.covered dest source ++ fcsBytes (f.covered dest source)

/-! ## Bodies of the upstream frames (R191 to R193) -/

/-- The code of a work kind. -/
def WorkKind.code : WorkKind → Nat
  | .priceJourney => 1
  | .priceIncomplete => 2
  | .priceOriginUnknown => 3
  | .settle => 4
  | .reprice => 5

/-- The code of an origin source. -/
def OriginSource.code : OriginSource → Nat
  | .none => 0
  | .tap => 1
  | .hint => 2
  | .referral => 3

/-- The code of a condition: its priority (R137). -/
def Condition.code (c : Condition) : Nat := c.bitNo + 1

/-- The code of a lead condition, NONE 0. -/
def leadCode (c : Option Condition) : Nat := (c.map Condition.code).getD 0

/-- The code of a divert reason. -/
def DivertReason.code : DivertReason → Nat
  | .condition c => c.code
  | .referredProduct => 10

/-- A presence or flags word: bit i set where the i-th is. -/
def bitsWord (bits : List Bool) : Nat := bits.foldr (fun b n => bitOf b + 2 * n) 0

/-- The presence word of a JOURNEY. -/
def JourneyFrame.presence (j : JourneyFrame) : Nat :=
  bitsWord [j.originStation.isSome, j.inTime.isSome, j.destStation.isSome, j.distance.isSome, j.units.isSome,
    j.bandRow.isSome, j.concessionClass.isSome, j.timeFactor.isSome, j.fare.isSome, j.dayTotal.isSome, j.ticket.isSome,
    j.authRef.isSome]

/-- The body of a JOURNEY. -/
def JourneyFrame.body (j : JourneyFrame) : List Byte :=
  beBytes 8 j.card.toNat ++ beBytes 2 j.day.toNat ++ beBytes 1 j.kind.code ++ beBytes 1 j.source.code ++
  beBytes 2 j.presence ++ beBytes 1 (bitsWord [j.inClock, j.outClock, j.unavailable, j.timedOut]) ++
  beBytes 1 (j.originStation.getD 0) ++ beBytes 4 (j.inTime.getD 0) ++ beBytes 1 ((j.inPort.map Fin.val).getD 0) ++
  beBytes 1 (j.destStation.getD 0) ++ beBytes 4 (j.outTime.getD 0) ++ beBytes 1 ((j.outPort.map Fin.val).getD 0) ++
  [j.product] ++ beBytes 4 (j.distance.getD 0) ++ beBytes 2 (j.units.getD 0) ++ beBytes 1 (j.bandRow.getD 0) ++
  beBytes 1 j.companions ++ beBytes 1 (j.concessionClass.getD 0) ++ beBytes 2 (j.concessionFactor.getD 0) ++
  beBytes 2 (j.timeFactor.getD 0) ++ beBytes 2 (j.fare.getD 0) ++ beBytes 2 j.charged ++ beBytes 4 (j.dayTotal.getD 0) ++
  beBytes 2 j.conds.toNat ++ beBytes 1 (leadCode j.conds.lead) ++ beBytes 2 ((j.ticket.map BitVec.toNat).getD 0) ++
  beBytes 4 (j.authRef.getD 0) ++ beBytes 2 j.generation ++ beBytes 4 j.time

/-- The presence word of a REFERRAL_REQUEST. -/
def RequestFrame.presence (r : RequestFrame) : Nat :=
  bitsWord [r.origin.isSome, r.dest.isSome, r.distance.isSome, r.units.isSome, r.fare.isSome, r.authRef.isSome]

/-- A half's station, time, port and product, 0 where it is absent. -/
def halfBytes (h : Option Half) : List Byte :=
  match h with
  | some h => beBytes 1 h.station ++ beBytes 4 h.time ++ beBytes 1 h.port.val ++ [h.product]
  | none => beBytes 7 0

/-- The clock flag of a half. -/
def halfClock (h : Option Half) : Bool := (h.map Half.clock).getD false

/-- The body of a REFERRAL_REQUEST. -/
def RequestFrame.body (r : RequestFrame) : List Byte :=
  beBytes 2 r.ticket.toNat ++ beBytes 8 r.card.toNat ++ beBytes 2 r.day.toNat ++ beBytes 1 r.kind.code ++
  beBytes 1 r.source.code ++ beBytes 2 r.presence ++ beBytes 1 (bitsWord [halfClock r.origin, halfClock r.dest]) ++
  halfBytes r.origin ++ halfBytes r.dest ++ beBytes 4 (r.distance.getD 0) ++ beBytes 2 (r.units.getD 0) ++
  beBytes 2 (r.fare.getD 0) ++ beBytes 1 r.reason.code ++ beBytes 2 r.conds.toNat ++ beBytes 1 (leadCode r.conds.lead) ++
  beBytes 4 (r.authRef.getD 0) ++ beBytes 2 r.generation ++ beBytes 4 r.dueTime ++ beBytes 4 r.time

/-- The code of a status. -/
def Status.code : Status → Nat
  | .done => 0
  | .busy => 1
  | .badState => 2
  | .badArgument => 3
  | .tableInvalid => 4
  | .bankArmed => 5
  | .late => 6
  | .alreadyAnswered => 7
  | .notFound => 8

/-- The kind code and the command code of a request (R191: REPLY offsets 0 and 1). -/
def RequestKind.bytes : RequestKind → List Byte
  | .command code => beBytes 1 1 ++ [code]
  | .load => beBytes 1 2 ++ [0]
  | .referralAnswer => beBytes 1 3 ++ [0]
  | .view => beBytes 1 4 ++ [0]

/-- How many entries stand at each item of a view, in the order of the view's rule: 1 for a plain item, one each for the
entries of a list (R187 to R189, R191; the split of the wording of R187 to R189 into items, a PRODUCTS row's count and kind
positions among them, and the LINE view's copy in flight with its position as one item: DEDUCED, log 34). -/
def ViewContents.itemCounts : ViewContents → List Nat
  | .identity _ _ _ _ => List.replicate 4 1
  | .line _ => List.replicate 13 1 ++ [4] ++ List.replicate 22 1
  | .port _ => List.replicate 16 1
  | .card r => List.replicate 7 1 ++ [r.held.length, r.recent.length, 1]
  | .tableRow (.line _) => List.replicate 10 1
  | .tableRow (.station _) => List.replicate 5 1
  | .tableRow (.band _) => List.replicate 3 1
  | .tableRow (.timeband _) => List.replicate 2 1
  | .tableRow (.product _) => List.replicate 7 1 ++ [4]
  | .tableRow (.concession _) => [1]
  | .counters _ => List.replicate 119 1

/-- The item codes of a view in the order they are carried: the place of each item, from 1, repeated once per entry
(R191, R193). -/
def ViewContents.itemCodes (c : ViewContents) : List Nat :=
  c.itemCounts.zipIdx.flatMap fun (n, i) => List.replicate n (i + 1)

/-- The items of a view: code, value length, value (R191). -/
def ViewContents.items (c : ViewContents) : List Byte :=
  c.itemCodes.zipIdx.flatMap fun (code, k) =>
    let value := (Config.viewItemValue c k).take 255
    beBytes 2 code ++ beBytes 1 value.length ++ value

/-- The body of a REPLY. -/
def replyBody (kind : RequestKind) (st : Status) (failing : Option (TableId × Nat)) (contents : Option ViewContents) :
    List Byte :=
  kind.bytes ++ beBytes 1 st.code ++ beBytes 1 ((failing.map fun x => x.1.code).getD 0) ++
    beBytes 2 ((failing.map Prod.snd).getD 0) ++ (contents.map ViewContents.items).getD []

/-- The kind code of an upstream frame (R191). -/
def UpFrame.code : UpFrame → Nat
  | .reply .. => 16
  | .portNotice .. => 17
  | .started .. => 17
  | .dayOverrun .. => 17
  | .rollDone _ => 17
  | .journey _ => 18
  | .referralRequest _ => 19
  | .tapNotice _ => 20
  | .daySummary _ => 21

/-- The request number of an upstream frame: a REPLY's own, 0 otherwise (R191). -/
def UpFrame.request : UpFrame → BitVec 16
  | .reply n _ _ _ _ => n
  | _ => 0

/-- The body of an upstream frame. -/
def UpFrame.body : UpFrame → List Byte
  | .reply _ kind st failing contents => replyBody kind st failing contents
  | .journey j => j.body
  | .referralRequest r => r.body
  | f => Config.noticeBody f

/-- Everything of a line frame but its check sequence: addresses, type, engine header, body, padding. -/
def UpFrame.covered (dest : BitVec 48) (f : UpFrame) : List Byte :=
  beBytes 6 dest.toNat ++ beBytes 6 Config.stationAddress.toNat ++ beBytes 2 engineType ++
    beBytes 1 f.code ++ beBytes 2 f.request.toNat ++ beBytes 2 f.body.length ++ f.body ++
    padding (engineHeader + f.body.length)

/-- The bytes of an upstream frame on the wire, sent to a destination (R178, R191). -/
def lineWireBytes (dest : BitVec 48) (f : UpFrame) : List Byte := f.covered dest ++ fcsBytes (f.covered dest)

/-- The bytes in transmission, if any: the head of the queue that `transmitting` names (R182), to the destination kept with it
(R192). -/
def LineLink.wire (l : LineLink) : Option (List Byte) :=
  match l.transmitting with
  | some .urgent => l.urgentTo.bind fun dest => l.urgent.head?.map (lineWireBytes dest)
  | some .bulk => l.bulkTo.bind fun dest => l.bulk.head?.map (lineWireBytes dest)
  | none => none

end Sys2Proof.Machine
end

