-- ==== Sys2Proof/Machine/Tables.lean ====
section
/-! DEFINITION. The Table Store: loading, copying, validating and arming the pending bank, the change of roles, and the bank
that prices a day (R1 to R22). -/

namespace Sys2Proof.Machine

/-! ## Rows -/

/-- A row of a table of a bank, whole. -/
def Bank.row (b : Bank) (t : TableId) (i : Nat) : Option TableRow :=
  match t with
  | .line => if i = 0 then some (.line b.line) else none
  | .stations => b.stations[i]?.map .station
  | .bands => b.bands[i]?.map .band
  | .timebands => b.timebands[i]?.map .timeband
  | .products => b.products[i]?.map .product
  | .concessions => b.concessions[i]?.map .concession

/-- A bank with one row of table `t` replaced; a row of another table, or a row number the table does not have, changes
nothing. -/
def Bank.setRow (b : Bank) (t : TableId) (i : Nat) (r : TableRow) : Bank :=
  match t, r with
  | .line, .line r => if i = 0 then { b with line := r } else b
  | .stations, .station r => { b with stations := b.stations.setIfInBounds i r }
  | .bands, .band r => { b with bands := b.bands.setIfInBounds i r }
  | .timebands, .timeband r => { b with timebands := b.timebands.setIfInBounds i r }
  | .products, .product r => { b with products := b.products.setIfInBounds i r }
  | .concessions, .concession r => { b with concessions := b.concessions.setIfInBounds i r }
  | _, _ => b

/-- The old value of a field, or the new one where the mask names the field's number. -/
def masked (mask : Nat) (field : Nat) (old new : Nat) : Nat := if mask.testBit field then new else old

/-- The fields the mask names taken from `new`, the others kept from `old` (R12); PRODUCTS field 6 is the whole expected
list, count and positions together (R9). -/
def mergeRow (mask : Nat) (old new : TableRow) : TableRow :=
  let m := masked mask
  match old, new with
  | .line o, .line n => .line ⟨m 0 o.bandCount n.bandCount, m 1 o.timeBandCount n.timeBandCount, m 2 o.ceiling n.ceiling,
      m 3 o.rounding n.rounding, m 4 o.junction1 n.junction1, m 5 o.junction2 n.junction2, m 6 o.journeyLimit n.journeyLimit,
      m 7 o.holdWindow n.holdWindow, m 8 o.referralTimeout n.referralTimeout, m 9 o.generation n.generation⟩
  | .station o, .station n => .station ⟨m 0 o.enabled n.enabled, m 1 o.branch n.branch, m 2 o.chainage n.chainage,
      m 3 o.servingPort n.servingPort, m 4 o.farUnits n.farUnits⟩
  | .band o, .band n => .band ⟨m 0 o.upper n.upper, m 1 o.base n.base, m 2 o.rate n.rate⟩
  | .timeband o, .timeband n => .timeband ⟨m 0 o.start n.start, m 1 o.factor n.factor⟩
  | .product o, .product n => .product ⟨m 0 o.kind n.kind, m 1 o.flat n.flat, m 2 o.minUnits n.minUnits,
      m 3 o.defaultFactor n.defaultFactor, m 4 o.cap n.cap, m 5 o.policy n.policy, m 6 o.expectedCount n.expectedCount,
      m 6 o.expected0 n.expected0, m 6 o.expected1 n.expected1, m 6 o.expected2 n.expected2, m 6 o.expected3 n.expected3⟩
  | .concession o, .concession n => .concession ⟨m 0 o.factor n.factor⟩
  | old, _ => old

/-- One row body written under the mask into row `i` of table `t`. -/
def Bank.writeMasked (b : Bank) (t : TableId) (mask i : Nat) (new : TableRow) : Bank :=
  match b.row t i with
  | some old => b.setRow t i (mergeRow mask old new)
  | none => b

/-- The row bodies of a LOAD written in order: body `i` into row (base row + i) modulo the table's row count (R12). -/
def Bank.loadRows (b : Bank) (t : TableId) (a : LoadArgs) : Bank :=
  (List.range a.bodyCount).foldl (fun b i => b.writeMasked t a.mask ((a.baseRow + i) % t.rows) (a.row t i)) b

/-! ## The armed mark and the roles -/

/-- The armed mark of the pending bank (R14): an armed generation is held. -/
def TableStore.armed (ts : TableStore) : Bool := ts.armedGen.isSome

/-- Whether a copy is in flight (R1). -/
def TableStore.copying (ts : TableStore) : Bool := ts.copyPos.isSome

/-- The armed bank takes the active role; the bank that was active takes the pending role, keeps its contents and is
unarmed (R1). -/
def TableStore.swapRoles (ts : TableStore) : TableStore :=
  { ts with active := ts.prep, prep := ts.active, activeValid := true, activeGen := ts.armedGen, armedGen := none }

/-- The bank that prices a service day (R2, R116): outside a roll the active bank; while ROLLING the active bank for the
old day, and for the new day the armed bank if the pending bank is armed. For a day that is neither, which R2 and R116 do not
name, it is the new day's bank (DESIGN CHOICE, log 38). -/
def State.bankFor (s : State) (day : Day) : Bank :=
  if s.roll.state = .rolling ∧ s.roll.oldDay ≠ some day ∧ s.tables.armed then s.tables.prep else s.tables.active

/-! ## Validation (R19, R20) -/

/-- LINE passes (R20, ranges of R4). -/
def LineRow.passes (r : LineRow) : Bool :=
  decide (1 ≤ r.bandCount ∧ r.bandCount ≤ 16 ∧ 1 ≤ r.timeBandCount ∧ r.timeBandCount ≤ 8 ∧ 1 ≤ r.ceiling ∧
    r.ceiling ≤ 65535 ∧ r.rounding ≤ 3 ∧ r.junction1 ≤ 99999 ∧ r.junction2 ≤ 99999 ∧ 60 ≤ r.journeyLimit ∧
    r.journeyLimit ≤ 14400 ∧ 60 ≤ r.holdWindow ∧ r.holdWindow ≤ 14400 ∧ 1 ≤ r.referralTimeout ∧ r.referralTimeout ≤ 600)

/-- Whether a station is enabled: a yes-or-no field of a row body, 0 for no and any other value for yes (12). -/
def StationRow.isEnabled (r : StationRow) : Bool := r.enabled != 0

/-- A STATIONS row passes (R20). -/
def StationRow.passes (r : StationRow) : Bool :=
  !r.isEnabled || decide (r.branch ≤ 2 ∧ r.chainage ≤ 99999 ∧ r.servingPort ≤ 7 ∧ r.farUnits ≤ 3000)

/-- The upper units of a BANDS row. -/
def Bank.upper (b : Bank) (i : Nat) : Nat := match b.bands[i]? with | some r => r.upper | none => 0

/-- BANDS row `i` passes (R20): U at most 3,000, and above the previous row's U. -/
def Bank.bandPasses (b : Bank) (i : Nat) : Bool :=
  decide (b.upper i ≤ 3000) && (i == 0 || decide (b.upper (i - 1) < b.upper i))

/-- The start of a TIMEBANDS row. -/
def Bank.bandStart (b : Bank) (i : Nat) : Nat := match b.timebands[i]? with | some r => r.start | none => 0

/-- The factor of a TIMEBANDS row. -/
def Bank.bandFactor (b : Bank) (i : Nat) : Nat := match b.timebands[i]? with | some r => r.factor | none => 0

/-- TIMEBANDS row `i` passes (R20). -/
def Bank.timeBandPasses (b : Bank) (i : Nat) : Bool :=
  decide (b.bandStart i ≤ Config.lineTimeMax ∧ b.bandFactor i ≤ 2000) &&
    (if i = 0 then b.bandStart 0 == 0 else decide (b.bandStart (i - 1) < b.bandStart i))

/-- The expected list of a PRODUCTS row: its first count positions (R9). -/
def ProductRow.expected (r : ProductRow) : List Nat :=
  [r.expected0, r.expected1, r.expected2, r.expected3].take r.expectedCount

/-- A PRODUCTS row passes (R20). -/
def ProductRow.passes (r : ProductRow) : Bool :=
  decide (r.kind ≤ 3 ∧ r.flat ≤ 65535 ∧ r.minUnits ≤ 3000 ∧ r.defaultFactor ≤ 2000 ∧ r.cap ≤ 65535 ∧ r.policy ≤ 1 ∧
    r.expectedCount ≤ 4) && r.expected.all fun k => decide (1 ≤ k ∧ k ≤ 4)

/-- Whether the row of a table passes validation; a row the table does not have passes. -/
def Bank.rowPasses (b : Bank) (t : TableId) (i : Nat) : Bool :=
  match t with
  | .line => b.line.passes
  | .stations => match b.stations[i]? with | some r => r.passes | none => true
  | .bands => b.bandPasses i
  | .timebands => b.timeBandPasses i
  | .products => match b.products[i]? with | some r => r.passes | none => true
  | .concessions => match b.concessions[i]? with | some r => decide (r.factor ≤ 2000) | none => true

/-- How many rows of a table validation examines (R20). -/
def Bank.examined (b : Bank) (t : TableId) : Nat :=
  match t with
  | .bands => b.line.bandCount
  | .timebands => b.line.timeBandCount
  | t => t.rows

/-- The first failing row of a table, if any, from row 0 upward. -/
def Bank.firstFailing (b : Bank) (t : TableId) : Option (TableId × Nat) :=
  ((List.range (b.examined t)).find? fun i => !b.rowPasses t i).map fun i => (t, i)

/-- The six tables in the order of validation and of copying (R16, R19). -/
def TableId.inOrder : List TableId := [.line, .stations, .bands, .timebands, .products, .concessions]

/-- Validation: the first row that fails, table by table and row by row (R19). -/
def Bank.validate (b : Bank) : Option (TableId × Nat) := TableId.inOrder.findSome? fun t => b.firstFailing t

/-! ## Copying (R15 to R17) -/

/-- How many rows a copy moves through. -/
abbrev copyRows : Nat := 361

/-- The row a copy position names (R16): none past the last row of CONCESSIONS. -/
def copyRowAt (pos : Nat) : Option (TableId × Nat) :=
  if pos < 1 then some (.line, pos)
  else if pos < 65 then some (.stations, pos - 1)
  else if pos < 81 then some (.bands, pos - 65)
  else if pos < 89 then some (.timebands, pos - 81)
  else if pos < 345 then some (.products, pos - 89)
  else if pos < 361 then some (.concessions, pos - 345)
  else none

/-- A row of `src` copied whole into `dst`. -/
def copyWhole (src dst : Bank) (t : TableId) (i : Nat) : Bank :=
  match src.row t i with
  | some r => dst.setRow t i r
  | none => dst

/-- The REPLY of the COPY_ACTIVE in flight placed into the reserved place, and the reserve released (R180). -/
def State.copyReply (st : Status) (s : State) : State :=
  match s.lli.copyReserve with
  | some request =>
    State.pushUrgent (.reply request (.command CommandCode.copyActive.code) st none none)
      { s with lli := { s.lli with copyReserve := none } }
  | none => s

/-! ## The commands -/

/-- How a LOAD is decided: the status, and the table to write where it is written (R11). -/
def loadDecision (ts : TableStore) (a : LoadArgs) : Status × Option TableId :=
  match tableOf a.tableCode with
  | none => (.badArgument, none)
  | some t =>
    if a.bodyCount < 1 ∨ 4 < a.bodyCount ∨ a.bodies.length ≠ a.bodyCount * t.rowSize then (.badArgument, none)
    else if 2 ^ t.fields ≤ a.mask then (.badArgument, none)
    else if t.rows ≤ a.baseRow then (.badArgument, none)
    else if a.mask = 0 then (.done, none)
    else if ts.armed then (.bankArmed, none)
    else if ts.copying then (.busy, none)
    else (.done, some t)

/-- A LOAD taken (R11, R12, R13). -/
def loadTaken (f : DownFrame) (s : State) : State :=
  let a := loadArgsOf f.body
  match loadDecision s.tables a with
  | (st, some t) => ({ s with tables := { s.tables with prep := s.tables.prep.loadRows t a } } : State).reply f st
  | (st, none) => s.reply f st

/-- LOAD. -/
def execLoad (s : State) : Host.Outcome State Fault Refusal :=
  match s.takeKind .load with
  | some (f, s) => .next (loadTaken f s)
  | none => .next s

/-- How an ARM is decided: the status, and the failing row for TABLE_INVALID (R18). -/
def armDecision (s : State) (generation : Nat) : Status × Option (TableId × Nat) :=
  if s.roll.state = .rolling then (.badState, none)
  else if s.tables.copying then (.busy, none)
  else if s.tables.armed then (.bankArmed, none)
  else if generation ≠ s.tables.prep.line.generation then (.badArgument, none)
  else match s.tables.prep.validate with
    | some failing => (.tableInvalid, some failing)
    | none => (.done, none)

/-- An ARM taken (R18). -/
def armTaken (f : DownFrame) (s : State) : State :=
  let generation := fieldAt f.args 0 2
  let d := armDecision s generation
  if d.1 = .done then
    ({ s with tables := { s.tables with armedGen := some generation } } : State).reply f .done
  else s.replyFull f d.1 d.2 none

/-- ARM. -/
def execArm (s : State) : Host.Outcome State Fault Refusal :=
  match s.takeCommand .arm with
  | some (f, s) => .next (armTaken f s)
  | none => .next s

/-- A DISARM taken (R21). -/
def disarmTaken (f : DownFrame) (s : State) : State :=
  if s.roll.state = .rolling then s.reply f .badState
  else ({ s with tables := { s.tables with armedGen := none } } : State).reply f .done

/-- DISARM. -/
def execDisarm (s : State) : Host.Outcome State Fault Refusal :=
  match s.takeCommand .disarm with
  | some (f, s) => .next (disarmTaken f s)
  | none => .next s

/-- A COPY_ACTIVE taken (R15): the copy starts at row 0 of LINE, and the copy reply reserve holds the place the taking
required (R180). -/
def copyActiveTaken (f : DownFrame) (s : State) : State :=
  if s.tables.armed then s.reply f .bankArmed
  else if s.tables.copying then s.reply f .busy
  else { s with
    tables := { s.tables with copyPos := some 0 }
    lli := { s.lli with replyHeld := false, copyReserve := some f.request } }

/-- COPY_ACTIVE. -/
def execCopyActive (s : State) : Host.Outcome State Fault Refusal :=
  match s.takeCommand .copyActive with
  | some (f, s) => .next (copyActiveTaken f s)
  | none => .next s

/-- The row at the copy position copied whole, and the position advanced (R16). -/
def copyOneRow (ts : TableStore) : TableStore :=
  match ts.copyPos with
  | some pos =>
    match copyRowAt pos with
    | some (t, i) => { ts with prep := copyWhole ts.active ts.prep t i, copyPos := some (pos + 1) }
    | none => ts
  | none => ts

/-- COPY_ROW. -/
def execCopyRow (s : State) : Host.Outcome State Fault Refusal := .next { s with tables := copyOneRow s.tables }

/-- Whether the copy position of a copy in flight has passed the last row of CONCESSIONS (R17). -/
def TableStore.copyAtEnd (ts : TableStore) : Bool :=
  match ts.copyPos with
  | some pos => (copyRowAt pos).isNone
  | none => false

/-- COPY_COMPLETE (R17). -/
def execCopyComplete (s : State) : Host.Outcome State Fault Refusal :=
  if s.tables.copyAtEnd then
    .next (State.copyReply .done { s with tables := { s.tables with copyPos := none } })
  else .next s

/-- The Table Store's part of ENGINE_RESET (R22): a copy in flight is abandoned. -/
def TableStore.engineReset (ts : TableStore) : TableStore := { ts with copyPos := none }

end Sys2Proof.Machine
end

