-- ==== Sys2Proof/Machine/JourneyTable.lean ====
section
/-! DEFINITION. The Journey Table Controller: buckets and chains, finding, adding and removing card-day records, and the
pending count (R55 to R75). -/

namespace Sys2Proof.Machine

/-! ## Buckets kept by number -/

/-- A bucket as reset leaves it: four free slots and no extension pointer. -/
def Bucket.isEmpty (b : Bucket) : Bool := b.slots.toList.all Option.isNone && b.ext.isNone

/-- The used count of a bucket: the slots that hold a record (R55). -/
def Bucket.used (b : Bucket) : Nat := (b.slots.toList.filter Option.isSome).length

/-- The bucket of a number; an unlisted one is as reset left it. -/
def bucketGet (k : Nat) : List (Nat × Bucket) → Bucket
  | [] => Bucket.empty
  | (j, b) :: l => if j = k then b else bucketGet k l

/-- The bucket of a number replaced, in the canonical form: numbers rising, no bucket listed that is as reset left it. -/
def bucketSet (k : Nat) (b : Bucket) : List (Nat × Bucket) → List (Nat × Bucket)
  | [] => if b.isEmpty then [] else [(k, b)]
  | (j, c) :: l =>
    if k < j then (if b.isEmpty then (j, c) :: l else (k, b) :: (j, c) :: l)
    else if k = j then (if b.isEmpty then l else (k, b) :: l)
    else (j, c) :: bucketSet k b l

/-- The canonical form of a list of buckets. -/
def bucketsWf (l : List (Nat × Bucket)) : Bool :=
  decide ((l.map Prod.fst).Pairwise (· < ·)) && l.all fun e => !e.2.isEmpty

/-- The canonical form of the journey table's two lists. -/
def JourneyTable.wf (jt : JourneyTable) : Bool := bucketsWf jt.home && bucketsWf jt.exts

/-! ## Chains (R56, R57) -/

/-- The home index of a card: the exclusive-or of the four quarters of its number (R56). -/
def homeIndex (c : Card) : Nat :=
  (c.extractLsb' 48 16 ^^^ c.extractLsb' 32 16 ^^^ c.extractLsb' 16 16 ^^^ c.extractLsb' 0 16).toNat

/-- A bucket named: a home bucket or an extension bucket. -/
inductive BucketRef where
  | home (n : Nat)
  | ext (n : Nat)
  deriving DecidableEq, Repr

/-- The bucket named. -/
def JourneyTable.bucket (jt : JourneyTable) : BucketRef → Bucket
  | .home n => bucketGet n jt.home
  | .ext n => bucketGet n jt.exts

/-- The bucket named, replaced. -/
def JourneyTable.setBucket (jt : JourneyTable) (r : BucketRef) (b : Bucket) : JourneyTable :=
  match r with
  | .home n => { jt with home := bucketSet n b jt.home }
  | .ext n => { jt with exts := bucketSet n b jt.exts }

/-- The extension buckets reached from an extension pointer, at most `fuel` of them. -/
def JourneyTable.extensions (jt : JourneyTable) : Nat → Option Nat → List BucketRef
  | 0, _ => []
  | _, none => []
  | fuel + 1, some n => .ext n :: jt.extensions fuel (jt.bucket (.ext n)).ext

/-- The chain of a home index: its home bucket and at most three extension buckets, in link order (R57). -/
def JourneyTable.chain (jt : JourneyTable) (h : Nat) : List BucketRef :=
  .home h :: jt.extensions 3 (jt.bucket (.home h)).ext

/-- A slot of a bucket. -/
abbrev SlotRef := BucketRef × Fin 4

/-- The slots of a chain in chain order (R57). -/
def JourneyTable.slots (jt : JourneyTable) (h : Nat) : List SlotRef :=
  (jt.chain h).flatMap fun b => [(b, 0), (b, 1), (b, 2), (b, 3)]

/-- What a slot holds. -/
def JourneyTable.slot (jt : JourneyTable) (r : SlotRef) : Option Record := (jt.bucket r.1).slots[r.2]

/-- What a slot holds, replaced. -/
def JourneyTable.setSlot (jt : JourneyTable) (r : SlotRef) (v : Option Record) : JourneyTable :=
  let b := jt.bucket r.1
  jt.setBucket r.1 { b with slots := b.slots.set r.2 v }

/-- The records of a chain, in chain order. -/
def JourneyTable.records (jt : JourneyTable) (h : Nat) : List Record := (jt.slots h).filterMap jt.slot

/-- Whether a slot holds the record of this card and day. -/
def JourneyTable.holds (jt : JourneyTable) (c : Card) (d : Day) (r : SlotRef) : Bool :=
  match jt.slot r with
  | some x => x.card == c && x.day == d
  | none => false

/-- The slot of the record of a card and day, searched in the whole chain (R59). -/
def JourneyTable.findSlot (jt : JourneyTable) (c : Card) (d : Day) : Option SlotRef :=
  (jt.slots (homeIndex c)).find? (jt.holds c d)

/-- A lookup: the record of a card and day, or none for ABSENT (R59). -/
def JourneyTable.lookup (jt : JourneyTable) (c : Card) (d : Day) : Option Record :=
  match jt.findSlot c d with
  | some r => jt.slot r
  | none => none

/-! ## Adding (R60, R61) -/

/-- A fresh record (R64). -/
def Record.fresh (c : Card) (d : Day) : Record where
  card := c
  day := d
  status := .active
  dayTotal := 0
  journeys := 0
  accrued := 0
  openJourney := none
  held := []
  recent := []
  pendingCount := 0

/-- The first free slot of a chain, in chain order. -/
def JourneyTable.firstFree (jt : JourneyTable) (h : Nat) : Option SlotRef :=
  (jt.slots h).find? fun r => (jt.slot r).isNone

/-- What a find-or-insert comes to (R60, R61). -/
inductive InsertResult where
  | found (r : Record)
  | inserted (jt : JourneyTable) (r : Record)
  | chainLimit
  | poolEmpty
  deriving DecidableEq, Repr

/-- The last bucket of a chain. -/
def JourneyTable.lastBucket (jt : JourneyTable) (h : Nat) : BucketRef := (jt.chain h).getLastD (.home h)

/-- The pool's head bucket linked behind the last bucket of the chain, holding `v` in its slot 0 (R60). -/
def JourneyTable.linkExtension (jt : JourneyTable) (h n : Nat) (rest : List Nat) (v : Record) : JourneyTable :=
  let last := jt.lastBucket h
  let jt := jt.setBucket last { jt.bucket last with ext := some n }
  let jt := jt.setBucket (.ext n) { Bucket.empty with slots := Bucket.empty.slots.set 0 (some v) }
  { jt with pool := rest, inUse := jt.inUse + 1 }

/-- A fresh record put in (R60): the first free slot in chain order; otherwise a new extension bucket; otherwise no room
(R61). -/
def JourneyTable.insert (jt : JourneyTable) (c : Card) (d : Day) : InsertResult :=
  let h := homeIndex c
  let v := Record.fresh c d
  match jt.firstFree h with
  | some r => .inserted { jt.setSlot r (some v) with inUse := jt.inUse + 1 } v
  | none =>
    if 4 ≤ (jt.chain h).length then .chainLimit
    else match jt.pool with
      | n :: rest => .inserted (jt.linkExtension h n rest v) v
      | [] => .poolEmpty

/-- A find-or-insert (R60): the record found, the table unchanged; or a fresh record put in. -/
def JourneyTable.findOrInsert (jt : JourneyTable) (c : Card) (d : Day) : InsertResult :=
  match jt.lookup c d with
  | some r => .found r
  | none => jt.insert c d

/-! ## Changing and removing (R62, R73) -/

/-- The record of its card and day written back; nothing where the table does not hold it (R73). -/
def JourneyTable.write (jt : JourneyTable) (v : Record) : JourneyTable :=
  match jt.findSlot v.card v.day with
  | some r => jt.setSlot r (some v)
  | none => jt

/-- The bucket before an extension bucket in a chain. -/
def bucketBefore (n : Nat) : List BucketRef → Option BucketRef
  | a :: b :: l => if b = .ext n then some a else bucketBefore n (b :: l)
  | _ => none

/-- An extension bucket unlinked from a chain and appended at the tail of the pool (R62). -/
def JourneyTable.unlink (jt : JourneyTable) (h n : Nat) : JourneyTable :=
  match bucketBefore n (jt.chain h) with
  | some before =>
    let next := (jt.bucket (.ext n)).ext
    let jt := jt.setBucket before { jt.bucket before with ext := next }
    let jt := jt.setBucket (.ext n) Bucket.empty
    { jt with pool := jt.pool ++ [n] }
  | none => jt

/-- A removal (R62): the slot freed, and the bucket unlinked where it is an extension bucket left without a record. -/
def JourneyTable.remove (jt : JourneyTable) (c : Card) (d : Day) : JourneyTable :=
  match jt.findSlot c d with
  | some r =>
    let jt := { jt.setSlot r none with inUse := jt.inUse - 1 }
    match r.1 with
    | .ext n => if (jt.bucket (.ext n)).used = 0 then jt.unlink (homeIndex c) n else jt
    | .home _ => jt
  | none => jt

/-- The free-extension count (R58). -/
def JourneyTable.freeExtensions (jt : JourneyTable) : Nat := jt.pool.length

/-! ## The pending count (R70, R71) -/

/-- +1 on the pending count, held at 1,027 (R70). -/
def Record.raisePending (r : Record) : Record := { r with pendingCount := min Config.pendingMax (r.pendingCount + 1) }

/-- −n on the pending count; a −1 that finds 0 leaves it (R70). -/
def Record.lowerPending (n : Nat) (r : Record) : Record := { r with pendingCount := r.pendingCount - n }

/-- The pending-saturation counter, where a +1 finds the count at 1,027 (R70). -/
def State.countSaturation (r : Record) (s : State) : State :=
  if Config.pendingMax ≤ r.pendingCount then s.bump .pendingSaturations else s

/-! ## Updates on the state -/

/-- A record written back by the JTC (R73). -/
def State.writeRecord (r : Record) (s : State) : State := { s with jt := s.jt.write r }

/-- A record written back with its pending count raised by 1 for a work entry (R70, R84). -/
def State.writeRecordWithWork (r : Record) (s : State) : State := (s.countSaturation r).writeRecord r.raisePending

/-- A CLOSING record with pending count 0 is reported ready: it joins the tail of the summary list, unless it is on it
(R72, R170). -/
def State.reportIfReady (r : Record) (s : State) : State :=
  if r.status = .closing ∧ r.pendingCount = 0 then
    { s with roll := { s.roll with summary := joinTail (r.card, r.day) s.roll.summary } }
  else s

end Sys2Proof.Machine
end

