-- ==== Sys2Proof/Machine/Clocks.lean ====
section
/-! DEFINITION. The line clock, due times at a change of line time, and the gate clock trackers (R44 to R54). -/

namespace Sys2Proof.Machine

/-! ## Becoming due (R47) -/

/-- Whether an optional deadline has been reached at a line time. -/
def reached (deadline : Option Nat) (time : Nat) : Bool :=
  match deadline with
  | some d => decide (d ≤ time)
  | none => false

/-- The deadlines of a port compared with a line time: those reached have become due, and stay so (R47). -/
def Port.compareDeadlines (time : Nat) (q : Port) : Port :=
  { q with
    attachFallenDue := q.attachFallenDue || reached q.attachDeadline time
    tracker := { q.tracker with fallenDue := q.tracker.fallenDue || reached q.tracker.deadline time } }

/-- An expiry entry compared with a line time (R47, R93). -/
def ExpiryEntry.compareDeadline (time : Nat) (e : ExpiryEntry) : ExpiryEntry :=
  { e with fallenDue := e.fallenDue || decide (e.dueTime ≤ time) }

/-- A referral entry compared with a line time: an AWAITING one alone has a deadline (R47, R160). -/
def RefEntry.compareDeadline (time : Nat) (e : RefEntry) : RefEntry :=
  if e.state = .awaiting then { e with fallenDue := e.fallenDue || decide (e.dueTime ≤ time) } else e

/-- Each owner compares its deadlines with line time as it stands (R47). -/
def State.compareDeadlines (s : State) : State :=
  { s with
    ports := s.ports.map (Port.compareDeadlines s.clock.time)
    expiry := s.expiry.map (ExpiryEntry.compareDeadline s.clock.time)
    rt := { s.rt with entries := s.rt.entries.map (RefEntry.compareDeadline s.clock.time) } }

/-! ## The line clock -/

/-- A DAY_OVERRUN line notice made: placed in the urgent queue, or owed where it has no place (R45). -/
def State.makeOverrun (s : State) : State :=
  if s.lli.urgentHasPlace then s.pushUrgent (.dayOverrun s.clock.day s.clock.time)
  else { s with clock := { s.clock with owedOverrun := true } }

/-- Line time arriving at 129,599 with the overrun flag clear sets the flag and makes a DAY_OVERRUN (R45). -/
def State.checkOverrun (s : State) : State :=
  if s.clock.time = Config.lineTimeMax ∧ s.clock.overrun = false then
    State.makeOverrun { s with clock := { s.clock with overrun := true } }
  else s

/-- Line time set to `t`, by SET_TIME or by the start of a roll (R46, R48): the overrun flag is cleared below 129,599,
and the new time applies to every deadline at once (R47). -/
def State.setLineTime (t : Nat) (s : State) : State :=
  let s := { s with clock := { s.clock with time := t, overrun := s.clock.overrun && t == Config.lineTimeMax } }
  s.checkOverrun.compareDeadlines

/-- LINE_TIME_ADVANCE (R44): a counted second; at 129,599 line time is held and nothing becomes due by its passing. -/
def execLineTimeAdvance (s : State) : Host.Outcome State Fault Refusal :=
  if s.clock.time < Config.lineTimeMax then
    let s := { s with clock := { s.clock with time := s.clock.time + 1 } }
    .next s.checkOverrun.compareDeadlines
  else .next s

/-- A SET_TIME taken (R46). -/
def setTimeTaken (f : DownFrame) (s : State) : State :=
  let t := fieldAt f.args 0 4
  if Config.lineTimeMax < t then s.reply f .badArgument else (s.setLineTime t).reply f .done

/-- SET_TIME. -/
def execSetTime (s : State) : Host.Outcome State Fault Refusal :=
  match s.takeCommand .setTime with
  | some (f, s) => .next (setTimeTaken f s)
  | none => .next s

/-- OWED_DAY_OVERRUN: an owed DAY_OVERRUN takes a free urgent place (R45). -/
def execOwedDayOverrun (s : State) : Host.Outcome State Fault Refusal :=
  if s.clock.owedOverrun && s.lli.urgentHasPlace then
    .next (State.pushUrgent (.dayOverrun s.clock.day s.clock.time) { s with clock := { s.clock with owedOverrun := false } })
  else .next s

/-! ## Deadlines of the expiry queue and of the Referral Table -/

/-- The due mark set on the first entry, in queue order, that is due and has none (R93). -/
def markFirstDue (s : State) : List ExpiryEntry → List ExpiryEntry
  | [] => []
  | e :: l => if !e.due && s.isDue e.fallenDue e.dueTime then { e with due := true } :: l else e :: markFirstDue s l

/-- EXPIRY_DUE (R93). -/
def execExpiryDue (s : State) : Host.Outcome State Fault Refusal := .next { s with expiry := markFirstDue s s.expiry }

/-- The entry of a referral slot. -/
def ReferralTable.entry (rt : ReferralTable) (i : Fin 256) : RefEntry := rt.entries[i]

/-- The entry of a referral slot replaced. -/
def ReferralTable.setEntry (rt : ReferralTable) (i : Fin 256) (e : RefEntry) : ReferralTable :=
  { rt with entries := rt.entries.set i e }

/-- REFERRAL_DUE (R160): the due mark of an AWAITING entry that is due is set, and its slot joins the tail of the ready
list unless it is there. -/
def execReferralDue (slot : Fin 256) (s : State) : Host.Outcome State Fault Refusal :=
  let e := s.rt.entry slot
  if e.state = .awaiting ∧ e.due = false ∧ s.isDue e.fallenDue e.dueTime then
    .next { s with rt :=
      { s.rt.setEntry slot { e with due := true } with ready := joinTail slot s.rt.ready } }
  else .next s

/-! ## The clock tracker (R49 to R52) -/

/-- A tracker at release and at detach completion: unsettled, with no beacon deadline (R49). -/
def Tracker.stop (k : Tracker) : Tracker := { k with settled := false, deadline := none, fallenDue := false }

/-- The distance of two whole numbers. -/
def intDistance (a b : Int) : Nat := (a - b).natAbs

/-- Whether a measurement re-seeds the tracker (R51, last case). -/
def Tracker.jumps (k : Tracker) (m : Int) : Bool := k.seeded && decide (30 < intDistance m k.estimate)

/-- The estimate after a measurement (R51). -/
def Tracker.nextEstimate (k : Tracker) (m : Int) : Int :=
  if k.seeded = false then m
  else if intDistance m k.estimate ≤ 1 then m
  else if intDistance m k.estimate ≤ 30 then (if k.estimate < m then k.estimate + 1 else k.estimate - 1)
  else m

/-- A beacon applied at line time `time` with measurement `m` (R51); the beacon deadline is recomputed, and it falls due
in the same taking where it is already reached (R52). -/
def Tracker.apply (k : Tracker) (m : Int) (time : Nat) : Tracker :=
  let due := min Config.lineTimeMax (time + 120)
  { estimate := k.nextEstimate m
    seeded := true
    settled := k.seeded && decide (intDistance m k.estimate ≤ 1) && decide (time < due)
    lastBeacon := some time
    deadline := if time < due then some due else none
    fallenDue := false }

/-- BEACON_TIMEOUT (R52). -/
def execBeaconTimeout (p : PortId) (s : State) : Host.Outcome State Fault Refusal :=
  let q := s.port p
  match q.tracker.deadline with
  | some d =>
    if s.isDue q.tracker.fallenDue d then .next (s.setPort p { q with tracker := q.tracker.stop }) else .next s
  | none => .next s

/-! ## Correcting tap times (R53) -/

/-- The hub time with the estimate added, before it is held. -/
def Tracker.sum (k : Tracker) (hubTime : Nat) : Int := (hubTime : Int) + k.estimate

/-- The corrected time: the sum held within 0 to 129,599 (R53). -/
def Tracker.correct (k : Tracker) (hubTime : Nat) : Nat := min Config.lineTimeMax (k.sum hubTime).toNat

/-- The clock-unsettled mark of a tap (R53). -/
def Tracker.marks (k : Tracker) (hubTime : Nat) : Bool :=
  !k.seeded || !k.settled || decide (k.sum hubTime < 0) || decide ((Config.lineTimeMax : Int) < k.sum hubTime)

end Sys2Proof.Machine
end

