-- ==== Sys2Proof/Machine/GatePorts.lean ====
section
/-! DEFINITION. The Gate Port Controllers: carrier, attach and detach, credits, decoding of tap items, gate answers, and the
commands of a port (R23 to R43, R104). -/

namespace Sys2Proof.Machine

/-! ## Leaving an attachment -/

/-- A port released (R25): it leaves ATTACHED or DETACHING for `st`. The attachment number advances, outstanding becomes 0,
the transmit list is emptied, the tracker stops (R49); its outstanding taps join the released taps (R104). -/
def State.release (p : PortId) (st : PortState) (s : State) : State :=
  let q := s.port p
  let before := s.reservation
  let t := s.setPort p { q with
    st := st, attachment := q.attachment + 1, outstanding := 0, transmit := [], tracker := q.tracker.stop }
  State.offerSweepIfFell before
    { t with pool := { t.pool with releasedTaps := t.pool.releasedTaps + q.outstanding } }

/-- The attach of a port abandoned or failed: no deadline is left, and the port goes to `st` (R24, R28, R29, R31). -/
def Port.leaveAttaching (st : PortState) (q : Port) : Port :=
  { q with st := st, attachDeadline := none, attachFallenDue := false }

/-- A detach completed (R36): a DETACH frame, the port PRESENT, its tracker stopped (R49), DETACH_DONE raised. -/
def State.completeDetach (p : PortId) (s : State) : State :=
  let q := s.port p
  let before := s.reservation
  let t := s.setPort p { q.place (.detach p) with st := .present, tracker := q.tracker.stop }
  (t.offerSweepIfFell before).raise p .detachDone .nothing

/-- A detach completes where the port is DETACHING with outstanding 0 (R34, R36). -/
def State.completeDetachIfDone (p : PortId) (s : State) : State :=
  if (s.port p).st = .detaching ∧ (s.port p).outstanding = 0 then s.completeDetach p else s

/-! ## Carrier (R24) -/

/-- GATE_CARRIER_LOSS (R24): an event of an input that was on. The transmit list is emptied in every state (R35). -/
def execGateCarrierLoss (p : PortId) (s : State) : Host.Outcome State Fault Refusal :=
  if (s.port p).carrier then
    let s := s.modPort p fun q => { q with carrier := false, transmit := [] }
    let s := s.raise p .carrierChange (.carrier false)
    match (s.port p).st with
    | .idle => .next s
    | .present => .next (s.modPort p fun q => { q with st := .idle })
    | .faulted => .next (s.modPort p fun q => { q with st := .idle })
    | .attaching => .next (s.modPort p (Port.leaveAttaching .idle))
    | .detaching => .next (s.release p .idle)
    | .attached => .next (if (s.port p).autoDetach then s.release p .idle else s)
  else .next s

/-- GATE_CARRIER_RETURN (R24): an event of an input that was off. -/
def execGateCarrierReturn (p : PortId) (s : State) : Host.Outcome State Fault Refusal :=
  if (s.port p).carrier then .next s
  else
    let s := s.modPort p fun q => { q with carrier := true }
    let s := s.raise p .carrierChange (.carrier true)
    match (s.port p).st with
    | .idle => .next (s.modPort p fun q => { q with st := .present })
    | .attached => .next (s.modPort p Port.placeFreeCredit)
    | _ => .next s

/-! ## Good frames (R30) -/

/-- What R30 does with a good frame other than ATTACH_ACK. -/
inductive FrameCase where
  /-- No frame is taken: no carrier (IDLE, or ATTACHED with its carrier off). -/
  | absent
  /-- Discarded and counted. -/
  | unexpected
  /-- Discarded without counting (FAULTED). -/
  | ignored
  | taken
  deriving DecidableEq, Repr

/-- The table of R30 for TAP, BEACON and HUB_STATE. -/
def Port.frameCase (q : Port) : FrameCase :=
  if q.carrier then
    match q.st with
    | .idle => .absent
    | .present => .unexpected
    | .attaching => .unexpected
    | .attached => .taken
    | .detaching => .taken
    | .faulted => .ignored
  else .absent

/-- The table of R30 for ATTACH_ACK. -/
def Port.ackCase (q : Port) : FrameCase :=
  if q.carrier then
    match q.st with
    | .idle => .absent
    | .present => .unexpected
    | .attaching => .taken
    | .attached => .unexpected
    | .detaching => .unexpected
    | .faulted => .ignored
  else .absent

/-- A good frame sets the bad-frame run to 0 (R30). -/
def State.clearRun (p : PortId) (s : State) : State := s.modPort p fun q => { q with badRun := 0 }

/-- A good frame handled by its case: `act` where it is taken (R30). -/
def State.onFrame (p : PortId) (c : FrameCase) (act : State → State) (s : State) : State :=
  match c with
  | .absent => s
  | .ignored => s
  | .unexpected => (s.clearRun p).bump (.port p .unexpectedFrames)
  | .taken => act (s.clearRun p)

/-! ## Tap items (R37) -/

/-- The kind of an item's code (R190). -/
def attrKindOf (code : Nat) : Option AttrKind :=
  match code with
  | 1 => some .concession
  | 2 => some .companions
  | 3 => some .originHint
  | 4 => some .authRef
  | _ => none

/-- The items used: up to and including the first with LAST set (R37). -/
def usedItems : List TapItem → List TapItem
  | [] => []
  | i :: l => if i.last then [i] else i :: usedItems l

/-- The items decoded in order, stopping at the first malformed one; the flag says whether one was (R37). -/
def decodeItems : List TapItem → List Attr × Bool
  | [] => ([], false)
  | i :: l =>
    match attrKindOf i.kind.toNat with
    | none => ([], true)
    | some .authRef =>
      match i.join, l with
      | true, j :: l' =>
        if attrKindOf j.kind.toNat = some .authRef ∧ j.join = false then
          let rest := decodeItems l'
          (⟨.authRef, i.value.toNat * 65536 + j.value.toNat⟩ :: rest.1, rest.2)
        else ([], true)
      | _, _ => ([], true)
    | some k =>
      if i.join then ([], true)
      else
        let rest := decodeItems l
        (⟨k, i.value.toNat⟩ :: rest.1, rest.2)

/-! ## Taps (R33) -/

/-- The step of a TAP: from last taken to its tap number, modulo 65,536 (R33). -/
def Port.step (q : Port) (n : TapNo) : Nat := (n - q.lastTaken).toNat

/-- The window: from last taken to the advertised limit, modulo 65,536 (R33). -/
def Port.window (q : Port) : Nat := (q.advertised - q.lastTaken).toNat

/-- The decoded tap of a frame taken on a port (R33, R53). -/
def decodeTap (p : PortId) (q : Port) (f : TapFrame) : Tap where
  port := p
  attachment := q.attachment
  tapNumber := f.tapNumber
  live := f.live
  direction := f.direction
  card := f.card
  station := f.station.toNat
  product := f.product
  hubSeq := f.hubSeq
  hubDay := f.hubDay
  time := q.tracker.correct f.hubTime.toNat
  unsettled := q.tracker.marks f.hubTime.toNat
  attrs := (decodeItems (usedItems f.items)).1

/-- A tap taken with its step (R33, steps 1 to 4). -/
def State.takeTap (p : PortId) (f : TapFrame) (step : Nat) (s : State) : State :=
  let s := if 1 < step then (s.count (.port p .lostTaps) (step - 1)).raise p .tapGap (.lost (step - 1)) else s
  let s := if (decodeItems (usedItems f.items)).2 then s.bump (.port p .malformedItems) else s
  s.modPort p fun q =>
    let t := decodeTap p q f
    let q := { q with lastTaken := f.tapNumber, outstanding := q.outstanding + 1, intake := q.intake ++ [t] }
    if 1 < step then q.placeFreeCredit else q

/-- A TAP measured against the credit window (R33). -/
def State.measureTap (p : PortId) (f : TapFrame) (s : State) : State :=
  let step := (s.port p).step f.tapNumber
  if step = 0 ∨ (s.port p).window < step then s.bump (.port p .overCreditTaps) else s.takeTap p f step

/-- TAP (R30, R33). -/
def execTap (p : PortId) (f : TapFrame) (s : State) : Host.Outcome State Fault Refusal :=
  .next (s.onFrame p (s.port p).frameCase (State.measureTap p f))

/-! ## Beacons and hub states -/

/-- A beacon handed to the tracker (R50, R51): CLOCK_JUMP is raised with the new estimate where it re-seeds. -/
def State.applyBeacon (p : PortId) (hubTime : Nat) (hubDay : Day) (s : State) : State :=
  if hubDay ≠ s.clock.day then s.bump (.port p .badDayBeacons)
  else if Config.lineTimeMax < hubTime then s.bump (.port p .badTimeBeacons)
  else
    let m : Int := (s.clock.time : Int) - (hubTime : Int)
    let k := (s.port p).tracker
    let t := s.modPort p fun q => { q with tracker := k.apply m s.clock.time }
    if k.jumps m then t.raise p .clockJump (.estimate (k.nextEstimate m)) else t

/-- BEACON (R30, R50, R51). -/
def execBeacon (p : PortId) (hubTime : BitVec 32) (hubDay : Day) (s : State) : Host.Outcome State Fault Refusal :=
  .next (s.onFrame p (s.port p).frameCase (State.applyBeacon p hubTime.toNat hubDay))

/-- HUB_STATE (R30, R32). -/
def execHubState (p : PortId) (alarm : Bool) (code : Byte) (s : State) : Host.Outcome State Fault Refusal :=
  .next (s.onFrame p (s.port p).frameCase fun s => if alarm then s.raise p .hubAlarm (.alarmCode code) else s)

/-! ## Attaching (R27 to R29) -/

/-- A port attached by a positive, matching ATTACH_ACK (R28). -/
def Port.attach (firstTap : TapNo) (q : Port) : Port :=
  let q := { q.leaveAttaching .attached with
    lastTaken := firstTap - 1, outstanding := 0, tracker := Tracker.fresh }
  q.placeCredit (q.lastTaken + BitVec.ofNat 16 q.creditLimit)

/-- An attach that fails: FAULTED, with ATTACH_FAILED raised (R28, R29). -/
def State.failAttach (p : PortId) (c : AttachCause) (s : State) : State :=
  (s.modPort p (Port.leaveAttaching .faulted)).raise p .attachFailed (.cause c)

/-- ATTACH_ACK (R28, R30). -/
def execAttachAck (p : PortId) (positive : Bool) (echo : Byte) (firstTap : TapNo) (s : State) :
    Host.Outcome State Fault Refusal :=
  .next (s.onFrame p (s.port p).ackCase fun s =>
    if positive then
      if echo.toNat = p.val then (s.modPort p (Port.attach firstTap)).raise p .attachDone (.firstTap firstTap)
      else s.failAttach p .wrongPort
    else s.failAttach p .negative)

/-- ATTACH_TIMEOUT (R29). -/
def execAttachTimeout (p : PortId) (s : State) : Host.Outcome State Fault Refusal :=
  let q := s.port p
  match q.attachDeadline with
  | some d =>
    if q.st = .attaching ∧ s.isDue q.attachFallenDue d then .next (s.failAttach p .timeout) else .next s
  | none => .next s

/-- Whether a station appears in the ATTACH_REQ of a port (R27). -/
def StationRow.servedBy (p : PortId) (r : StationRow) : Bool := r.isEnabled && r.servingPort == p.val

/-- The station list of an ATTACH_REQ: ascending, from the active bank; empty while the active-valid flag is no (R27). -/
def TableStore.stationList (ts : TableStore) (p : PortId) : List Nat :=
  if ts.activeValid then
    (List.range 64).filter fun i => match ts.active.stations[i]? with | some r => r.servedBy p | none => false
  else []

/-- A taken PORT_ATTACH (R27); begun while line time is held at 129,599 it fails with cause TIMEOUT as it begins (R47). -/
def State.beginAttach (p : PortId) (limit : Nat) (s : State) : State :=
  let deadline := s.dueAfter 5
  let s := s.modPort p fun q =>
    { q.place (.attachReq p limit 10 (s.tables.stationList p)) with
      st := .attaching, creditLimit := limit, badRun := 0, attachDeadline := some deadline, attachFallenDue := false }
  if deadline ≤ s.clock.time then s.failAttach p .timeout else s

/-- A PORT_ATTACH taken from the receive list (R27). -/
def portAttachTaken (f : DownFrame) (s : State) : State :=
  let limit := fieldAt f.args 1 1
  match portOf (fieldAt f.args 0 1) with
  | none => s.reply f .badArgument
  | some p =>
    if limit < 4 ∨ 64 < limit then s.reply f .badArgument
    else match (s.port p).st with
      | .attaching => s.reply f .busy
      | .detaching => s.reply f .busy
      | .idle => s.reply f .badState
      | .attached => s.reply f .badState
      | .present => (s.beginAttach p limit).reply f .done
      | .faulted => (s.beginAttach p limit).reply f .done

/-- PORT_ATTACH. -/
def execPortAttach (s : State) : Host.Outcome State Fault Refusal :=
  match s.takeCommand .portAttach with
  | some (f, s) => .next (portAttachTaken f s)
  | none => .next s

/-! ## Bad frames (R31) -/

/-- The bad-frame run advanced; at 16 the port goes to FAULTED and FAULT is raised (R31). -/
def State.advanceRun (p : PortId) (s : State) : State :=
  let t := s.modPort p fun q => { q with badRun := min 16 (q.badRun + 1) }
  if 16 ≤ (s.port p).badRun + 1 then
    let t := if (s.port p).st = .attaching then t.modPort p (Port.leaveAttaching .faulted) else t.release p .faulted
    t.raise p .fault .nothing
  else t

/-- BAD_FRAME (R31). -/
def execBadFrame (p : PortId) (s : State) : Host.Outcome State Fault Refusal :=
  if (s.port p).carrier then
    let t := s.bump (.port p .badFrames)
    match (s.port p).st with
    | .attaching => .next (t.advanceRun p)
    | .attached => .next (t.advanceRun p)
    | .detaching => .next (t.advanceRun p)
    | _ => .next t
  else .next s

/-! ## The transmitter of a port (R35) -/

/-- GATE_FRAME_SENT (R35): the frame at the head of the transmit list leaves, while the port has carrier. -/
def execGateFrameSent (p : PortId) (s : State) : Host.Outcome State Fault Refusal :=
  if (s.port p).carrier then .next (s.modPort p fun q => { q with transmit := q.transmit.tail }) else .next s

/-! ## Endings of taps (R34, R104) and gate answers (R42) -/

/-- A tap's ending reported to its GPC, and to the pool where its attachment is no longer current (R34, R104). -/
def State.endTap (p : PortId) (attachment : BitVec 16) (s : State) : State :=
  let q := s.port p
  if q.attachment = attachment then
    match q.st with
    | .attached =>
      s.setPort p (let q := { q with outstanding := q.outstanding - 1 }; if q.carrier then q.placeFreeCredit else q)
    | .detaching => (s.setPort p { q with outstanding := q.outstanding - 1 }).completeDetachIfDone p
    | _ => s
  else
    State.offerSweepIfFell s.reservation { s with pool := { s.pool with releasedTaps := s.pool.releasedTaps - 1 } }

/-- An answer for a live tap delivered, or discarded and counted (R42). -/
def State.handAnswer (p : PortId) (attachment : BitVec 16) (n : TapNo) (a : Answer) (s : State) : State :=
  let q := s.port p
  if q.st = .attached ∧ q.carrier = true ∧ q.attachment = attachment then s.setPort p (q.place (.gateAnswer n a))
  else s.bump (.port p .discardedAnswers)

/-! ## Detaching and the options of a port -/

/-- A PORT_DETACH taken from the receive list (R36). -/
def portDetachTaken (f : DownFrame) (s : State) : State :=
  match portOf (fieldAt f.args 0 1) with
  | none => s.reply f .badArgument
  | some p =>
    let q := s.port p
    if q.st = .attached ∧ q.carrier = true then
      ((s.setPort p (Port.placeCredit q.lastTaken { q with st := .detaching })).completeDetachIfDone p).reply f .done
    else s.reply f .badState

/-- PORT_DETACH. -/
def execPortDetach (s : State) : Host.Outcome State Fault Refusal :=
  match s.takeCommand .portDetach with
  | some (f, s) => .next (portDetachTaken f s)
  | none => .next s

/-- The three options of a port replaced together (R40); turning auto-detach on releases a port ATTACHED with its carrier
off. -/
def State.setOptions (p : PortId) (auto : Bool) (mask : AttnSet) (cls : AttnClass) (s : State) : State :=
  let s := s.modPort p fun q => { q with autoDetach := auto, mask := mask, cls := cls }
  if auto = true ∧ (s.port p).st = .attached ∧ (s.port p).carrier = false then s.release p .idle else s

/-- A SET_PORT_OPTIONS taken from the receive list (R40). -/
def setPortOptionsTaken (f : DownFrame) (s : State) : State :=
  match portOf (fieldAt f.args 0 1), yesNoOf (fieldAt f.args 1 1), attnSetOf (fieldAt f.args 2 2),
    classOf (fieldAt f.args 4 1) with
  | some p, some auto, some mask, some cls => (s.setOptions p auto mask cls).reply f .done
  | _, _, _, _ => s.reply f .badArgument

/-- SET_PORT_OPTIONS. -/
def execSetPortOptions (s : State) : Host.Outcome State Fault Refusal :=
  match s.takeCommand .setPortOptions with
  | some (f, s) => .next (setPortOptionsTaken f s)
  | none => .next s

/-- Attention kinds unlatched on a port, and their owed entries removed (R41); an emptied owed list has no freed place left to be
examined for (DESIGN CHOICE, log 17). -/
def State.unlatch (p : PortId) (kinds : AttnSet) (s : State) : State :=
  let t := s.modPort p fun q => { q with attention := q.attention &&& ~~~kinds }
  let owed := t.lli.owed.filter fun o => !(o.port == p && AttnSet.has kinds o.kind)
  { t with lli := { t.lli with owed := owed, owedOffers := if owed.isEmpty then 0 else t.lli.owedOffers } }

/-- A CLEAR_ATTENTION taken from the receive list (R41). -/
def clearAttentionTaken (f : DownFrame) (s : State) : State :=
  match portOf (fieldAt f.args 0 1), attnSetOf (fieldAt f.args 1 2) with
  | some p, some kinds => (s.unlatch p kinds).reply f .done
  | _, _ => s.reply f .badArgument

/-- CLEAR_ATTENTION. -/
def execClearAttention (s : State) : Host.Outcome State Fault Refusal :=
  match s.takeCommand .clearAttention with
  | some (f, s) => .next (clearAttentionTaken f s)
  | none => .next s

/-! ## ENGINE_RESET (R43) -/

/-- A port at ENGINE_RESET (R43), before the CREDIT or the detach completion that follows. -/
def Port.engineReset (q : Port) : Port :=
  { q with intake := [], outstanding := 0, attachment := q.attachment + 1, transmit := [], badRun := 0, attention := 0 }

/-- After the reset is applied: a port ATTACHED with carrier on has a CREDIT placed, and a DETACHING port completes its
detach (R43). -/
def State.afterReset (s : State) (p : PortId) : State :=
  let q := s.port p
  if q.st = .attached ∧ q.carrier = true then
    s.setPort p (q.placeCredit (q.lastTaken + BitVec.ofNat 16 q.creditLimit))
  else s.completeDetachIfDone p

end Sys2Proof.Machine
end

