-- ==== Sys2Proof/Machine/WorkPool.lean ====
section
/-! DEFINITION. The Work Pool and the Pricing Arbiter: creating work, waiting for a slot, grant order and aging (R101 to R108),
and the expiry queue's list (R93, R94). -/

namespace Sys2Proof.Machine

/-! ## Level lists (R107) -/

/-- The list of a level. -/
def WorkPool.list (w : WorkPool) : Level → List WorkEntry
  | .l0 => w.l0
  | .l1 => w.l1
  | .l2 => w.l2
  | .l3 => w.l3

/-- The list of a level replaced. -/
def WorkPool.setList (w : WorkPool) (v : Level) (l : List WorkEntry) : WorkPool :=
  match v with
  | .l0 => { w with l0 := l }
  | .l1 => { w with l1 := l }
  | .l2 => { w with l2 := l }
  | .l3 => { w with l3 := l }

/-- An entry joins the tail of its level's list and uses a slot of its source class (R102, R103). -/
def WorkPool.join (w : WorkPool) (e : WorkEntry) : WorkPool :=
  let w := w.setList e.level (w.list e.level ++ [e])
  match e.cls with
  | .tap => { w with tapInUse := w.tapInUse + 1 }
  | .nonTap => { w with nonTapInUse := w.nonTapInUse + 1 }

/-- An entry put into the pool. -/
def State.joinPool (e : WorkEntry) (s : State) : State := { s with pool := s.pool.join e }

/-- Entries put into the pool in order. -/
def State.joinAll (es : List WorkEntry) (s : State) : State := es.foldl (fun s e => s.joinPool e) s

/-- The answer of a step's tap, where it has one, handed to the GPC. -/
def State.handToWaiting (w : Option WaitingTap) (a : Option Answer) (s : State) : State :=
  match w, a with
  | some w, some a => s.handAnswer w.port w.attachment w.tapNumber a
  | _, _ => s

/-- A tap-caused entry created in any slot not in use, and then the step's gate answer handed over; where no slot is free
the Pairing Unit holds both, and the step stays in progress (R103, R106). -/
def State.createTapWork (e : WorkEntry) (a : Option Answer) (s : State) : State :=
  if s.pool.slotsInUse < Config.poolSlots then (s.joinPool e).handToWaiting e.waiting a
  else State.bump .slotWaits { s with pu := { s.pu with item := some (.slotWait e a) } }

/-- SLOT_WAIT_RESUME (R106): a freed slot is taken by the entry the Pairing Unit holds, its gate answer is handed over, and
the step ends. -/
def execSlotWaitResume (s : State) : Host.Outcome State Fault Refusal :=
  match s.pu.item with
  | some (.slotWait e a) =>
    if s.pool.slotsInUse < Config.poolSlots then
      let s := { s with pu := { s.pu with item := none } }
      .next ((s.joinPool e).handToWaiting e.waiting a)
    else .next s
  | _ => .next s

/-! ## The Pricing Arbiter (R108) -/

/-- The levels, highest first. -/
def Level.all : List Level := [.l0, .l1, .l2, .l3]

/-- The levels below a level, highest first. -/
def Level.below : Level → List Level
  | .l0 => [.l1, .l2, .l3]
  | .l1 => [.l2, .l3]
  | .l2 => [.l3]
  | .l3 => []

/-- The highest non-empty level among some. -/
def WorkPool.highest (w : WorkPool) (ls : List Level) : Option Level := ls.find? fun v => !(w.list v).isEmpty

/-- The level of an aging grant, if the next grant is one: aging count 8, with some level below the run level not empty
(R108). -/
def WorkPool.agingLevel (w : WorkPool) : Option Level :=
  if 8 ≤ w.aging then
    match w.runLevel with
    | some run => w.highest run.below
    | none => none
  else none

/-- The level the next grant is made from, and whether it is an aging grant (R108). -/
def WorkPool.choose (w : WorkPool) : Option (Level × Bool) :=
  match w.agingLevel with
  | some v => some (v, true)
  | none => (w.highest Level.all).map fun v => (v, false)

/-- Run level and aging count after a grant from level `v` (R108). -/
def WorkPool.afterGrant (w : WorkPool) (v : Level) (isAging : Bool) : WorkPool :=
  if isAging then { w with runLevel := none, aging := 0 }
  else if (w.highest v.below).isNone then { w with runLevel := none, aging := 0 }
  else if w.runLevel = some v then { w with aging := w.aging + 1 }
  else { w with runLevel := some v, aging := 1 }

/-- The entry granted, and the pool after the grant: the entry leaves the head of its list and stays in its slot (R107,
R109). -/
def WorkPool.grant (w : WorkPool) : Option (WorkEntry × Bool × WorkPool) :=
  match w.choose with
  | some (v, isAging) =>
    match w.list v with
    | e :: rest => some (e, isAging, (w.afterGrant v isAging).setList v rest)
    | [] => none
  | none => none

/-- A slot released at the completion of a pricing (R110, step 5): the count of its source class falls by 1, and the paused
sweep is offered again (R168). -/
def State.freeSlot (c : SourceClass) (s : State) : State :=
  State.offerSweep (match c with
    | .tap => { s with pool := { s.pool with tapInUse := s.pool.tapInUse - 1 } }
    | .nonTap => { s with pool := { s.pool with nonTapInUse := s.pool.nonTapInUse - 1 } })

/-! ## The expiry queue (R93, R94) -/

/-- A new entry placed after every entry whose due time is equal to or earlier than its own; if it is due at its making,
its due mark is set at once (R94). The due time is reckoned from line time, as R47 and R94 say; R54's mention of corrected time
among "the due times of expiries" is not followed (DEDUCED, log 40). -/
def State.enterExpiry (c : Card) (d : Day) (k : ExpiryKind) (interval : Nat) (s : State) : State :=
  let due := s.dueAfter interval
  let now := decide (due ≤ s.clock.time)
  let e : ExpiryEntry := ⟨due, now, now, c, d, k⟩
  { s with expiry := insertBefore (fun x => decide (due < x.dueTime)) e s.expiry }

/-- Whether an entry is the one of this record and kind. -/
def ExpiryEntry.isFor (c : Card) (d : Day) (k : ExpiryKind) (e : ExpiryEntry) : Bool :=
  e.card == c && e.day == d && e.kind == k

/-- The entry of a record part cancelled, wherever it stands (R94): one entry for the one part that leaves. A record that holds two
tap-outs of one port and hub sequence (R67 against R66) has two entries of one name, of which the first in queue order leaves
(DESIGN CHOICE, log 41). -/
def State.cancelExpiry (c : Card) (d : Day) (k : ExpiryKind) (s : State) : State :=
  { s with expiry := s.expiry.eraseP (ExpiryEntry.isFor c d k) }

/-- The HOLD entry of a held tap-out cancelled (R94). -/
def State.cancelHold (r : Record) (h : HeldTap) (s : State) : State := s.cancelExpiry r.card r.day (.hold h.port h.hubSeq)

/-- The JOURNEY_LIMIT entry of a record cancelled (R94). -/
def State.cancelLimit (r : Record) (s : State) : State := s.cancelExpiry r.card r.day .journeyLimit


end Sys2Proof.Machine
end

