-- ==== Sys2Proof/Machine/LineLink.lean ====
section
/-! DEFINITION. The Line Link Interface: reception, the transmitter, owed port notices, views, the disposition mask, the counter
snapshot, refused commands (R39, R141, R177 to R189). -/

namespace Sys2Proof.Machine

/-! ## Reception (R178) -/

/-- A good frame appended to the receive list, its source address becoming the server address; discarded where the list holds
16 (R178). -/
def State.receiveGood (source : BitVec 48) (f : DownFrame) (s : State) : State :=
  if Config.receivePlaces ≤ s.lli.receive.length then s.bump .receiveOverruns
  else { s with lli := { s.lli with receive := s.lli.receive ++ [f], server := some source } }

/-- LINE_FRAME_RECEIVED (R178). No frame arrives while the carrier is off (R182). -/
def execLineFrameReceived (bytes : List Byte) (s : State) : Host.Outcome State Fault Refusal :=
  if s.lli.carrier then
    match classifyLine bytes with
    | .foreign => .next (s.bump .foreignFrames)
    | .bad => .next (s.bump .lineBadFrames)
    | .unexpected => .next (s.bump .lineUnexpectedFrames)
    | .good source f => .next (s.receiveGood source f)
  else .next s

/-! ## The transmitter (R182) -/

/-- LINE_CARRIER_LOSS (R182): an event of a carrier that was on. A frame in transmission stays at the head of its queue,
with its destination. -/
def execLineCarrierLoss (s : State) : Host.Outcome State Fault Refusal :=
  if s.lli.carrier then
    .next (State.bump .carrierLosses { s with lli := { s.lli with carrier := false, transmitting := none } })
  else .next s

/-- LINE_CARRIER_RETURN (R182): an event of a carrier that was off. Sending resumes from the urgent head. -/
def execLineCarrierReturn (s : State) : Host.Outcome State Fault Refusal :=
  if s.lli.carrier then .next s
  else .next { s with lli := LineLink.startSending { s.lli with carrier := true } }

/-- The frame in transmission leaves its queue, its destination with it, and the transmitter starts the next (R182). The freed
place is one more that the owed list, unless it is empty, has not been examined for (R39, DESIGN CHOICE, log 17). -/
def LineLink.frameSent (q : QueueSel) (l : LineLink) : LineLink :=
  let l := match q with
    | .urgent => { l with urgent := l.urgent.tail, urgentTo := none }
    | .bulk => { l with bulk := l.bulk.tail, bulkTo := none }
  LineLink.startSending
    { l with transmitting := none, owedOffers := if l.owed.isEmpty then 0 else l.owedOffers + 1 }

/-- UPSTREAM_FRAME_SENT (R182). -/
def execUpstreamFrameSent (s : State) : Host.Outcome State Fault Refusal :=
  match s.lli.transmitting with
  | some q => .next { s with lli := s.lli.frameSent q }
  | none => .next s

/-! ## Owed port notices (R39) -/

/-- Whether an owed entry's kind is still latched on its port. -/
def State.owedLatched (s : State) (o : OwedNotice) : Bool := (s.port o.port).attention.has o.kind

/-- Whether an owed entry can be placed: latched, unmasked, and a place in the queue of its port's class. -/
def State.owedReady (s : State) (o : OwedNotice) : Bool :=
  s.owedLatched o && !(s.port o.port).mask.has o.kind && s.lli.hasPlaceFor (s.port o.port).cls

/-- The owed list examined from its head: entries no longer latched are removed, others passed over, up to the first that can
be placed, which is removed and returned (R39). -/
def State.examineOwed (s : State) : List OwedNotice → List OwedNotice × Option OwedNotice
  | [] => ([], none)
  | o :: l =>
    if s.owedReady o then (l, some o)
    else
      let r := s.examineOwed l
      if s.owedLatched o then (o :: r.1, r.2) else r

/-- The owed list after an examination for one freed place. -/
def LineLink.withOwed (owed : List OwedNotice) (l : LineLink) : LineLink :=
  { l with owed := owed, owedOffers := if owed.isEmpty then 0 else l.owedOffers - 1 }

/-- OWED_PORT_NOTICE (R39): the owed list examined for a freed place; at most one notice is placed, with the attention set as it
stands now. -/
def execOwedPortNotice (s : State) : Host.Outcome State Fault Refusal :=
  if 0 < s.lli.owedOffers then
    let r := s.examineOwed s.lli.owed
    let t := { s with lli := s.lli.withOwed r.1 }
    match r.2 with
    | some o =>
      .next (t.pushFor (t.port o.port).cls (.portNotice o.port o.kind o.detail (t.port o.port).attention))
    | none => .next t
  else .next s

/-! ## Views (R186 to R189) -/

/-- The Fare Unit's state as the LINE view names it. -/
def FareUnit.st : FareUnit → FuState
  | .idle => .idle
  | .pricing _ => .pricing
  | .stalled _ => .stalled

/-- The entry in flight, if any. -/
def FareUnit.entry : FareUnit → Option WorkEntry
  | .idle => none
  | .pricing p => some p.entry
  | .stalled p => some p.entry

/-- Use of a level: the entries on its list, and one for the entry in flight of that level (R112). -/
def State.levelUse (s : State) (v : Level) : Nat :=
  (s.pool.list v).length + (if (s.fu.entry.map WorkEntry.level) = some v then 1 else 0)

/-- How many referral entries satisfy a test. -/
def ReferralTable.number (rt : ReferralTable) (test : RefEntry → Bool) : Nat := (rt.entries.toList.filter test).length

/-- The contents of the LINE view (R187). -/
def State.lineView (s : State) : LineView where
  lineState := s.roll.state
  day := s.clock.day
  time := s.clock.time
  overrun := s.clock.overrun
  oldDay := s.roll.oldDay
  sweepPos := s.roll.pos
  closingCount := s.roll.closingCount
  summaryLength := s.roll.summary.length
  activeValid := s.tables.activeValid
  activeGen := s.tables.activeGen
  armed := s.tables.armed
  armedGen := s.tables.armedGen
  copying := s.tables.copying
  copyRow := s.tables.copyPos.bind copyRowAt
  use0 := s.levelUse .l0
  use1 := s.levelUse .l1
  use2 := s.levelUse .l2
  use3 := s.levelUse .l3
  tapInUse := s.pool.tapInUse
  nonTapInUse := s.pool.nonTapInUse
  reservation := s.reservation
  portReservation := s.portReservation
  releasedTaps := s.pool.releasedTaps
  fareUnit := s.fu.st
  runLevel := s.pool.runLevel
  aging := s.pool.aging
  refFree := s.rt.number fun x => x.state == .free
  refAnswered := s.rt.number fun x => x.state == .answered
  refWaiting := s.rt.number fun x => x.state == .awaiting && x.work == .none && !x.due
  refPastDue := s.rt.number fun x => x.state == .awaiting && x.work == .none && x.due
  refTimedOut := s.rt.number fun x => x.state == .awaiting && x.work == .timeout
  recordsInUse := s.jt.inUse
  freeExtensions := s.jt.freeExtensions
  disposition := s.lli.disposition
  urgentLength := s.lli.urgent.length
  bulkLength := s.lli.bulk.length
  receiveLength := s.lli.receive.length
  owedLength := s.lli.owed.length
  carrier := s.lli.carrier
  copyReserve := s.lli.copyReserve.isSome

/-- The contents of the PORT view (R188). -/
def Port.view (q : Port) : PortView where
  st := q.st
  carrier := q.carrier
  autoDetach := q.autoDetach
  mask := q.mask
  cls := q.cls
  creditLimit := q.creditLimit
  outstanding := q.outstanding
  freeCredits := q.freeCredits
  advertised := q.advertised
  expected := q.expected
  attachment := q.attachment
  attachDeadline := q.attachDeadline
  attention := q.attention
  estimate := q.tracker.estimate
  settled := q.tracker.settled
  lastBeacon := q.tracker.lastBeacon

/-- The bank in a role. -/
def TableStore.bank (ts : TableStore) : BankRole → Bank
  | .active => ts.active
  | .pending => ts.prep

/-- The contents of a view as the state stands; none for a CARD whose record is absent (R186 to R189). -/
def State.viewContents (s : State) : ViewSel → Option ViewContents
  | .identity => some (.identity Config.vendorCode Config.partCode Config.siliconRevision Config.stationAddress)
  | .line => some (.line s.lineView)
  | .port p => some (.port (s.port p).view)
  | .card c d => (s.jt.lookup c d).map .card
  | .tableRow role t i => ((s.tables.bank role).row t i).map .tableRow
  | .counters => some (.counters s.lli.snapshot)

/-- A view answered: DONE with its contents, or NOT_FOUND. -/
def State.answerView (f : DownFrame) (v : ViewSel) (s : State) : State :=
  match s.viewContents v with
  | some c => s.replyFull f .done none (some c)
  | none => s.reply f .notFound

/-- A VIEW taken from the receive list (R186). -/
def viewTaken (f : DownFrame) (s : State) : State :=
  match viewAskOf f.body with
  | .select v => State.answerView f v { s with lli := { s.lli with selected := v } }
  | .again => s.answerView f s.lli.selected
  | .refused => s.reply f .badArgument

/-- VIEW. -/
def execView (s : State) : Host.Outcome State Fault Refusal :=
  match s.takeKind .view with
  | some (f, s) => .next (viewTaken f s)
  | none => .next s

/-! ## Commands of the LLI -/

/-- A SET_DISPOSITION taken from the receive list (R141). -/
def setDispositionTaken (f : DownFrame) (s : State) : State :=
  match condSetOf (fieldAt f.args 0 2) with
  | some m => State.reply f .done { s with lli := { s.lli with disposition := m } }
  | none => s.reply f .badArgument

/-- SET_DISPOSITION. -/
def execSetDisposition (s : State) : Host.Outcome State Fault Refusal :=
  match s.takeCommand .setDisposition with
  | some (f, s) => .next (setDispositionTaken f s)
  | none => .next s

/-- The capture of the device counters, with the live ones set to 0 where `clear` says so (R183). -/
def State.capture (clear : Bool) (s : State) : State :=
  { s with
    lli := { s.lli with snapshot := ⟨s.counters, s.clock.time, s.clock.day⟩ }
    counters := if clear then Counters.zero else s.counters }

/-- A CAPTURE_COUNTERS taken from the receive list (R183). -/
def captureTaken (f : DownFrame) (s : State) : State :=
  match yesNoOf (fieldAt f.args 0 1) with
  | some clear => (s.capture clear).reply f .done
  | none => s.reply f .badArgument

/-- CAPTURE_COUNTERS. -/
def execCaptureCounters (s : State) : Host.Outcome State Fault Refusal :=
  match s.takeCommand .captureCounters with
  | some (f, s) => .next (captureTaken f s)
  | none => .next s

/-- UNKNOWN_COMMAND: a COMMAND whose code is not of the table, or whose argument length disagrees with its code's (R179). -/
def execUnknownCommand (s : State) : Host.Outcome State Fault Refusal :=
  match s.takeKind .command with
  | some (f, t) => if f.command = none then .next (t.reply f .badArgument) else .next s
  | none => .next s

end Sys2Proof.Machine
end

