-- ==== Sys2Proof/Machine/Fares.lean ====
section
/-! DEFINITION. Fare reckoning, stages S0 to S7, over a pricing bank and a work entry (R115 to R132), and the disposition
decision (R137 to R144). -/

namespace Sys2Proof.Machine

/-! ## Rows by number -/

/-- A PRODUCTS row by product code. -/
def Bank.product (b : Bank) (code : Byte) : ProductRow := b.products[code.toFin]

/-- The row of a station that is 0 to 63 and enabled in the bank; none otherwise (R121, R123). -/
def Bank.station (b : Bank) (n : Nat) : Option StationRow :=
  match b.stations[n]? with
  | some r => if r.isEnabled then some r else none
  | none => none

/-- Whether a product is REFERRED, or INVALID and treated as REFERRED (R8, R117). A stored kind above 3 cannot stand in a
bank that prices (R20); it is treated alike (DEDUCED, log 26). -/
def ProductRow.isReferred (r : ProductRow) : Bool := r.kind != 1 && r.kind != 2

/-- Whether a product is FLAT (R8). -/
def ProductRow.isFlat (r : ProductRow) : Bool := r.kind == 2

/-- Whether a product is INVALID (R8, R83). -/
def ProductRow.isInvalid (r : ProductRow) : Bool := r.kind == 0 || decide (3 < r.kind)

/-- Whether the origin policy of a product is NONAWARE (R8). -/
def ProductRow.isNonAware (r : ProductRow) : Bool := r.policy == 1

/-- The difference of two chainages, taken as a non-negative number. -/
def natDistance (a b : Nat) : Nat := (a - b) + (b - a)

/-! ## S0: resolving (R119) -/

/-- The code of an item kind (R190). -/
def AttrKind.code : AttrKind → Nat
  | .concession => 1
  | .companions => 2
  | .originHint => 3
  | .authRef => 4

/-- The value that fills a slot expecting kind `k`, if the tap's entry at that position fills it (R119). -/
def slotValue (k : AttrKind) (a : Option Attr) : Option Nat :=
  match a with
  | none => none
  | some a =>
    if a.kind ≠ k then none
    else match k with
      | .concession => if a.value ≤ 15 then some a.value else none
      | .companions => if a.value ≤ 7 then some a.value else none
      | _ => some a.value

/-- How a kind resolves (R119). -/
inductive Resolution where
  | notExpected
  | expectedAbsent
  | filled (v : Nat)
  deriving DecidableEq, Repr

/-- The resolution of a kind for one half: its list matched position by position against the expected list of its
product (R119). -/
def resolve (expected : List Nat) (attrs : List Attr) (k : AttrKind) : Resolution :=
  if k.code ∈ expected then
    match expected.zipIdx.findSome? fun (c, i) => if c = k.code then slotValue k attrs[i]? else none with
    | some v => .filled v
    | none => .expectedAbsent
  else .notExpected

/-- A kind resolved from a half (R117: against the expected list of that half's product); not expected where the half is
absent. -/
def resolveHalf (b : Bank) (h : Option Half) (k : AttrKind) : Resolution :=
  match h with
  | some h => resolve (b.product h.product).expected h.attrs k
  | none => .notExpected

/-- Whether a resolution is EXPECTED_ABSENT, which raises ATTRIBUTE_ABSENT where its stage runs (R120). -/
def Resolution.isMissing : Resolution → Bool
  | .expectedAbsent => true
  | _ => false

/-- The value of a resolution, if filled. -/
def Resolution.value : Resolution → Option Nat
  | .filled v => some v
  | _ => none

/-! ## S1 and S2: distance and units (R121 to R123) -/

/-- The junction at which a branch leaves the trunk. -/
def LineRow.junction (l : LineRow) (branch : Nat) : Nat := if branch = 1 then l.junction1 else l.junction2

/-- The distance of two stations in metres (R121). -/
def Bank.distance (b : Bank) (x y : StationRow) : Nat :=
  if x.branch = y.branch then natDistance x.chainage y.chainage
  else if x.branch = 0 then natDistance x.chainage (b.line.junction y.branch) + y.chainage
  else if y.branch = 0 then natDistance y.chainage (b.line.junction x.branch) + x.chainage
  else x.chainage + natDistance b.line.junction1 b.line.junction2 + y.chainage

/-- The units of a distance: divided by 100, rounded up (R122). -/
def unitsOf (metres : Nat) : Nat := (metres + 99) / 100

/-- What S1 and S2 come to: stations, origin source, distance and units, and the conditions they and the journey's shape
raise (R118, R138). -/
structure Route where
  origin : Option Nat
  dest : Option Nat
  source : OriginSource
  distance : Option Nat
  units : Option Nat
  conds : CondSet
  deriving DecidableEq, Repr

/-- Two stations known: S1 and R122, or STATION_UNKNOWN (R121). -/
def Bank.routeBetween (b : Bank) (minUnits : Nat) (source : OriginSource) (o d : Nat) : Route :=
  match b.station o, b.station d with
  | some x, some y =>
    let m := b.distance x y
    ⟨some o, some d, source, some m, some (max (unitsOf m) minUnits), 0⟩
  | _, _ => ⟨some o, some d, source, none, none, Condition.stationUnknown.only⟩

/-- The origin alone known: its far units, and INCOMPLETE (R123, R138). -/
def Bank.routeFrom (b : Bank) (minUnits : Nat) (source : OriginSource) (o : Nat) : Route :=
  match b.station o with
  | some x => ⟨some o, none, source, none, some (max x.farUnits minUnits), Condition.incomplete.only⟩
  | none => ⟨some o, none, source, none, none, Condition.incomplete.only ||| Condition.stationUnknown.only⟩

/-- The destination priced by its far units, with ORIGIN_UNKNOWN (R123, R138). -/
def farTo (minUnits d : Nat) (y : StationRow) (missing : CondSet) : Route :=
  ⟨none, some d, .none, none, some (max y.farUnits minUnits), Condition.originUnknown.only ||| missing⟩

/-- The destination alone known: the hint if it is usable, the destination's far units otherwise; a destination unknown to
the bank raises STATION_UNKNOWN and the hint is not examined (R123, R138). -/
def Bank.routeTo (b : Bank) (minUnits : Nat) (hint : Resolution) (d : Nat) : Route :=
  match b.station d with
  | none => ⟨none, some d, .none, none, none, Condition.originUnknown.only ||| Condition.stationUnknown.only⟩
  | some y =>
    match hint with
    | .filled o =>
      if (b.station o).isSome then b.routeBetween minUnits .hint o d else farTo minUnits d y 0
    | .expectedAbsent => farTo minUnits d y Condition.attributeAbsent.only
    | .notExpected => farTo minUnits d y 0

/-- CLOCK_UNSETTLED where either half carries its clock flag (R138). -/
def Journey.clockConds (j : Journey) : CondSet :=
  Condition.clockUnsettled.onlyIf ((j.origin.map Half.clock).getD false || (j.dest.map Half.clock).getD false)

/-- The origin station S1 works from and the origin source: the station a REPRICE answer names, or the origin half's
(R118). -/
def originOf (j : Journey) (answer : Option RefAnswer) : Option Nat × OriginSource :=
  match answer with
  | some (.reprice o) => (some o, .referral)
  | _ => (j.origin.map Half.station, j.source)

/-- S1 and S2 of a journey by the stations it has (R118). -/
def Bank.route (b : Bank) (minUnits : Nat) (j : Journey) (answer : Option RefAnswer) : Route :=
  let o := originOf j answer
  match o.1, j.dest with
  | some st, some d => b.routeBetween minUnits o.2 st d.station
  | some st, none => b.routeFrom minUnits o.2 st
  | none, some d => b.routeTo minUnits (resolveHalf b j.dest .originHint) d.station
  | none, none => ⟨none, none, .none, none, none, Condition.originUnknown.only ||| Condition.incomplete.only⟩

/-! ## S3: band fare (R124, R125) -/

/-- The rows of BANDS in use. -/
def Bank.bandsInUse (b : Bank) : Nat := min 16 b.line.bandCount

/-- The band row of a unit count: the first row in use whose U is at least the units, else the last row in use (R124). -/
def Bank.bandRowFor (b : Bank) (units : Nat) : Nat :=
  match (List.range b.bandsInUse).find? fun i => decide (units ≤ b.upper i) with
  | some i => i
  | none => b.bandsInUse - 1

/-- The band fare of a row, in tenth-cents: 10 × base + rate × (units − U of the row before) (R124). -/
def Bank.bandFare (b : Bank) (i units : Nat) : Nat :=
  match b.bands[i]? with
  | some r => 10 * r.base + r.rate * (units - (if i = 0 then 0 else b.upper (i - 1)))
  | none => 0

/-! ## S5: factors and rounding (R127 to R129) -/

/-- The rows of TIMEBANDS in use. -/
def Bank.timeBandsInUse (b : Bank) : Nat := min 8 b.line.timeBandCount

/-- The time factor: the factor of the last row in use whose start is at or before the time (R127). -/
def Bank.timeFactor (b : Bank) (time : Nat) : Nat :=
  match (List.range b.timeBandsInUse).reverse.find? fun i => decide (b.bandStart i ≤ time) with
  | some i => b.bandFactor i
  | none => b.bandFactor 0

/-- The time of the journey: the in time where there is an origin half, the out time otherwise (R127). -/
def Journey.time (j : Journey) : Nat :=
  match j.origin, j.dest with
  | some h, _ => h.time
  | none, some h => h.time
  | none, none => 0

/-- The divisor of S5: ten tenth-cents to the cent, and 1,000 for each factor (R128). -/
abbrev fareDivisor : Nat := 10000000

/-- N / 10,000,000 rounded by the mode of LINE (R129; codes of R4). A code above 3 cannot stand in a bank that prices
(R20); it rounds as NEAREST_EVEN (DEDUCED, log 26). -/
def roundFare (mode n : Nat) : Nat :=
  let q := n / fareDivisor
  let r := n % fareDivisor
  match mode with
  | 0 => q
  | 1 => if 0 < r then q + 1 else q
  | 2 => if 5000000 ≤ r then q + 1 else q
  | _ => if 5000000 < r ∨ (r = 5000000 ∧ q % 2 = 1) then q + 1 else q

/-- INEXACT and ZERO_ROUNDED (R129). -/
def roundConds (mode n : Nat) : CondSet :=
  Condition.inexact.onlyIf (n % fareDivisor != 0) ||| Condition.zeroRounded.onlyIf (n != 0 && roundFare mode n == 0)

/-- S6: the ceiling (R130). -/
def ceilFare (ceiling fare : Nat) : Nat := min ceiling fare

/-- FARE_OVERFLOW (R130). -/
def ceilConds (ceiling fare : Nat) : CondSet := Condition.fareOverflow.onlyIf (decide (ceiling < fare))

/-- The half CONCESSION and COMPANIONS are taken from: the origin half when present, else the destination half (R117). -/
def Journey.fareHalf (j : Journey) : Option Half :=
  match j.origin with
  | some h => some h
  | none => j.dest

/-- The companions of a journey: the value its COMPANIONS resolves to at S0, or 0 (R120, R126). -/
def Bank.companions (b : Bank) (j : Journey) : Nat := (resolveHalf b j.fareHalf .companions).value.getD 0

/-- The factor of the class of a CONCESSION, or the default (R120, R128). -/
def Bank.concessionFactor (b : Bank) (row : ProductRow) (r : Resolution) : Nat :=
  match r with
  | .filled c => match b.concessions[c]? with | some x => x.factor | none => row.defaultFactor
  | _ => row.defaultFactor

/-- S3 to S6 of a journey with units: band fare, group, factors, rounding, ceiling (R124 to R130). -/
def Bank.fareStages (b : Bank) (row : ProductRow) (j : Journey) (units : Nat) : FareResult :=
  let con := resolveHalf b j.fareHalf .concession
  let com := resolveHalf b j.fareHalf .companions
  let band := b.bandRowFor units
  let base := if row.isFlat then 10 * row.flat else b.bandFare band units
  let group := base * (1 + b.companions j)
  let tf := b.timeFactor j.time
  let cf := b.concessionFactor row con
  let n := group * tf * cf
  let rounded := roundFare b.line.rounding n
  { bandRow := if row.isFlat then none else some band
    groupFare := some group
    companions := b.companions j
    concessionClass := con.value
    timeFactor := some tf
    concessionFactor := some cf
    fare := some (ceilFare b.line.ceiling rounded)
    conds := Condition.attributeAbsent.onlyIf (con.isMissing || com.isMissing) ||| roundConds b.line.rounding n |||
      ceilConds b.line.ceiling rounded }

/-- S3 to S6 not run (R121, R125); the companions are a SETTLE's 0 (R157). No concession class is reported where S5 does not run,
though S0 has resolved one: none was used (R120, R135; DEDUCED, log 44). -/
def FareResult.notRun : FareResult := ⟨none, none, 0, none, none, none, none, 0⟩

/-- The pricing product: the origin half's when there is one, else the destination half's (R117). -/
def Journey.product (j : Journey) : Byte := (j.fareHalf.map Half.product).getD 0

/-- AUTH_REF, from the destination half (R117, R120). -/
def Bank.authRef (b : Bank) (j : Journey) : Option Nat := (resolveHalf b j.dest .authRef).value

/-- S0 to S6 of a pricing other than a SETTLE: computed aside for a REFERRED product (R125, R139). S0 runs also where
STATION_UNKNOWN keeps S3 to S6 from running (R118), so the companions it resolves are reported there too (R120, R126).
REPRICE and timeout work is reckoned afresh, by the bank copied at its grant alone: timeout work whose diversion
STATION_UNKNOWN forced is charged 0 only where that bank raises STATION_UNKNOWN again (R158; DEDUCED, log 45). -/
def Bank.reckon (b : Bank) (j : Journey) (answer : Option RefAnswer) : Reckoning :=
  let row := b.product j.product
  let r := b.route row.minUnits j answer
  let result := match r.units with
    | some u => b.fareStages row j u
    | none => { FareResult.notRun with companions := b.companions j }
  let own := r.conds ||| j.clockConds
  { generation := b.line.generation
    product := j.product
    productRow := row
    origin := r.origin
    dest := r.dest
    source := r.source
    distance := r.distance
    units := r.units
    result := result
    aside := row.isReferred
    conds := if row.isReferred then own else own ||| result.conds
    asideConds := if row.isReferred then result.conds else 0
    charged := 0
    authRef := b.authRef j }

/-- The fare a SETTLE charges from its answer: the amount held to the ceiling, or 0 for VOID (R157). -/
def settleFare (ceiling : Nat) : RefAnswer → Nat
  | .charge amount _ => min ceiling amount
  | _ => 0

/-- FARE_OVERFLOW of a SETTLE (R157). -/
def settleConds (ceiling : Nat) : RefAnswer → CondSet
  | .charge amount _ => ceilConds ceiling amount
  | _ => 0

/-- The reckoning of a SETTLE: no stage runs; stations from the snapshot, distance, units and conditions from the referral
entry, the fare from the answer (R157). Its origin source is the one its snapshot holds (R149), which no rule states of a SETTLE
(R118, R135: DESIGN CHOICE, log 42). -/
def Bank.reckonSettle (b : Bank) (j : Journey) (e : RefEntry) (a : RefAnswer) : Reckoning where
  generation := b.line.generation
  product := j.product
  productRow := b.product j.product
  origin := j.origin.map Half.station
  dest := j.dest.map Half.station
  source := j.source
  distance := e.distance
  units := e.units
  result := { FareResult.notRun with fare := some (settleFare b.line.ceiling a) }
  aside := false
  conds := e.conds ||| settleConds b.line.ceiling a
  asideConds := 0
  charged := 0
  authRef := none

/-! ## S7: the daily cap (R132) -/

/-- The charged amount under a daily cap, with the day total read (R132); cap 0 is none. -/
def capCharge (cap dayTotal fare : Nat) : Nat := if cap = 0 then fare else min fare (cap - dayTotal)

/-- The fare a pricing charges before the cap: an exact 0 where no stage made one (R125). -/
def Reckoning.fareToCharge (r : Reckoning) : Nat := r.result.fare.getD 0

/-- Whether the path applies S7: a SETTLE as its answer says, any other pricing always (R118, R157). -/
def appliesCap (kind : WorkKind) (answer : Option RefAnswer) : Bool :=
  if kind = .settle then (match answer with | some (.charge _ cap) => cap | _ => false) else true

/-- The charge of a pricing against a day total (R131 step 2, R132). -/
def Reckoning.charge (r : Reckoning) (cap : Bool) (dayTotal : Nat) : Nat :=
  if cap then capCharge r.productRow.cap dayTotal r.fareToCharge else r.fareToCharge

/-- The reckoning with S7 computed: the charged amount, and CAPPED into the journey's own set, or into the set held aside
for a REFERRED product (R132, R139). -/
def Reckoning.withCharge (r : Reckoning) (cap : Bool) (dayTotal : Nat) : Reckoning :=
  let c := r.charge cap dayTotal
  let raised := Condition.capped.onlyIf (decide (c < r.fareToCharge))
  { r with
    charged := c
    conds := if r.aside then r.conds else r.conds ||| raised
    asideConds := if r.aside then r.asideConds ||| raised else r.asideConds }

/-- The reckoning of the undiverted outcome: the set held aside joins the journey's own, and a journey whose S5 did not run
has the fare 0 (R125, R139, R146). -/
def Reckoning.undiverted (r : Reckoning) : Reckoning :=
  { r with
    result := { r.result with fare := some r.fareToCharge }
    conds := r.conds ||| r.asideConds
    asideConds := 0 }

/-! ## Disposition (R143, R144) -/

/-- The triggering conditions of a set under a mask (R143). -/
def triggering (row : ProductRow) (mask own : CondSet) : CondSet :=
  own &&& (mask ||| Condition.stationUnknown.only ||| Condition.originUnknown.onlyIf row.isNonAware)

/-- The divert reason, or none where the journey is charged (R143, R144). -/
def divertReason (row : ProductRow) (mask own : CondSet) : Option DivertReason :=
  if row.isReferred then some .referredProduct else (triggering row mask own).lead.map .condition

end Sys2Proof.Machine
end

