-- ==== Sys2Proof/Machine/Pricing.lean ====
section
/-! DEFINITION. A pricing from its grant to its completion: copies, reckoning, outcome update, gate answer, upstream frame,
endings and release (R108 to R111, R131 to R136, R145 to R153, R157 to R161). -/

namespace Sys2Proof.Machine

/-! ## The grant (R109) -/

/-- The referral entry a work entry's ticket names. -/
def State.ticketEntry (s : State) (e : WorkEntry) : Option RefEntry := e.ticket.map fun t => s.rt.entry (slotOfTicket t)

/-- The copies taken at a grant: the mask, the bank that prices the entry's day, and for SETTLE and REPRICE the stored
answer (R109). -/
def State.copiesFor (s : State) (e : WorkEntry) : Copies where
  mask := s.lli.disposition
  bank := s.bankFor e.day
  answer := if e.kind = .settle ∨ e.kind = .reprice then (s.ticketEntry e).bind RefEntry.answer else none

/-- The reckoning made at a grant: S0 to S6, or a SETTLE's (R115, R118, R157). A SETTLE always names an entry with an answer;
without one it would settle as VOID (DEDUCED, log 30). -/
def State.reckoningFor (s : State) (e : WorkEntry) (c : Copies) : Reckoning :=
  match e.kind with
  | .settle => c.bank.reckonSettle e.snap ((s.ticketEntry e).getD (RefEntry.cleared 0)) (c.answer.getD .void)
  | _ => c.bank.reckon e.snap c.answer

/-! ## S8 (R133) -/

/-- What a charged pricing takes from the pending count: 1 for the work, and 1 for the referral entry that it frees
(R70, R71). -/
def WorkEntry.settles (e : WorkEntry) : Nat := if e.ticket.isSome then 2 else 1

/-- S8: a charge written into the record (R68, R133). -/
def Record.charge (k : Reckoning) (n : Nat) (r : Record) : Record :=
  { r.lowerPending n with
    dayTotal := min Config.dayTotalMax (r.dayTotal + k.charged)
    journeys := min 255 (r.journeys + 1)
    accrued := r.accrued ||| k.conds }

/-- The condition counters of a written charge: every condition of its final set, but for work with a ticket those alone that
are not in its entry's stored set (R148). -/
def State.countConditions (e : WorkEntry) (conds : CondSet) (s : State) : State :=
  match s.ticketEntry e with
  | some r => s.bumpConditions (conds &&& ~~~r.conds)
  | none => s.bumpConditions conds

/-- The outcome update of a charged pricing (R131, R133, R146); `unavailable` says that it stands for a diversion that found
no referral slot (R153). -/
def State.chargeRecord (e : WorkEntry) (c : Copies) (k : Reckoning) (r : Record) (unavailable : Bool) (s : State) :
    Pricing × State :=
  let k := k.undiverted
  let r := r.charge k e.settles
  let s := (s.writeRecord r).reportIfReady r
  let s := s.countConditions e k.conds
  let s := if unavailable then s.bump .referralUnavailable else s
  (⟨e, c, k, .charged (some r.dayTotal) unavailable⟩, s)

/-! ## A record that is gone (R161) -/

/-- The outcome of a pricing whose record is absent: the uncapped fare, nothing written. It seeks no referral entry, so
REFERRAL_UNAVAILABLE is clear even where its conditions would divert it and no entry is free (R161; DEDUCED, log 46). -/
def State.chargeGone (e : WorkEntry) (c : Copies) (k : Reckoning) (s : State) : Pricing × State :=
  let k := { k.undiverted with charged := k.fareToCharge }
  let s := (s.countConditions e k.conds).bump .recordGone
  (⟨e, c, k, .charged none false⟩, s)

/-! ## Making a referral (R151) -/

/-- The referral entry a diversion fills. The fare is carried where S5 ran and its results are not held aside (R145). -/
def State.referralFor (s : State) (e : WorkEntry) (c : Copies) (k : Reckoning) (reason : DivertReason)
    (use : BitVec 8) : RefEntry :=
  let dueTime := s.dueAfter c.bank.line.referralTimeout
  { state := .awaiting
    useCount := use
    card := e.card
    day := e.day
    kind := e.kind
    snap := e.snap
    distance := k.distance
    units := k.units
    fare := if k.aside then none else k.result.fare
    reason := reason
    conds := k.conds
    generation := k.generation
    dueTime := dueTime
    due := decide (dueTime ≤ s.clock.time)
    fallenDue := decide (dueTime ≤ s.clock.time)
    answer := none
    work := .none }

/-- The head slot of the free list filled; one due at its making joins the ready list (R151). -/
def State.makeReferral (slot : Fin 256) (rest : List (Fin 256)) (x : RefEntry) (s : State) : State :=
  { s with rt := { s.rt.setEntry slot x with
      freeList := rest
      ready := if x.due then joinTail slot s.rt.ready else s.rt.ready } }

/-- The outcome update of a diverted pricing: the referral made, the pending count written unchanged, +1 and −1 together
(R71, R145, R151; DEDUCED, log 23). -/
def State.divert (e : WorkEntry) (c : Copies) (k : Reckoning) (r : Record) (reason : DivertReason) (slot : Fin 256)
    (rest : List (Fin 256)) (s : State) : Pricing × State :=
  let x := s.referralFor e c k reason ((s.rt.entry slot).useCount + 1)
  let s := s.makeReferral slot rest x
  let s := (s.writeRecord r).reportIfReady r
  let s := (s.bump (.diverts reason)).bumpConditions k.conds
  (⟨e, c, k, .diverted slot⟩, s)

/-! ## The outcome update (R131) -/

/-- The disposition of a pricing: a divert reason, or none where it is charged; work with a ticket is never diverted
(R143). -/
def disposition (e : WorkEntry) (c : Copies) (k : Reckoning) : Option DivertReason :=
  if e.ticket.isSome then none else divertReason k.productRow c.mask k.conds

/-- The single record update of a pricing: read, cap, disposition, write (R131, R132, R143, R153, R161). -/
def State.outcomeUpdate (e : WorkEntry) (c : Copies) (k : Reckoning) (s : State) : Pricing × State :=
  match s.jt.lookup e.card e.day with
  | none => s.chargeGone e c k
  | some r =>
    let k := k.withCharge (appliesCap e.kind c.answer) r.dayTotal
    match disposition e c k with
    | none => s.chargeRecord e c k r false
    | some reason =>
      match s.rt.freeList with
      | slot :: rest => s.divert e c k r reason slot rest
      | [] => s.chargeRecord e c k r true

/-! ## Step 2: the gate answer (R136) -/

/-- The answer a pricing gives a live gate. -/
def Pricing.gateAnswer (p : Pricing) : Answer :=
  match p.outcome with
  | .charged _ _ => .go (some p.reck.charged)
  | .diverted _ => .goProvisional

/-- Step 2: the answer handed over where the waiting tap's live flag is set. -/
def State.answerGate (p : Pricing) (s : State) : State :=
  match p.entry.waiting with
  | some w => if w.live then s.handAnswer w.port w.attachment w.tapNumber p.gateAnswer else s
  | none => s

/-! ## Step 3: the upstream frame (R135, R152, R192) -/

/-- The JOURNEY frame of a charged pricing, made at line time `time` (R135). -/
def Pricing.journey (p : Pricing) (dayTotal : Option Nat) (unavailable : Bool) (time : Nat) : JourneyFrame where
  card := p.entry.card
  day := p.entry.day
  kind := p.entry.kind
  source := p.reck.source
  originStation := p.reck.origin
  inTime := p.entry.snap.origin.map Half.time
  inPort := p.entry.snap.origin.map Half.port
  inClock := (p.entry.snap.origin.map Half.clock).getD false
  destStation := p.entry.snap.dest.map Half.station
  outTime := p.entry.snap.dest.map Half.time
  outPort := p.entry.snap.dest.map Half.port
  outClock := (p.entry.snap.dest.map Half.clock).getD false
  product := p.reck.product
  distance := p.reck.distance
  units := p.reck.units
  bandRow := p.reck.result.bandRow
  companions := p.reck.result.companions
  concessionClass := p.reck.result.concessionClass
  concessionFactor := p.reck.result.concessionFactor
  timeFactor := p.reck.result.timeFactor
  fare := p.reck.result.fare
  charged := p.reck.charged
  dayTotal := dayTotal
  conds := p.reck.conds
  unavailable := unavailable
  timedOut := p.entry.timedOut
  ticket := p.entry.ticket
  authRef := p.reck.authRef
  generation := p.reck.generation
  time := time

/-- The REFERRAL_REQUEST of a referral entry, made at line time `time` (R152). -/
def RefEntry.request (x : RefEntry) (slot : Fin 256) (authRef : Option Nat) (time : Nat) : RequestFrame where
  ticket := ticketOf x.useCount slot
  card := x.card
  day := x.day
  kind := x.kind
  source := x.snap.source
  origin := x.snap.origin
  dest := x.snap.dest
  distance := x.distance
  units := x.units
  fare := x.fare
  reason := x.reason
  conds := x.conds
  authRef := authRef
  generation := x.generation
  dueTime := x.dueTime
  time := time

/-- The frame a pricing's outcome requires, as the state stands at its placing (R192). -/
def State.frameOf (s : State) (p : Pricing) : UpFrame :=
  match p.outcome with
  | .charged dayTotal unavailable => .journey (p.journey dayTotal unavailable s.clock.time)
  | .diverted slot => .referralRequest ((s.rt.entry slot).request slot p.reck.authRef s.clock.time)

/-- The counter of the frame placed: JOURNEY frames or referral requests (R115, R151). -/
def PriceOutcome.counter : PriceOutcome → CounterId
  | .charged _ _ => .journeyFrames
  | .diverted _ => .referralRequests

/-- Step 3, with a bulk place: the frame placed and counted. -/
def State.placeOutcome (p : Pricing) (s : State) : State := (s.pushBulk (s.frameOf p)).bump p.outcome.counter

/-! ## Steps 4 and 5: endings and release (R110, R159) -/

/-- A referral entry freed: FREE, no work mark, answer and due mark cleared, its slot at the tail of the free list, its use
count kept (R159). -/
def State.freeReferral (slot : Fin 256) (s : State) : State :=
  let x := s.rt.entry slot
  { s with rt := { s.rt.setEntry slot { x with
        state := .free, work := .none, answer := none, due := false, fallenDue := false } with
      freeList := joinTail slot s.rt.freeList } }

/-- The waiting tap of a pricing ended, where it has one. -/
def State.endWaiting (w : Option WaitingTap) (s : State) : State :=
  match w with
  | some w => s.endTap w.port w.attachment
  | none => s

/-- The referral entry of a ticket freed, where there is one. -/
def State.endTicket (t : Option (BitVec 16)) (s : State) : State :=
  match t with
  | some t => s.freeReferral (slotOfTicket t)
  | none => s

/-- Steps 4 and 5 of R110. -/
def State.finishPricing (p : Pricing) (s : State) : State :=
  let s := (s.endWaiting p.entry.waiting).endTicket p.entry.ticket
  State.freeSlot p.entry.cls { s with fu := .idle }

/-- Steps 3 to 5: the frame placed and the pricing finished, or the Fare Unit STALLED where the bulk queue is full (R110,
R111). -/
def State.placeAndFinish (p : Pricing) (s : State) : State :=
  if s.lli.bulkHasPlace then (s.placeOutcome p).finishPricing p
  else State.bump .stalls { s with fu := .stalled p }

/-! ## The commands -/

/-- A granted entry priced: copies, reckoning, outcome update, and the steps of R110. -/
def State.priceEntry (e : WorkEntry) (s : State) : State :=
  let c := s.copiesFor e
  let o := s.outcomeUpdate e c (s.reckoningFor e c)
  (o.2.answerGate o.1).placeAndFinish o.1

/-- GRANT (R108): with the Fare Unit idle and some list not empty. -/
def execGrant (s : State) : Host.Outcome State Fault Refusal :=
  match s.fu, s.pool.grant with
  | .idle, some (e, isAging, pool) =>
    let s := { s with pool := pool }
    let s := if isAging then s.bump .agingGrants else s
    .next (s.priceEntry e)
  | _, _ => .next s

/-- STALL_RESUME (R111): a STALLED Fare Unit given a bulk place. -/
def execStallResume (s : State) : Host.Outcome State Fault Refusal :=
  match s.fu with
  | .stalled p => if s.lli.bulkHasPlace then .next ((s.placeOutcome p).finishPricing p) else .next s
  | _ => .next s

end Sys2Proof.Machine
end

