-- ==== Sys2Proof/Machine/Referrals.lean ====
section
/-! DEFINITION. The Referral Table: answers from the line server and the work it creates (R149 to R160). -/

namespace Sys2Proof.Machine

/-! ## Answers (R154, R155) -/

/-- Whether an AWAITING entry has timed out (R149). -/
def RefEntry.timedOut (x : RefEntry) : Bool := x.state == .awaiting && x.work == .timeout

/-- Whether a REPRICE answer names a station the bank does not know (R154, case 4). -/
def badReprice (b : Bank) : RefAnswer → Bool
  | .reprice n => (b.station n).isNone
  | _ => false

/-- An answer taken (R155). -/
def State.takeAnswer (slot : Fin 256) (a : RefAnswer) (s : State) : State :=
  let x := s.rt.entry slot
  { s with rt := { s.rt.setEntry slot { x with state := .answered, answer := some a } with
      ready := joinTail slot s.rt.ready } }

/-- An answer decided against the entry its ticket names: cases 2 to 5 of R154. -/
def State.decideAnswer (ticket : BitVec 16) (a : RefAnswer) (s : State) : Status × State :=
  let slot := slotOfTicket ticket
  let x := s.rt.entry slot
  if x.state = .free ∨ x.useCount ≠ useOfTicket ticket ∨ x.timedOut = true then (.late, s.bump .lateAnswers)
  else if x.state = .answered then (.alreadyAnswered, s.bump .alreadyAnswered)
  else if badReprice (s.bankFor x.day) a then (.badArgument, s.bump .refusedAnswers)
  else (.done, (s.takeAnswer slot a).bump .answersTaken)

/-- A REFERRAL_ANSWER taken from the receive list (R154). -/
def referralAnswerTaken (f : DownFrame) (s : State) : State :=
  match answerOfBody f.body with
  | none => (s.bump .refusedAnswers).reply f .badArgument
  | some a =>
    let d := s.decideAnswer (ticketOfBody f.body) a
    d.2.reply f d.1

/-- REFERRAL_ANSWER. -/
def execReferralAnswer (s : State) : Host.Outcome State Fault Refusal :=
  match s.takeKind .referralAnswer with
  | some (f, s) => .next (referralAnswerTaken f s)
  | none => .next s

/-! ## Work from referrals (R156) -/

/-- The kind of work an entry at the head of the ready list creates, and its work mark afterwards; none for an entry that is
neither ANSWERED nor AWAITING with its due mark set (none such stands on the list: DEDUCED, log 30). -/
def RefEntry.workDue (x : RefEntry) : Option (WorkKind × RefWork) :=
  match x.state with
  | .answered =>
    match x.answer with
    | some (.reprice _) => some (.reprice, .reprice)
    | some _ => some (.settle, .settle)
    | none => none
  | .awaiting => if x.due then some (x.kind, .timeout) else none
  | .free => none

/-- The work entry a referral creates: L1, NON_TAP, with the ticket and without a waiting tap (R102, R156). -/
def RefEntry.workEntry (x : RefEntry) (slot : Fin 256) (kind : WorkKind) (mark : RefWork) : WorkEntry where
  kind := kind
  level := .l1
  cls := .nonTap
  card := x.card
  day := x.day
  snap := x.snap
  waiting := none
  ticket := some (ticketOf x.useCount slot)
  timedOut := mark == .timeout

/-- The record's pending count raised for referral work; nothing where the record is gone (R156). -/
def State.raiseRecord (x : RefEntry) (s : State) : State :=
  match s.jt.lookup x.card x.day with
  | some r => s.writeRecordWithWork r
  | none => s

/-- The work of the entry at the head of the ready list created (R156, R160). -/
def State.createReferralWork (slot : Fin 256) (rest : List (Fin 256)) (s : State) : State :=
  let x := s.rt.entry slot
  match x.workDue with
  | some (kind, mark) =>
    let s := { s with rt := { s.rt.setEntry slot { x with work := mark } with ready := rest } }
    let s := (s.raiseRecord x).joinPool (x.workEntry slot kind mark)
    if mark = .timeout then s.bump .timeouts else s
  | none => { s with rt := { s.rt with ready := rest } }

/-- REFERRAL_WORK: the head of the ready list, with a non-tap slot free (R156). -/
def execReferralWork (s : State) : Host.Outcome State Fault Refusal :=
  match s.rt.ready with
  | slot :: rest => if 0 < s.nonTapFree then .next (s.createReferralWork slot rest) else .next s
  | [] => .next s

end Sys2Proof.Machine
end

