-- ==== Sys2Proof/Machine/Reset.lean ====
section
/-! DEFINITION. The two resets: POWER_ON_RESET (R185) and ENGINE_RESET (R184). -/

namespace Sys2Proof.Machine

/-- POWER_ON_RESET: every block at its power-on values; the commands that wait still wait (R185). -/
def execPowerOnReset (s : State) : Host.Outcome State Fault Refusal := .next { State.reset with pending := s.pending }

/-- The Referral Table at ENGINE_RESET: every entry cleared but its use count (R162). -/
def ReferralTable.engineReset (rt : ReferralTable) : ReferralTable where
  entries := rt.entries.map fun x => RefEntry.cleared x.useCount
  freeList := List.finRange 256
  ready := []

/-- The Roll Sweep at ENGINE_RESET (R176). -/
def RollSweep.engineReset (r : RollSweep) : RollSweep :=
  ⟨if r.state = .notReady then .notReady else .ready, none, 0, [], false, 0, [], none⟩

/-- The LLI at ENGINE_RESET (R177, R184): the owed list emptied, the selected view IDENTITY, everything else kept. -/
def LineLink.engineReset (l : LineLink) : LineLink := { l with selected := .identity, owed := [], owedOffers := 0 }

/-- Every block's reset, as one event (R22, R43, R44, R75, R100, R113, R162, R176, R184). -/
def State.resetBlocks (s : State) : State :=
  { s with
    ports := s.ports.map Port.engineReset
    clock := { s.clock with owedOverrun := false }
    tables := s.tables.engineReset
    jt := JourneyTable.reset
    pu := ⟨none, .intake, 0⟩
    expiry := []
    pool := WorkPool.reset
    fu := .idle
    rt := s.rt.engineReset
    roll := s.roll.engineReset
    lli := s.lli.engineReset
    counters := Counters.zero }

/-- What follows the reset on each port, in ascending order (R43; the order: DEDUCED, log 25). -/
def State.resetPorts (s : State) : State := (List.finRange 8).foldl (fun s p => s.afterReset p) s

/-- An ENGINE_RESET taken from the receive list (R184): an abandoned copy's REPLY BAD_STATE, the reset, then the REPLY DONE. -/
def engineResetTaken (f : DownFrame) (s : State) : State := ((s.copyReply .badState).resetBlocks.resetPorts).reply f .done

/-- ENGINE_RESET. -/
def execEngineReset (s : State) : Host.Outcome State Fault Refusal :=
  match s.takeCommand .engineReset with
  | some (f, s) => .next (engineResetTaken f s)
  | none => .next s

end Sys2Proof.Machine
end

