-- ==== Sys2Proof/Machine/Pairing.lean ====
section
/-! DEFINITION. The Pairing Unit: its sources, a tap's intake, duplicate and product checks, the pairing cases, TAP_NOTICEs, the
steps of due expiry entries, and the closure of a record (R76 to R99, R169). -/

namespace Sys2Proof.Machine

/-! ## Halves, snapshots and the work pairing makes (R84, R102) -/

/-- The half a tap gives a journey. -/
def Tap.half (t : Tap) : Half := ⟨t.station, t.time, t.port, t.product, t.attrs, t.unsettled⟩

/-- The half an open journey gives. -/
def OpenJourney.half (o : OpenJourney) : Half := ⟨o.station, o.time, o.port, o.product, o.attrs, o.unsettled⟩

/-- The half a held tap-out gives. -/
def HeldTap.half (h : HeldTap) : Half := ⟨h.station, h.time, h.port, h.product, h.attrs, h.unsettled⟩

/-- A journey of two halves: origin source TAP (R84). -/
def Journey.whole (o d : Half) : Journey := ⟨some o, some d, .tap⟩

/-- A journey of an origin alone: origin source TAP (R84). -/
def Journey.incomplete (o : Half) : Journey := ⟨some o, none, .tap⟩

/-- A journey of a destination alone: origin source NONE (R84). -/
def Journey.originUnknown (d : Half) : Journey := ⟨none, some d, .none⟩

/-- The waiting tap of an entry; `live` is set only where the gate still waits for this work's answer (R84). -/
def Tap.waiting (t : Tap) (live : Bool) : WaitingTap := ⟨t.port, t.attachment, t.tapNumber, live⟩

/-- An entry caused by a tap: source class TAP, no ticket (R102). -/
def tapWork (kind : WorkKind) (level : Level) (r : Record) (snap : Journey) (w : WaitingTap) : WorkEntry :=
  ⟨kind, level, .tap, r.card, r.day, snap, some w, none, false⟩

/-- An entry caused by an expiry or a closure: source class NON_TAP, no waiting tap (R102). -/
def nonTapWork (kind : WorkKind) (level : Level) (r : Record) (snap : Journey) : WorkEntry :=
  ⟨kind, level, .nonTap, r.card, r.day, snap, none, none, false⟩

/-- The open journey a tap-in becomes (R65). -/
def Tap.toOpen (t : Tap) : OpenJourney := ⟨t.station, t.time, t.port, t.tapNumber, t.product, t.unsettled, t.attrs⟩

/-- The held entry a tap-out becomes, with line time as its hold-arrival time (R66, R91). -/
def Tap.toHeld (t : Tap) (now : Nat) : HeldTap :=
  ⟨t.station, t.time, t.port, t.hubSeq, t.product, t.unsettled, t.attrs, now⟩

/-- The answer `a`, for a live tap alone (R42). -/
def Tap.ifLive (t : Tap) (a : Answer) : Option Answer := if t.live then some a else none

/-- The answer of a tap handed to the GPC of its port, where there is one. -/
def State.answerTap (t : Tap) (a : Option Answer) (s : State) : State :=
  match a with
  | some a => s.handAnswer t.port t.attachment t.tapNumber a
  | none => s

/-! ## Closing a record (R169) -/

/-- The entries a closure creates: the open journey's, then each held tap-out's in held-list order, at L3. -/
def Record.closureWork (r : Record) : List WorkEntry :=
  (r.openJourney.toList.map fun o => nonTapWork .priceIncomplete .l3 r (Journey.incomplete o.half)) ++
    r.held.map fun h => nonTapWork .priceOriginUnknown .l3 r (Journey.originUnknown h.half)

/-- The record a closure writes: no open journey, no held tap-outs, CLOSING, the pending count raised by the entries
created. -/
def Record.closed (r : Record) : Record :=
  { r with
    status := .closing, openJourney := none, held := []
    pendingCount := min Config.pendingMax (r.pendingCount + r.closureWork.length) }

/-- The expiry entries of a record's open journey and held tap-outs cancelled (R94). -/
def State.cancelAll (r : Record) (s : State) : State :=
  r.held.foldl (fun s h => s.cancelHold r h) (if r.openJourney.isSome then s.cancelLimit r else s)

/-- The closure of an ACTIVE old-day record, one update (R169). -/
def State.closeRecord (r : Record) (s : State) : State :=
  let s := s.count .pendingSaturations (min r.closureWork.length ((r.pendingCount + r.closureWork.length) - Config.pendingMax))
  let s := s.writeRecord r.closed
  let s := s.cancelAll r
  let s := s.joinAll r.closureWork
  let s := State.bump .closures { s with roll := { s.roll with closingCount := s.roll.closingCount + 1 } }
  s.reportIfReady r.closed

/-- Whether the free non-tap slots number at least the entries a closure creates (R105). -/
def State.canClose (s : State) (r : Record) : Bool := decide (r.closureWork.length ≤ s.nonTapFree)

/-! ## Intake checks (R79, R80) -/

/-- Whether the tap is of the old day of a roll. -/
def State.isOldDay (s : State) (t : Tap) : Bool :=
  s.roll.state == .rolling && s.roll.oldDay == some t.hubDay && t.hubDay != s.clock.day

/-- Check 3: the hub day is the current service day or, while ROLLING, the old day. -/
def State.dayAdmitted (s : State) (t : Tap) : Bool :=
  t.hubDay == s.clock.day || (s.roll.state == .rolling && s.roll.oldDay == some t.hubDay)

/-- Check 4: the station is enabled in the active bank and served by the port the tap was taken from. -/
def State.stationAdmitted (s : State) (t : Tap) : Bool :=
  match s.tables.active.station t.station with
  | some r => r.servingPort == t.port.val
  | none => false

/-- Check 5, for an old-day tap (R80): its record is ACTIVE, or there is none and its home bucket is not yet visited. -/
def State.oldDayAdmitted (s : State) (t : Tap) : Bool :=
  match s.jt.lookup t.card t.hubDay with
  | some r => r.status == .active
  | none => decide (s.roll.pos ≤ homeIndex t.card)

/-- Checks 1 to 5: the reason of the first that fails, if any (R79). -/
def State.intakeCheck (s : State) (t : Tap) : Option NoticeReason :=
  if t.card = 0 then some .malformed
  else if s.roll.state = .notReady then some .notReady
  else if !s.dayAdmitted t then some .wrongDay
  else if !s.stationAdmitted t then some .stationMismatch
  else if s.isOldDay t && !s.oldDayAdmitted t then some .lateDay
  else none

/-- The ACTIVE old-day record that a new-day tap touches first, if there is one (R80). -/
def State.touched (s : State) (t : Tap) : Option Record :=
  if s.roll.state = .rolling ∧ t.hubDay = s.clock.day then
    match s.roll.oldDay with
    | some d =>
      match s.jt.lookup t.card d with
      | some r => if r.status = .active then some r else none
      | none => none
    | none => none
  else none

/-- Whether a head tap waits for closure slots: it passes checks 1 to 5 and touches a record whose closure finds too few
non-tap slots (R80; computed afresh, DEDUCED, log 18). -/
def State.waitsForClosure (s : State) (t : Tap) : Bool :=
  match s.intakeCheck t, s.touched t with
  | none, some r => !s.canClose r
  | _, _ => false

/-! ## The sources (R77) -/

/-- The sources in cyclic order from one of them. -/
def PuSource.cycle : PuSource → List PuSource
  | .intake => [.intake, .expiry, .sweep]
  | .expiry => [.expiry, .sweep, .intake]
  | .sweep => [.sweep, .intake, .expiry]

/-- The source after one. -/
def PuSource.after : PuSource → PuSource
  | .intake => .expiry
  | .expiry => .sweep
  | .sweep => .intake

/-- The ports in ascending order from one of them, wrapping from 7 to 0. -/
def portsFrom (p : PortId) : List PortId := [p, p + 1, p + 2, p + 3, p + 4, p + 5, p + 6, p + 7]

/-- Whether a port's intake list has a takeable head. -/
def State.intakeTakeable (s : State) (p : PortId) : Bool :=
  match (s.port p).intake with
  | t :: _ => !s.waitsForClosure t
  | [] => false

/-- The port INTAKE serves next. -/
def State.intakePort (s : State) : Option PortId := (portsFrom s.pu.port).find? s.intakeTakeable

/-- Whether a source has a takeable item. -/
def State.takeable (s : State) : PuSource → Bool
  | .intake => s.intakePort.isSome
  | .expiry => s.expiry.any ExpiryEntry.due && decide (0 < s.nonTapFree)
  | .sweep => !s.roll.visit.isEmpty && !s.roll.paused

/-- The source the Pairing Unit takes from next, with no item in progress. -/
def State.nextSource (s : State) : Option PuSource :=
  if s.pu.item.isSome then none else s.pu.source.cycle.find? s.takeable

/-- The source pointer moved past the source taken from. -/
def State.tookFrom (v : PuSource) (s : State) : State := { s with pu := { s.pu with source := v.after } }

/-! ## Notices (R81) -/

/-- The TAP_NOTICE of a tap, made at the present line time. -/
def State.noticeOf (s : State) (t : Tap) (r : NoticeReason) : TapNoticeFrame :=
  ⟨r, t.port, t.tapNumber, t.live, t.direction, t.card, t.station, t.product, t.hubSeq, t.hubDay, t.time, t.unsettled,
    s.clock.time⟩

/-- A tap that ends in a notice: counted, answered where live, and the notice placed and the tap ended, or held by the Pairing
Unit until the bulk queue has a place (R76, R79, R81). -/
def State.noticeTap (t : Tap) (r : NoticeReason) (a : Answer) (s : State) : State :=
  let n := s.noticeOf t r
  let s := s.bump (.tapNotices r)
  let s := s.answerTap t (t.ifLive a)
  if s.lli.bulkHasPlace then (s.pushBulk (.tapNotice n)).endTap t.port t.attachment
  else { s with pu := { s.pu with item := some (.notice n t.attachment) } }

/-- TAP_NOTICE: a waiting notice takes a bulk place, the tap ends, and with it the step (R81). -/
def execTapNotice (s : State) : Host.Outcome State Fault Refusal :=
  match s.pu.item with
  | some (.notice n att) =>
    if s.lli.bulkHasPlace then
      .next (State.endTap n.port att (State.pushBulk (.tapNotice n) { s with pu := { s.pu with item := none } }))
    else .next s
  | _ => .next s

/-! ## Pairing a tap-in (R86 to R89) -/

/-- The first held tap-out at or after a time, in list order (R86). -/
def Record.heldAfter (r : Record) (t : Nat) : Option HeldTap := r.held.find? fun h => decide (t ≤ h.time)

/-- A held tap-out removed; those after it close up (R66). It is that very tap-out, also where another of its port and hub
sequence is held (DESIGN CHOICE, log 41). -/
def Record.dropHeld (h : HeldTap) (r : Record) : Record := { r with held := r.held.erase h }

/-- A JOURNEY_LIMIT entry for the open journey of a record (R94). -/
def State.enterLimit (r : Record) (s : State) : State :=
  s.enterExpiry r.card r.day .journeyLimit (s.bankFor r.day).line.journeyLimit

/-- A HOLD entry for a tap-out held in a record (R94). -/
def State.enterHold (r : Record) (t : Tap) (s : State) : State :=
  s.enterExpiry r.card r.day (.hold t.port t.hubSeq) (s.bankFor r.day).line.holdWindow

/-- Case 1: paired with a held tap-out (R86). -/
def State.pairWithHeld (r : Record) (t : Tap) (h : HeldTap) (s : State) : State :=
  let s := s.writeRecordWithWork (r.dropHeld h)
  let s := s.cancelHold r h
  s.createTapWork (tapWork .priceJourney .l1 r (Journey.whole t.half h.half) (t.waiting false)) (t.ifLive (.go none))

/-- Case 2: the open journey closed as incomplete and replaced (R87). -/
def State.replaceOpen (r : Record) (t : Tap) (o : OpenJourney) (s : State) : State :=
  let s := s.writeRecordWithWork { r with openJourney := some t.toOpen }
  let s := (s.cancelLimit r).enterLimit r
  s.createTapWork (tapWork .priceIncomplete .l1 r (Journey.incomplete o.half) (t.waiting false)) (t.ifLive (.go none))

/-- Case 3: the older tap-in itself closed as incomplete (R88). -/
def State.closeOlder (r : Record) (t : Tap) (s : State) : State :=
  (s.writeRecordWithWork r).createTapWork
    (tapWork .priceIncomplete .l1 r (Journey.incomplete t.half) (t.waiting false)) (t.ifLive (.go none))

/-- Case 4: the tap-in becomes the open journey, and the tap ends (R89). -/
def State.openWith (r : Record) (t : Tap) (s : State) : State :=
  let s := s.writeRecord { r with openJourney := some t.toOpen }
  ((s.enterLimit r).answerTap t (t.ifLive (.go none))).endTap t.port t.attachment

/-- A tap-in's pairing case, the first that applies (section 5.5). -/
def State.pairTapIn (r : Record) (t : Tap) (s : State) : State :=
  match r.heldAfter t.time with
  | some h => s.pairWithHeld r t h
  | none =>
    match r.openJourney with
    | some o => if o.time ≤ t.time then s.replaceOpen r t o else s.closeOlder r t
    | none => s.openWith r t

/-! ## Pairing a tap-out (R90 to R92) -/

/-- A held entry placed after every entry with an equal or earlier out time (R66). -/
def Record.hold (h : HeldTap) (r : Record) : Record :=
  { r with held := insertBefore (fun x => decide (h.time < x.time)) h r.held }

/-- Case 1: paired with the open journey; a live tap-out's work at L0 waits with its gate (R90). -/
def State.pairWithOpen (r : Record) (t : Tap) (o : OpenJourney) (s : State) : State :=
  let s := s.writeRecordWithWork { r with openJourney := none }
  let s := s.cancelLimit r
  s.createTapWork
    (tapWork .priceJourney (if t.live then .l0 else .l1) r (Journey.whole o.half t.half) (t.waiting t.live)) none

/-- Case 2: held, and the tap ends (R91). -/
def State.holdTap (r : Record) (t : Tap) (s : State) : State :=
  let s := s.writeRecord (r.hold (t.toHeld s.clock.time))
  ((s.enterHold r t).answerTap t (t.ifLive .goProvisional)).endTap t.port t.attachment

/-- Case 3: the head of a full held list displaced, and the tap-out held (R92). -/
def State.displaceAndHold (r : Record) (t : Tap) (h : HeldTap) (rest : List HeldTap) (s : State) : State :=
  let s := s.writeRecordWithWork (Record.hold (t.toHeld s.clock.time) { r with held := rest })
  let s := ((s.cancelHold r h).enterHold r t).bump .displacements
  s.createTapWork (tapWork .priceOriginUnknown .l1 r (Journey.originUnknown h.half) (t.waiting false))
    (t.ifLive .goProvisional)

/-- A tap-out without a pairable open journey: held, with a displacement where three are held already (R91, R92). -/
def State.holdOrDisplace (r : Record) (t : Tap) (s : State) : State :=
  match r.held with
  | h :: rest => if r.held.length < 3 then s.holdTap r t else s.displaceAndHold r t h rest
  | [] => s.holdTap r t

/-- A tap-out's pairing case, the first that applies (section 5.6). -/
def State.pairTapOut (r : Record) (t : Tap) (s : State) : State :=
  match r.openJourney with
  | some o => if o.time ≤ t.time then s.pairWithOpen r t o else s.holdOrDisplace r t
  | none => s.holdOrDisplace r t

/-! ## A tap's step (R78) -/

/-- The recent-tap pair of a tap (R67). -/
def Tap.pair (t : Tap) : PortId × BitVec 32 := (t.port, t.hubSeq)

/-- A pair appended to the recent taps, the oldest removed where eight were held (R67, R82). -/
def Record.remember (q : PortId × BitVec 32) (r : Record) : Record :=
  { r with recent := (if 8 ≤ r.recent.length then r.recent.tail else r.recent) ++ [q] }

/-- A duplicate dropped: counted, answered where live, ended (R82). -/
def State.dropDuplicate (t : Tap) (s : State) : State :=
  ((s.bump .duplicates).answerTap t (t.ifLive .goProvisional)).endTap t.port t.attachment

/-- Whether a tap is a tap-in on a product that is INVALID in the bank that prices its day (R83). -/
def State.productInvalid (s : State) (t : Tap) : Bool :=
  t.direction == .tapIn && ((s.bankFor t.hubDay).product t.product).isInvalid

/-- The duplicate check, the product check and the pairing case, in the record the find-or-insert returned (R78). -/
def State.tapInRecord (t : Tap) (r : Record) (s : State) : State :=
  if t.pair ∈ r.recent then s.dropDuplicate t
  else
    let r := r.remember t.pair
    if s.productInvalid t then (s.writeRecord r).noticeTap t .productInvalid .refuseProductInvalid
    else match t.direction with
      | .tapIn => s.pairTapIn r t
      | .tapOut => s.pairTapOut r t

/-- Check 6, the find-or-insert, and what follows it (R60, R61, R79). -/
def State.findAndPair (t : Tap) (s : State) : State :=
  match s.jt.findOrInsert t.card t.hubDay with
  | .found r => s.tapInRecord t r
  | .inserted jt r => State.tapInRecord t r { s with jt := jt }
  | .chainLimit => (s.bump .chainLimitRefusals).noticeTap t .tableFull .goProvisional
  | .poolEmpty => (s.bump .poolEmptyRefusals).noticeTap t .tableFull .goProvisional

/-- A tap taken by the Pairing Unit: its intake checks, its touch-first closure, and its pairing (R78 to R80). -/
def State.stepTap (t : Tap) (s : State) : State :=
  match s.intakeCheck t with
  | some r => s.noticeTap t r .goProvisional
  | none =>
    match s.touched t with
    | some r => (s.closeRecord r).findAndPair t
    | none => s.findAndPair t

/-- The head tap of a port taken, with the source and port pointers moved (R77). -/
def State.takeHead (p : PortId) (s : State) : Option (Tap × State) :=
  match (s.port p).intake with
  | t :: rest =>
    let s := (s.modPort p fun q => { q with intake := rest }).tookFrom .intake
    some (t, { s with pu := { s.pu with port := p + 1 } })
  | [] => none

/-- TAP_STEP (R78). -/
def execTapStep (s : State) : Host.Outcome State Fault Refusal :=
  match s.nextSource, s.intakePort with
  | some .intake, some p =>
    match s.takeHead p with
    | some (t, s) => .next (s.stepTap t)
    | none => .next s
  | _, _ => .next s

/-! ## Due expiry entries (R96 to R98) -/

/-- The step of a JOURNEY_LIMIT entry in its record (R97). -/
def State.expireOpen (r : Record) (o : OpenJourney) (s : State) : State :=
  let s := s.writeRecordWithWork { r with openJourney := none }
  (s.joinPool (nonTapWork .priceIncomplete .l2 r (Journey.incomplete o.half))).bump .journeyLimitExpiries

/-- The step of a HOLD entry in its record (R98). -/
def State.expireHeld (r : Record) (h : HeldTap) (s : State) : State :=
  let s := s.writeRecordWithWork (r.dropHeld h)
  (s.joinPool (nonTapWork .priceOriginUnknown .l2 r (Journey.originUnknown h.half))).bump .holdExpiries

/-- The held tap-out a HOLD entry names, by port and hub sequence (R93): the first in list order where two have one name (DESIGN
CHOICE, log 41). -/
def Record.heldOf (r : Record) (p : PortId) (q : BitVec 32) : Option HeldTap :=
  r.held.find? fun h => h.port == p && h.hubSeq == q

/-- The step of a due entry that has left the queue (R96). Its record and the part it names are always there; where they are
not, the entry has only left (DEDUCED, log 30). -/
def State.expire (e : ExpiryEntry) (s : State) : State :=
  match s.jt.lookup e.card e.day with
  | none => s
  | some r =>
    match e.kind with
    | .journeyLimit => match r.openJourney with | some o => s.expireOpen r o | none => s
    | .hold p q => match r.heldOf p q with | some h => s.expireHeld r h | none => s

/-- EXPIRY_STEP: the first entry in queue order whose due mark is set (R95, R96). -/
def execExpiryStep (s : State) : Host.Outcome State Fault Refusal :=
  match s.nextSource, s.expiry.find? ExpiryEntry.due with
  | some .expiry, some e =>
    let s := { s.tookFrom .expiry with expiry := s.expiry.eraseP ExpiryEntry.due }
    .next (s.expire e)
  | _, _ => .next s

end Sys2Proof.Machine
end

