-- ==== Sys2Proof/Machine/Roll.lean ====
section
/-! DEFINITION. The Roll Sweep: ROLL_DAY, chain visits, sweep items, day summaries, the end of a roll (R163 to R175). -/

namespace Sys2Proof.Machine

/-! ## ROLL_DONE (R174) -/

/-- A ROLL_DONE notice made: it takes the place of one still owed; otherwise it is placed, or owed where the urgent queue has
no place (R174, DESIGN CHOICE, log 16). -/
def State.makeRollDone (swap : Bool) (s : State) : State :=
  let d : RollDone := ⟨s.clock.day, s.tables.activeGen, swap, s.clock.time⟩
  if s.roll.owedDone.isNone && s.lli.urgentHasPlace then s.pushUrgent (.rollDone d)
  else { s with roll := { s.roll with owedDone := some d } }

/-- OWED_ROLL_DONE: an owed ROLL_DONE takes a free urgent place (R174). -/
def execOwedRollDone (s : State) : Host.Outcome State Fault Refusal :=
  match s.roll.owedDone with
  | some d =>
    if s.lli.urgentHasPlace then
      .next (State.pushUrgent (.rollDone d) { s with roll := { s.roll with owedDone := none } })
    else .next s
  | none => .next s

/-! ## ROLL_DAY (R164 to R166) -/

/-- How a ROLL_DAY is decided. -/
inductive RollDecision where
  | refused (st : Status)
  | immediate
  | accepted
  deriving DecidableEq, Repr

/-- The table of R164. -/
def rollDecision (s : State) (day : Day) (start : Nat) : RollDecision :=
  if s.roll.state = .rolling then .refused .busy
  else if Config.lineTimeMax < start then .refused .badArgument
  else if s.roll.state = .notReady then (if s.tables.armed then .immediate else .refused .badState)
  else if day ≠ s.clock.day + 1 then .refused .badArgument
  else .accepted

/-- The service day set to a named day, and line time to the start time as by a SET_TIME (R48). -/
def State.startDay (day : Day) (start : Nat) (s : State) : State :=
  State.setLineTime start { s with clock := { s.clock with day := day } }

/-- Steps 1 to 3 of the immediate roll, with its counter (R165). -/
def State.immediateRoll (day : Day) (start : Nat) (s : State) : State :=
  let s := { s with tables := s.tables.swapRoles }
  let s := s.startDay day start
  State.bump .rollsCompleted { s with roll := { s.roll with state := .ready } }

/-- The roll accepted from READY (R166). -/
def State.acceptRoll (day : Day) (start : Nat) (s : State) : State :=
  let s := { s with roll :=
    { s.roll with
      state := .rolling, oldDay := some s.clock.day, pos := 0, visit := [], paused := false, closingCount := 0 } }
  s.startDay day start

/-- A ROLL_DAY taken from the receive list (R164). -/
def rollDayTaken (f : DownFrame) (s : State) : State :=
  let day : Day := BitVec.ofNat 16 (fieldAt f.args 0 2)
  let start := fieldAt f.args 2 4
  match rollDecision s day start with
  | .refused st => s.reply f st
  | .immediate => ((s.immediateRoll day start).reply f .done).makeRollDone true
  | .accepted => (s.acceptRoll day start).reply f .done

/-- ROLL_DAY. -/
def execRollDay (s : State) : Host.Outcome State Fault Refusal :=
  match s.takeCommand .rollDay with
  | some (f, s) => .next (rollDayTaken f s)
  | none => .next s

/-! ## The end of a roll (R172, R173) -/

/-- The number of chain visits in a roll: the sweep position after the last. -/
abbrev sweepEnd : Nat := 65536

/-- Whether the roll is complete (R172). -/
def State.rollFinished (s : State) : Bool :=
  s.roll.state == .rolling && s.roll.pos == sweepEnd && s.roll.visit.isEmpty && s.roll.closingCount == 0

/-- The end of a roll: the armed bank takes the active role, if there is one; READY; ROLL_DONE (R173). -/
def State.endRoll (s : State) : State :=
  let swap := s.tables.armed
  let s := if swap then { s with tables := s.tables.swapRoles } else s
  let s := { s with roll := { s.roll with state := .ready, oldDay := none } }
  (s.makeRollDone swap).bump .rollsCompleted

/-- The condition of R172 examined. -/
def State.checkRoll (s : State) : State := if s.rollFinished then s.endRoll else s

/-! ## The sweep (R167, R168) -/

/-- The old-day cards of a chain, in chain order (R74, R167). -/
def State.oldDayCards (s : State) (h : Nat) : List Card :=
  ((s.jt.records h).filter fun r => s.roll.oldDay == some r.day).map Record.card

/-- CHAIN_VISIT (R167): while ROLLING with the visit in hand empty, the visit of the home bucket at the sweep position. -/
def execChainVisit (s : State) : Host.Outcome State Fault Refusal :=
  if s.roll.state = .rolling ∧ s.roll.visit = [] ∧ s.roll.pos < sweepEnd then
    let s := { s with roll := { s.roll with visit := s.oldDayCards s.roll.pos, pos := s.roll.pos + 1, paused := false } }
    .next s.checkRoll
  else .next s

/-- The card at the head of the visit in hand leaves it, and the end of the roll is examined (R168, R172). -/
def State.leaveVisit (rest : List Card) (s : State) : State :=
  State.checkRoll { s with roll := { s.roll with visit := rest } }

/-- The old-day record of a card, if the table holds it. -/
def State.oldRecord (s : State) (c : Card) : Option Record := s.roll.oldDay.bind fun d => s.jt.lookup c d

/-- The step of a sweep item, by what its update finds (R168). -/
def State.sweepCard (c : Card) (rest : List Card) (s : State) : State :=
  match s.oldRecord c with
  | some r =>
    if r.status = .active then
      if s.canClose r then (s.closeRecord r).leaveVisit rest
      else { s with roll := { s.roll with paused := true } }
    else s.leaveVisit rest
  | none => s.leaveVisit rest

/-- SWEEP_ITEM (R168). -/
def execSweepItem (s : State) : Host.Outcome State Fault Refusal :=
  match s.nextSource, s.roll.visit with
  | some .sweep, c :: rest => .next ((s.tookFrom .sweep).sweepCard c rest)
  | _, _ => .next s

/-! ## Summaries (R170, R171) -/

/-- The DAY_SUMMARY of a record, as the state stands at its making (R171). -/
def State.summaryOf (s : State) (r : Record) : SummaryFrame :=
  ⟨r.card, r.day, r.dayTotal, r.journeys, r.accrued, s.tables.activeGen, s.clock.time⟩

/-- A record summarised and removed: the frame into the place given, the record out of the table (R62, R170). -/
def State.summarise (r : Record) (s : State) : State :=
  let s := s.pushBulk (.daySummary (s.summaryOf r))
  let s := { s with
    jt := s.jt.remove r.card r.day
    roll := { s.roll with closingCount := s.roll.closingCount - 1 } }
  (s.bump .daySummaries).checkRoll

/-- DAY_SUMMARY (R170): the head of the summary list, given a bulk place. A record that is gone, or whose pending count is
above 0, only leaves the list. -/
def execDaySummary (s : State) : Host.Outcome State Fault Refusal :=
  match s.roll.summary with
  | (c, d) :: rest =>
    if s.lli.bulkHasPlace then
      let t := { s with roll := { s.roll with summary := rest } }
      match s.jt.lookup c d with
      | some r => if r.status = .closing ∧ r.pendingCount = 0 then .next (t.summarise r) else .next t
      | none => .next t
    else .next s
  | [] => .next s

end Sys2Proof.Machine
end

