-- ==== Sys2Proof/Machine/Dispatch.lean ====
section
/-! DEFINITION. The meaning of each command, one arm each. -/

namespace Sys2Proof.Machine

/-- The effect of a command on everything but the queue of waiting commands. -/
def exec (i : Instr) (s : State) : Host.Outcome State Fault Refusal :=
  match i with
  | .powerOnReset => Sys2Proof.Machine.execPowerOnReset s
  | .gateCarrierLoss p => Sys2Proof.Machine.execGateCarrierLoss p s
  | .gateCarrierReturn p => Sys2Proof.Machine.execGateCarrierReturn p s
  | .tap p frame => Sys2Proof.Machine.execTap p frame s
  | .beacon p hubTime hubDay => Sys2Proof.Machine.execBeacon p hubTime hubDay s
  | .hubState p alarm code => Sys2Proof.Machine.execHubState p alarm code s
  | .attachAck p positive echo firstTap => Sys2Proof.Machine.execAttachAck p positive echo firstTap s
  | .badFrame p => Sys2Proof.Machine.execBadFrame p s
  | .gateFrameSent p => Sys2Proof.Machine.execGateFrameSent p s
  | .attachTimeout p => Sys2Proof.Machine.execAttachTimeout p s
  | .beaconTimeout p => Sys2Proof.Machine.execBeaconTimeout p s
  | .lineTimeAdvance => Sys2Proof.Machine.execLineTimeAdvance s
  | .expiryDue => Sys2Proof.Machine.execExpiryDue s
  | .referralDue slot => Sys2Proof.Machine.execReferralDue slot s
  | .lineFrameReceived bytes => Sys2Proof.Machine.execLineFrameReceived bytes s
  | .lineCarrierLoss => Sys2Proof.Machine.execLineCarrierLoss s
  | .lineCarrierReturn => Sys2Proof.Machine.execLineCarrierReturn s
  | .upstreamFrameSent => Sys2Proof.Machine.execUpstreamFrameSent s
  | .load => Sys2Proof.Machine.execLoad s
  | .referralAnswer => Sys2Proof.Machine.execReferralAnswer s
  | .view => Sys2Proof.Machine.execView s
  | .portAttach => Sys2Proof.Machine.execPortAttach s
  | .portDetach => Sys2Proof.Machine.execPortDetach s
  | .setPortOptions => Sys2Proof.Machine.execSetPortOptions s
  | .clearAttention => Sys2Proof.Machine.execClearAttention s
  | .setTime => Sys2Proof.Machine.execSetTime s
  | .rollDay => Sys2Proof.Machine.execRollDay s
  | .arm => Sys2Proof.Machine.execArm s
  | .disarm => Sys2Proof.Machine.execDisarm s
  | .copyActive => Sys2Proof.Machine.execCopyActive s
  | .copyRow => Sys2Proof.Machine.execCopyRow s
  | .copyComplete => Sys2Proof.Machine.execCopyComplete s
  | .setDisposition => Sys2Proof.Machine.execSetDisposition s
  | .captureCounters => Sys2Proof.Machine.execCaptureCounters s
  | .engineReset => Sys2Proof.Machine.execEngineReset s
  | .unknownCommand => Sys2Proof.Machine.execUnknownCommand s
  | .tapStep => Sys2Proof.Machine.execTapStep s
  | .tapNotice => Sys2Proof.Machine.execTapNotice s
  | .expiryStep => Sys2Proof.Machine.execExpiryStep s
  | .chainVisit => Sys2Proof.Machine.execChainVisit s
  | .sweepItem => Sys2Proof.Machine.execSweepItem s
  | .slotWaitResume => Sys2Proof.Machine.execSlotWaitResume s
  | .grant => Sys2Proof.Machine.execGrant s
  | .stallResume => Sys2Proof.Machine.execStallResume s
  | .referralWork => Sys2Proof.Machine.execReferralWork s
  | .daySummary => Sys2Proof.Machine.execDaySummary s
  | .owedPortNotice => Sys2Proof.Machine.execOwedPortNotice s
  | .owedDayOverrun => Sys2Proof.Machine.execOwedDayOverrun s
  | .owedRollDone => Sys2Proof.Machine.execOwedRollDone s

end Sys2Proof.Machine
end

