-- ==== Sys2Proof/Safety.lean ====
section
/-! DEFINITION. The terms claims are stated in: the bounds the spec states of the whole machine, which parts of the state a
command leaves alone, and the taking of a frame with its REPLY. -/

namespace Sys2Proof.Machine

/-! ## Parts of the state -/

/-- The parts of the state. -/
inductive Part where
  | ports | clock | tables | jt | pu | expiry | pool | fu | rt | roll | lli | counters | pending
  deriving DecidableEq, Repr

/-- Whether two states agree on a part. -/
def Part.same (s u : State) : Part → Prop
  | .ports => u.ports = s.ports
  | .clock => u.clock = s.clock
  | .tables => u.tables = s.tables
  | .jt => u.jt = s.jt
  | .pu => u.pu = s.pu
  | .expiry => u.expiry = s.expiry
  | .pool => u.pool = s.pool
  | .fu => u.fu = s.fu
  | .rt => u.rt = s.rt
  | .roll => u.roll = s.roll
  | .lli => u.lli = s.lli
  | .counters => u.counters = s.counters
  | .pending => u.pending = s.pending

/-- Nothing differs outside these parts. -/
def State.AgreeOutside (changed : List Part) (s u : State) : Prop := ∀ q : Part, q ∉ changed → q.same s u

/-- Every port but one is as it was. -/
def State.OtherPortsKept (p : PortId) (s u : State) : Prop := ∀ r : PortId, r ≠ p → u.port r = s.port r

/-- Whether a carrier loss releases a port (R24, R25): ATTACHED with auto-detach on, or DETACHING. -/
def Port.releasedByLoss (q : Port) : Bool := (q.st == .attached && q.autoDetach) || q.st == .detaching

/-! ## Bounds of the whole machine -/

/-- Line time stays within 0 to 129,599 (R44). -/
def State.TimeInRange (s : State) : Prop := s.clock.time ≤ Config.lineTimeMax

/-- The bounds of the receive list and, with the places held, of the two upstream queues (R177), and no place held for a REPLY
between steps (R179). -/
def State.QueuesInBounds (s : State) : Prop :=
  s.lli.replyHeld = false ∧ s.lli.receive.length ≤ Config.receivePlaces ∧ s.lli.urgentUsed ≤ Config.urgentPlaces ∧
    s.lli.bulk.length ≤ Config.bulkPlaces

/-- Every device counter is a 32-bit count (R189). -/
def State.CountersInRange (s : State) : Prop := ∀ i : Fin 117, s.counters[i] ≤ Config.counterMax

/-- The journey table's buckets stand in their canonical form. -/
def State.TableCanonical (s : State) : Prop := s.jt.wf = true

/-- A port's credits: the taps taken and not ended, and those its window still admits, number at most its credit limit; a port
neither ATTACHED nor DETACHING has none outstanding (R23, R33). -/
def Port.CreditLaw (q : Port) : Prop :=
  q.creditLimit ≤ 64 ∧ (if q.inReservation then q.outstanding + q.window ≤ q.creditLimit else q.outstanding = 0)

/-- The credits of every port. -/
def State.CreditLaw (s : State) : Prop := ∀ p : PortId, (s.port p).CreditLaw

/-- The ranges of a card-day record's fields, and the order of its held tap-outs (R64, R66, R67, R70). -/
def Record.InRange (r : Record) : Prop :=
  r.dayTotal ≤ Config.dayTotalMax ∧ r.journeys ≤ 255 ∧ r.held.length ≤ 3 ∧
    r.held.Pairwise (fun a b => a.time ≤ b.time) ∧ r.recent.length ≤ 8 ∧ r.pendingCount ≤ Config.pendingMax

/-- Every record a list of buckets holds satisfies a predicate. -/
def BucketsSatisfy (P : Record → Prop) (l : List (Nat × Bucket)) : Prop :=
  ∀ e ∈ l, ∀ i : Fin 4, ∀ r, e.2.slots[i] = some r → P r

/-- Every record of the journey table is in range. -/
def State.RecordsInRange (s : State) : Prop :=
  BucketsSatisfy Record.InRange s.jt.home ∧ BucketsSatisfy Record.InRange s.jt.exts

/-! ## Laws of the journey table, its expiry entries and the Work Pool -/

/-- Every record the journey table's buckets hold. -/
def JourneyTable.all (jt : JourneyTable) : List Record :=
  (jt.home ++ jt.exts).flatMap fun e => e.2.slots.toList.filterMap id

/-- Every extension number that a bucket's extension pointer names. -/
def JourneyTable.linked (jt : JourneyTable) : List Nat := (jt.home ++ jt.exts).filterMap fun e => e.2.ext

/-- The structure of the journey table: free and linked extension buckets are the 16,384, each once (R57, R58); a free one is as
reset leaves it (R58), a linked one holds a record (R57); no chain goes on behind its third extension bucket (R57); every record is
the one that a lookup of its card and day finds, no two are of one card and day (R59, R60), and the records-in-use count is their
number (R55). -/
structure JourneyTable.Sound (jt : JourneyTable) : Prop where
  extensions : (jt.pool ++ jt.linked).Perm (List.range 16384)
  free : ∀ n ∈ jt.pool, jt.bucket (.ext n) = Bucket.empty
  used : ∀ n ∈ jt.linked, 0 < (jt.bucket (.ext n)).used
  short : ∀ h : Nat, (jt.bucket (jt.lastBucket h)).ext = none
  found : ∀ r ∈ jt.all, jt.lookup r.card r.day = some r
  once : (jt.all.map fun r => (r.card, r.day)).Nodup
  counted : jt.inUse = jt.all.length

/-- CLOSING records: bare of an open journey and of held tap-outs (R69), of the old day of the roll in progress, and as many as
the closing-record count says (R163, R172); the day of a roll follows its old day, and outside a roll there is no old day (R163,
R164, R166, R172). -/
structure State.ClosingLaw (s : State) : Prop where
  bare : ∀ r ∈ s.jt.all, r.status = .closing → r.openJourney = none ∧ r.held = []
  oldDay : ∀ r ∈ s.jt.all, r.status = .closing → s.roll.state = .rolling ∧ s.roll.oldDay = some r.day
  counted : s.roll.closingCount = (s.jt.all.filter fun r => r.status == .closing).length
  days : s.roll.state = .rolling → ∃ d : Day, s.roll.oldDay = some d ∧ s.clock.day = d + 1
  ended : s.roll.state ≠ .rolling → s.roll.oldDay = none

/-- The names of the expiry entries that a record's open journey and held tap-outs have (R93). -/
def Record.expiryNames (r : Record) : List (Card × Day × ExpiryKind) :=
  (r.openJourney.toList.map fun _ => (r.card, r.day, ExpiryKind.journeyLimit)) ++
    r.held.map fun h => (r.card, r.day, ExpiryKind.hold h.port h.hubSeq)

/-- The expiry queue holds one entry for each open journey and each held tap-out, and no other (R93). -/
def State.ExpiryLaw (s : State) : Prop :=
  (s.expiry.map fun e => (e.card, e.day, e.kind)).Perm (s.jt.all.flatMap Record.expiryNames)

/-- The work entries that use a slot: those of the four lists and the one in flight (R103). -/
def State.workInUse (s : State) : List WorkEntry :=
  s.pool.l0 ++ s.pool.l1 ++ s.pool.l2 ++ s.pool.l3 ++ s.fu.entry.toList

/-- How many taps have been taken and have not ended: on an intake list, in the Pairing Unit, waiting with work (R103). -/
def State.tapsInside (s : State) : Nat :=
  (s.ports.toList.map fun q => q.intake.length).sum + (if s.pu.item.isSome then 1 else 0) +
    (s.workInUse.filter fun e => e.waiting.isSome).length

/-- The Work Pool's counts: slots in use never exceed 1,024; each count is the number of its entries, and tap-caused entries are
those with a waiting tap; every tap taken and not ended is counted among the outstanding credits or the released taps (R103). -/
structure State.SlotLaw (s : State) : Prop where
  within : s.pool.tapInUse + s.pool.nonTapInUse ≤ Config.poolSlots
  taps : s.pool.tapInUse = (s.workInUse.filter fun e => e.cls == .tap).length
  nonTaps : s.pool.nonTapInUse = (s.workInUse.filter fun e => e.cls == .nonTap).length
  waiting : ∀ e ∈ s.workInUse, (e.waiting.isSome = true ↔ e.cls = .tap)
  heldWork : ∀ e a, s.pu.item = some (.slotWait e a) → e.waiting.isSome = true ∧ e.cls = .tap
  inside : s.tapsInside ≤ (s.ports.toList.map Port.outstanding).sum + s.pool.releasedTaps

/-! ## The banks and their rows -/

/-- The law of a copy: none runs while the pending bank is armed (R16), and while one runs every row before its position holds the
active bank's values (R16). -/
structure TableStore.CopyLaw (ts : TableStore) : Prop where
  apart : ts.armed = true → ts.copying = false
  within : ∀ pos, ts.copyPos = some pos → pos ≤ copyRows
  copied : ∀ pos n : Nat, ts.copyPos = some pos → n < pos → ∀ (t : TableId) (i : Nat), copyRowAt n = some (t, i) →
    ts.prep.row t i = ts.active.row t i

/-- The values of a field of a row, by the field's number (R4 to R10); the expected list of a PRODUCTS row is its one field 6: count
and positions (R9). No value where the table has no such field. -/
def TableRow.field (r : TableRow) (k : Nat) : List Nat :=
  let all : List (List Nat) := match r with
    | .line r => [[r.bandCount], [r.timeBandCount], [r.ceiling], [r.rounding], [r.junction1], [r.junction2], [r.journeyLimit],
        [r.holdWindow], [r.referralTimeout], [r.generation]]
    | .station r => [[r.enabled], [r.branch], [r.chainage], [r.servingPort], [r.farUnits]]
    | .band r => [[r.upper], [r.base], [r.rate]]
    | .timeband r => [[r.start], [r.factor]]
    | .product r => [[r.kind], [r.flat], [r.minUnits], [r.defaultFactor], [r.cap], [r.policy],
        [r.expectedCount, r.expected0, r.expected1, r.expected2, r.expected3]]
    | .concession r => [[r.factor]]
  all[k]?.getD []

/-! ## Taking a downstream frame (R179, R180) -/

/-- The LLI can take the head of its receive list: `f`, with `rest` behind it, and a free urgent place. -/
structure State.Takes (s : State) (f : DownFrame) (rest : List DownFrame) : Prop where
  head : s.lli.receive = f :: rest
  place : s.lli.urgentHasPlace = true
  between : s.lli.replyHeld = false

/-- A COMMAND frame of this command with these arguments, of the command's argument length (R193). -/
structure DownFrame.IsCommand (f : DownFrame) (c : CommandCode) (args : List Byte) : Prop where
  kind : f.kind = .command
  body : f.body = c.code :: args
  length : args.length = c.argLength

/-- The state while a frame is being taken: it is out of the receive list, and a place is held for its REPLY (R179). -/
def State.taking (rest : List DownFrame) (s : State) : State :=
  { s with lli := { s.lli with receive := rest, replyHeld := true } }

/-- The head frame out of the receive list and its REPLY at the tail of the urgent queue, where a free transmitter takes it up
(R179, R180, R182). -/
def State.answeredFull (f : DownFrame) (rest : List DownFrame) (st : Status) (failing : Option (TableId × Nat))
    (contents : Option ViewContents) (s : State) : State :=
  { s with lli := LineLink.startSending { s.lli with
      receive := rest
      urgent := s.lli.urgent ++ [.reply f.request f.requestKind st failing contents] } }

/-- The same, for a REPLY that carries a status alone. -/
def State.answered (f : DownFrame) (rest : List DownFrame) (st : Status) (s : State) : State :=
  s.answeredFull f rest st none none

/-! ## A tap the Pairing Unit can take (R77 to R80) -/

/-- The Pairing Unit takes the tap `t` at the head of port `p`, which passes checks 1 to 5 and touches no old-day record first;
its find-or-insert gives the record `r` in the table `jt`, and the tap is not a duplicate there. -/
structure State.TapPairs (s : State) (p : PortId) (t : Tap) (rest : List Tap) (jt : JourneyTable) (r : Record) : Prop where
  source : s.nextSource = some .intake
  port : s.intakePort = some p
  head : (s.port p).intake = t :: rest
  own : t.port = p
  checks : s.intakeCheck t = none
  untouched : s.touched t = none
  record : (s.jt.findOrInsert t.card t.hubDay = .found r ∧ jt = s.jt) ∨ s.jt.findOrInsert t.card t.hubDay = .inserted jt r
  fresh : t.pair ∉ r.recent

/-- The state with the head tap of a port taken: out of its intake list, the source pointer past INTAKE, the port pointer past
the port (R77). -/
def State.tapTaken (p : PortId) (rest : List Tap) (s : State) : State :=
  { s.setPort p { s.port p with intake := rest } with pu := { s.pu with source := .expiry, port := p + 1 } }

/-- What a tap ends in when its TAP_NOTICE finds a bulk place: counted, a live gate answered, the frame placed, the tap ended
(R79, R81). -/
def State.noticed (t : Tap) (r : NoticeReason) (a : Answer) (s : State) : State :=
  (((s.bump (.tapNotices r)).answerTap t (if t.live then some a else none)).pushBulk
    (.tapNotice (s.noticeOf t r))).endTap t.port t.attachment

/-- What the same tap ends in with the bulk queue full: counted and answered, its TAP_NOTICE held by the Pairing Unit (R76, R81). -/
def State.noticeHeld (t : Tap) (r : NoticeReason) (a : Answer) (s : State) : State :=
  State.answerTap t (if t.live then some a else none)
    { s.bump (.tapNotices r) with pu := { s.pu with item := some (.notice (s.noticeOf t r) t.attachment) } }

/-- The state with a record written and work created for it in a free slot, and the expiry queue as given (R70, R84, R94): the
pending count 1 higher, held at 1,027 with a saturation counted. -/
def State.withWork (v : Record) (e : WorkEntry) (queue : List ExpiryEntry) (s : State) : State :=
  let t := if Config.pendingMax ≤ v.pendingCount then s.bump .pendingSaturations else s
  { t with
    jt := s.jt.write { v with pendingCount := min Config.pendingMax (v.pendingCount + 1) }
    expiry := queue
    pool := s.pool.join e }

/-- The same record and queue, with the Pairing Unit holding the entry and its gate answer for want of a slot (R106). -/
def State.withHeldWork (v : Record) (e : WorkEntry) (a : Option Answer) (queue : List ExpiryEntry) (s : State) : State :=
  let t := if Config.pendingMax ≤ v.pendingCount then s.bump .pendingSaturations else s
  State.bump .slotWaits { t with
    jt := s.jt.write { v with pendingCount := min Config.pendingMax (v.pendingCount + 1) }
    expiry := queue
    pu := { s.pu with item := some (.slotWait e a) } }

/-- An expiry queue without the entry of this record and kind (R94): the first of its name, where there are two (DESIGN
CHOICE, log 41). -/
def queueWithout (r : Record) (k : ExpiryKind) (queue : List ExpiryEntry) : List ExpiryEntry :=
  queue.eraseP fun e => decide (e.card = r.card ∧ e.day = r.day ∧ e.kind = k)

/-- An expiry queue with an entry for this record, made at line time `now` for an interval (R94): due at the sum held at
129,599, at once where that is no later than `now`, behind every entry due no later. -/
def queueWith (r : Record) (k : ExpiryKind) (now interval : Nat) (queue : List ExpiryEntry) : List ExpiryEntry :=
  let due := min Config.lineTimeMax (now + interval)
  queue.takeWhile (fun x => decide (x.dueTime ≤ due)) ++
    { dueTime := due, due := decide (due ≤ now), fallenDue := decide (due ≤ now), card := r.card, day := r.day, kind := k } ::
      queue.dropWhile (fun x => decide (x.dueTime ≤ due))

/-! ## Rows that fail validation (R20) -/

/-- The rows that R20 examines and that miss one of its checks, table by table. -/
def Bank.Fails (b : Bank) : TableId → Nat → Prop
  | .line, i => i = 0 ∧ ¬(1 ≤ b.line.bandCount ∧ b.line.bandCount ≤ 16 ∧ 1 ≤ b.line.timeBandCount ∧ b.line.timeBandCount ≤ 8 ∧
      1 ≤ b.line.ceiling ∧ b.line.ceiling ≤ 65535 ∧ b.line.rounding ≤ 3 ∧ b.line.junction1 ≤ 99999 ∧
      b.line.junction2 ≤ 99999 ∧ 60 ≤ b.line.journeyLimit ∧ b.line.journeyLimit ≤ 14400 ∧ 60 ≤ b.line.holdWindow ∧
      b.line.holdWindow ≤ 14400 ∧ 1 ≤ b.line.referralTimeout ∧ b.line.referralTimeout ≤ 600)
  | .stations, i => ∃ r, b.stations[i]? = some r ∧ r.enabled ≠ 0 ∧
      ¬(r.branch ≤ 2 ∧ r.chainage ≤ 99999 ∧ r.servingPort ≤ 7 ∧ r.farUnits ≤ 3000)
  | .bands, i => i < b.line.bandCount ∧ ¬(b.upper i ≤ 3000 ∧ ∀ j, i = j + 1 → b.upper j < b.upper i)
  | .timebands, i => i < b.line.timeBandCount ∧ ¬(b.bandStart i ≤ 129599 ∧ b.bandFactor i ≤ 2000 ∧
      (i = 0 → b.bandStart i = 0) ∧ ∀ j, i = j + 1 → b.bandStart j < b.bandStart i)
  | .products, i => ∃ r, b.products[i]? = some r ∧ ¬(r.kind ≤ 3 ∧ r.flat ≤ 65535 ∧ r.minUnits ≤ 3000 ∧ r.defaultFactor ≤ 2000 ∧
      r.cap ≤ 65535 ∧ r.policy ≤ 1 ∧ r.expectedCount ≤ 4 ∧
      ∀ k ∈ [r.expected0, r.expected1, r.expected2, r.expected3].take r.expectedCount, 1 ≤ k ∧ k ≤ 4)
  | .concessions, i => ∃ r, b.concessions[i]? = some r ∧ ¬(r.factor ≤ 2000)

/-! ## What a pricing leaves (R110, R135, R152, R159) -/

/-- The device counters of `u` are those of `s`, but that each marked one is 1 higher, held at 32 bits (R189). -/
def State.Counted (raised : CounterId → Bool) (s u : State) : Prop :=
  ∀ c : CounterId, u.counters.value c =
    if raised c = true then min Config.counterMax (s.counters.value c + 1) else s.counters.value c

/-- Step 2 of R110: the answer handed to the GPC of a live waiting tap. -/
def State.gateAnswered (e : WorkEntry) (a : Answer) (s : State) : State :=
  match e.waiting with
  | some w => if w.live then s.handAnswer w.port w.attachment w.tapNumber a else s
  | none => s

/-- Whether that answer is discarded and counted on a port (R42). -/
def State.discards (e : WorkEntry) (s : State) (p : PortId) : Bool :=
  match e.waiting with
  | some w => w.live && w.port == p &&
      !((s.port p).st == .attached && (s.port p).carrier && (s.port p).attachment == w.attachment)
  | none => false

/-- The Referral Table with the entry of a completed pricing's ticket freed: FREE, no work mark, no stored answer, no due mark, its
slot at the tail of the free list, everything else as it was (R159). -/
def ReferralTable.ticketFreed (ticket : Option (BitVec 16)) (rt : ReferralTable) : ReferralTable :=
  match ticket with
  | some t =>
    let i := slotOfTicket t
    { entries := rt.entries.set i { rt.entry i with
        state := .free, work := .none, answer := none, due := false, fallenDue := false }
      freeList := if i ∈ rt.freeList then rt.freeList else rt.freeList ++ [i]
      ready := rt.ready }
  | none => rt

/-- Steps 3 to 5 of R110 with a bulk place: the frame placed, the waiting tap ended, the ticket's referral entry freed, the slot
released, the Fare Unit IDLE; the paused sweep is offered again (R168). -/
def State.pricingEnded (e : WorkEntry) (f : UpFrame) (s : State) : State :=
  let t := s.pushBulk f
  let z := match e.waiting with
    | some w => t.endTap w.port w.attachment
    | none => t
  { z with
    fu := .idle
    rt := s.rt.ticketFreed e.ticket
    roll := { z.roll with paused := false }
    pool := match e.cls with
      | .tap => { z.pool with tapInUse := z.pool.tapInUse - 1 }
      | .nonTap => { z.pool with nonTapInUse := z.pool.nonTapInUse - 1 } }

/-- The JOURNEY frame of a pricing made at a line time (R135): halves from the snapshot, stations and reckoning from the stages. -/
def journeyOf (e : WorkEntry) (k : Reckoning) (charged : Nat) (dayTotal : Option Nat) (conds : CondSet) (unavailable : Bool)
    (time : Nat) : JourneyFrame where
  card := e.card
  day := e.day
  kind := e.kind
  source := k.source
  originStation := k.origin
  inTime := e.snap.origin.map Half.time
  inPort := e.snap.origin.map Half.port
  inClock := (e.snap.origin.map Half.clock).getD false
  destStation := e.snap.dest.map Half.station
  outTime := e.snap.dest.map Half.time
  outPort := e.snap.dest.map Half.port
  outClock := (e.snap.dest.map Half.clock).getD false
  product := k.product
  distance := k.distance
  units := k.units
  bandRow := k.result.bandRow
  companions := k.result.companions
  concessionClass := k.result.concessionClass
  concessionFactor := k.result.concessionFactor
  timeFactor := k.result.timeFactor
  fare := some k.fareToCharge
  charged := charged
  dayTotal := dayTotal
  conds := conds
  unavailable := unavailable
  timedOut := e.timedOut
  ticket := e.ticket
  authRef := k.authRef
  generation := k.generation
  time := time

/-- The referral entry a diversion fills (R151), with the use count of the slot taken. -/
def referralOf (e : WorkEntry) (k : Reckoning) (reason : DivertReason) (use : BitVec 8) (dueTime now : Nat) : RefEntry where
  state := .awaiting
  useCount := use
  card := e.card
  day := e.day
  kind := e.kind
  snap := e.snap
  distance := k.distance
  units := k.units
  fare := if k.aside then none else k.result.fare
  reason := reason
  conds := k.conds
  generation := k.generation
  dueTime := dueTime
  due := decide (dueTime ≤ now)
  fallenDue := decide (dueTime ≤ now)
  answer := none
  work := .none

/-- The REFERRAL_REQUEST of a referral entry made at a line time (R152). -/
def requestOf (x : RefEntry) (slot : Fin 256) (authRef : Option Nat) (time : Nat) : RequestFrame where
  ticket := ticketOf x.useCount slot
  card := x.card
  day := x.day
  kind := x.kind
  source := x.snap.source
  origin := x.snap.origin
  dest := x.snap.dest
  distance := x.distance
  units := x.units
  fare := x.fare
  reason := x.reason
  conds := x.conds
  authRef := authRef
  generation := x.generation
  dueTime := x.dueTime
  time := time

/-- The summary list with a record reported ready where it is CLOSING with nothing pending (R72, R170). -/
def summaryWith (v : Record) (l : List (Card × Day)) : List (Card × Day) :=
  if v.status = .closing ∧ v.pendingCount = 0 ∧ (v.card, v.day) ∉ l then l ++ [(v.card, v.day)] else l

end Sys2Proof.Machine
end

