-- ==== Sys2Proof/Certificates/Slice0/Obligations.lean ====
section
/-! DEFINITION. The statements about the engine, for the provers. Each docstring names the rule of spec/ it rests on; where a
clause is the model's own choice it names the log entry. -/

open Sys2Proof Sys2Proof.Machine

/-! ## The whole machine -/

/-- Step runs the command at the front of the queue with the queue's rest (the model's queue: DESIGN CHOICE, log 1); on an empty queue the
engine idles (DESIGN CHOICE, log 1). -/
def Obligations.StepRunsFrontCommand : Prop :=
  (∀ (c : Instr) (rest : List Instr) (s : State), s.pending = c :: rest → step s = exec c { s with pending := rest }) ∧
    ∀ s : State, s.pending = [] → step s = .next s

/-- Every command is taken, refused with a status, discarded, noticed or without effect: each is a next state, in every state
(no rule of spec/ stops the engine), and none touches the queue of the commands behind it (DESIGN CHOICE, log 1). -/
def Obligations.EveryCommandCompletes : Prop :=
  ∀ (c : Instr) (s : State), ∃ u, exec c s = .next u ∧ u.pending = s.pending

/-- POWER_ON_RESET puts every block at its power-on values (R3, R23, R44, R49, R75, R100, R114, R162, R163, R177, R185). That
the waiting commands still wait is the model's (DESIGN CHOICE, log 1). -/
def Obligations.PowerOnValues : Prop :=
  ∀ s : State, ∃ u, exec .powerOnReset s = .next u ∧ u.pending = s.pending ∧
    (∀ p : PortId, u.port p =
      { st := .idle, carrier := false, autoDetach := true, mask := 0, cls := .routine, creditLimit := 4, lastTaken := 65535,
        advertised := 65535, outstanding := 0, attachment := 0, attachDeadline := none, attachFallenDue := false, badRun := 0,
        attention := 0, intake := [], transmit := [],
        tracker := { estimate := 0, seeded := false, settled := false, lastBeacon := none, deadline := none,
                     fallenDue := false } }) ∧
    u.clock = { time := 0, day := 0, overrun := false, owedOverrun := false } ∧
    u.tables.active = Bank.zero ∧ u.tables.prep = Bank.zero ∧ u.tables.activeValid = false ∧ u.tables.activeGen = none ∧
    u.tables.armedGen = none ∧ u.tables.copyPos = none ∧
    (∀ n : Nat, u.jt.bucket (.home n) = Bucket.empty ∧ u.jt.bucket (.ext n) = Bucket.empty) ∧
    u.jt.pool = List.range' 0 16384 ∧ u.jt.inUse = 0 ∧
    u.pu = { item := none, source := .intake, port := 0 } ∧ u.expiry = [] ∧
    (∀ v : Level, u.pool.list v = []) ∧ u.pool.slotsInUse = 0 ∧ u.reservation = 0 ∧ u.pool.runLevel = none ∧
    u.pool.aging = 0 ∧ u.fu = .idle ∧
    (∀ i : Fin 256, (u.rt.entry i).state = .free ∧ (u.rt.entry i).useCount = 0 ∧ (u.rt.entry i).answer = none ∧
      (u.rt.entry i).due = false ∧ (u.rt.entry i).work = .none) ∧
    u.rt.freeList = List.finRange 256 ∧ u.rt.ready = [] ∧
    u.roll.state = .notReady ∧ u.roll.oldDay = none ∧ u.roll.pos = 0 ∧ u.roll.visit = [] ∧ u.roll.closingCount = 0 ∧
    u.roll.summary = [] ∧ u.roll.owedDone = none ∧
    u.lli.carrier = false ∧ u.lli.receive = [] ∧ u.lli.urgent = [.started 4408 Config.siliconRevision 0] ∧ u.lli.bulk = [] ∧
    u.lli.copyReserve = none ∧ u.lli.server = none ∧ u.lli.selected = .identity ∧ u.lli.disposition = 0 ∧ u.lli.owed = [] ∧
    (∀ i : Fin 117, u.counters[i] = 0 ∧ u.lli.snapshot.counters[i] = 0)

/-- The state after reset meets every bound that the steps keep. -/
def Obligations.ResetMeetsBounds : Prop :=
  State.reset.TimeInRange ∧ State.reset.QueuesInBounds ∧ State.reset.CountersInRange ∧ State.reset.TableCanonical ∧
    State.reset.CreditLaw ∧ State.reset.RecordsInRange ∧ State.reset.jt.Sound ∧ State.reset.ClosingLaw ∧
    State.reset.ExpiryLaw ∧ State.reset.SlotLaw ∧ State.reset.tables.CopyLaw

/-- Line time stays within 0 to 129,599 (R44). -/
def Obligations.LineTimeStaysInRange : Prop :=
  ∀ s u : State, s.TimeInRange → step s = .next u → u.TimeInRange

/-- The receive list never holds more than 16 frames, the urgent queue with the places held never more than 32, the bulk queue
never more than 512 (R177), and a held REPLY place is always filled before the taking ends (R179). -/
def Obligations.QueueBoundsKept : Prop :=
  ∀ s u : State, s.QueuesInBounds → step s = .next u → u.QueuesInBounds

/-- Every device counter stays a 32-bit saturating count (R189). The Work Pool's counts stay true: slots in use never exceed
1,024, each count is the number of its entries, and every tap taken and not ended is counted in a port's outstanding credits or in
the released taps (R103), given the credit law (R33). -/
def Obligations.CountersStayInRange : Prop :=
  (∀ s u : State, s.CountersInRange → step s = .next u → u.CountersInRange) ∧
    ∀ s u : State, s.CreditLaw → s.SlotLaw → step s = .next u → u.SlotLaw

/-- The journey table keeps the model's canonical form (INVENTORY.md, Memory and ordering): equal tables are equal data. In that
form it keeps its structure: free and linked extension buckets number 16,384, each once, no chain has more than three (R57, R58), a
linked one holds a record (R57), at most one record per card and service day, found by its lookup (R59, R60), and the
records-in-use count is their number (R55). -/
def Obligations.TableFormKept : Prop :=
  (∀ s u : State, s.TableCanonical → step s = .next u → u.TableCanonical) ∧
    ∀ s u : State, s.TableCanonical → s.jt.Sound → step s = .next u → u.jt.Sound

/-- The law of R33: taps taken in a port's current attachment and not ended never exceed that port's credit limit; with the part
of the window not yet used, they stay within it. -/
def Obligations.CreditLawKept : Prop :=
  (∀ s u : State, s.CreditLaw → step s = .next u → u.CreditLaw) ∧
    ∀ (s : State) (p : PortId), s.CreditLaw → (s.port p).outstanding ≤ (s.port p).creditLimit

/-- The law of R66 with the ranges of R64, R67 and R70: at most three held tap-outs, ordered by out time; at most eight recent
taps; saturating totals. In a sound table a CLOSING record holds no open journey and no held tap-out (R69), is of the old day of a
roll in progress, and the closing-record count is the number of CLOSING records (R163); and the expiry queue holds one entry for
each open journey and each held tap-out and no other (R93; where two held tap-outs have one name, each removal takes one entry:
DESIGN CHOICE, log 41). -/
def Obligations.RecordsStayInRange : Prop :=
  (∀ s u : State, s.RecordsInRange → step s = .next u → u.RecordsInRange) ∧
  (∀ s u : State, s.TableCanonical → s.jt.Sound → s.ClosingLaw → step s = .next u → u.ClosingLaw) ∧
  ∀ s u : State, s.TableCanonical → s.jt.Sound → s.ClosingLaw → s.ExpiryLaw → step s = .next u → u.ExpiryLaw

/-- Where the banks may change (R1, R13, R14, R16): but for power-on reset, the active bank changes only by an armed bank taking its
place; an armed bank, with no copy in flight, is never written: it stays as it is or becomes the active bank; and no step arms a
bank while a copy is in flight or starts a copy of an armed one, so that an armed bank never has a copy in flight. While a copy runs,
the pending bank is written by the copy alone. At reset nothing is armed: O4. -/
def Obligations.BanksChangeOnlyByRole : Prop :=
  (∀ (c : Instr) (s u : State), c ≠ .powerOnReset → exec c s = .next u →
    (u.tables.active = s.tables.active ∨ (s.tables.armed = true ∧ u.tables.active = s.tables.prep)) ∧
    (s.tables.armed = true → s.tables.copying = false →
      u.tables.prep = s.tables.prep ∨ (u.tables.active = s.tables.prep ∧ u.tables.prep = s.tables.active)) ∧
    (s.tables.copying = true → s.tables.armed = false → c ≠ .copyRow → u.tables.prep = s.tables.prep)) ∧
  ∀ (c : Instr) (s u : State), (s.tables.armed = true → s.tables.copying = false) → exec c s = .next u →
    (u.tables.armed = true → u.tables.copying = false)

/-- A record written and looked up again: the record of its card and day is the one written, and every other card and day reads
as before (R59, R73). A find-or-insert (R60, R61): the record found; else a fresh one in the first free slot in chain order; else in
slot 0 of the pool's head bucket, linked behind a chain of fewer than three extensions; else no room, by chain limit or by an empty
pool. A removal (R62): the slot freed, and an extension bucket left empty unlinked and put at the tail of the pool; nothing where
the record is absent. -/
def Obligations.RecordReadsBack : Prop :=
  (∀ (jt : JourneyTable) (old v : Record), jt.wf = true → jt.lookup v.card v.day = some old →
    (jt.write v).lookup v.card v.day = some v ∧
    ∀ (c : Card) (d : Day), (c, d) ≠ (v.card, v.day) → (jt.write v).lookup c d = jt.lookup c d) ∧
  (∀ (jt : JourneyTable) (c : Card) (d : Day),
    let h := homeIndex c
    let v := Record.fresh c d
    let others := fun u : JourneyTable => ∀ (x : Card) (y : Day), (x, y) ≠ (c, d) → u.lookup x y = jt.lookup x y
    let full := ∀ r ∈ jt.slots h, (jt.slot r).isSome = true
    (∀ r, jt.lookup c d = some r → jt.findOrInsert c d = .found r) ∧
    (jt.lookup c d = none → full → (jt.chain h).length = 4 → jt.findOrInsert c d = .chainLimit) ∧
    (jt.lookup c d = none → full → (jt.chain h).length < 4 → jt.pool = [] → jt.findOrInsert c d = .poolEmpty) ∧
    (jt.wf = true → jt.Sound → jt.lookup c d = none →
      (∀ (before after : List SlotRef) (r : SlotRef), jt.slots h = before ++ r :: after →
        (∀ x ∈ before, (jt.slot x).isSome = true) → jt.slot r = none →
        ∃ u, jt.findOrInsert c d = .inserted u v ∧ u.lookup c d = some v ∧ others u ∧ u.slot r = some v ∧
          u.chain h = jt.chain h ∧ u.pool = jt.pool ∧ u.inUse = jt.inUse + 1) ∧
      (∀ (n : Nat) (rest : List Nat), full → (jt.chain h).length < 4 → jt.pool = n :: rest →
        ∃ u, jt.findOrInsert c d = .inserted u v ∧ u.lookup c d = some v ∧ others u ∧ u.slot (.ext n, 0) = some v ∧
          u.chain h = jt.chain h ++ [.ext n] ∧ u.pool = rest ∧ u.inUse = jt.inUse + 1))) ∧
  ∀ (jt : JourneyTable) (c : Card) (d : Day),
    let h := homeIndex c
    let u := jt.remove c d
    (jt.lookup c d = none → u = jt) ∧
    (jt.wf = true → jt.Sound → ∀ (b : BucketRef) (i : Fin 4), jt.findSlot c d = some (b, i) →
      u.lookup c d = none ∧ (∀ (x : Card) (y : Day), (x, y) ≠ (c, d) → u.lookup x y = jt.lookup x y) ∧
      u.inUse = jt.inUse - 1 ∧
      ((∃ n, b = .home n) ∨ 2 ≤ (jt.bucket b).used → u.slot (b, i) = none ∧ u.chain h = jt.chain h ∧ u.pool = jt.pool) ∧
      (∀ n, b = .ext n → (jt.bucket b).used = 1 → u.bucket (.ext n) = Bucket.empty ∧
        u.chain h = (jt.chain h).filter (fun x => x != .ext n) ∧ u.pool = jt.pool ++ [n]))

/-! ## Byte formats -/

/-- Every well-formed gate frame a hub sends reads back as the command it stands for: TAP, BEACON, HUB_STATE, ATTACH_ACK, with
their check sequence and byte stuffing (R190). -/
def Obligations.GateFramesReadBack : Prop :=
  ∀ (i : Instr) (p : PortId) (frame : List Byte), i.wf = true → gateFrameOf i = some (p, frame) →
    receiveGate p (stuff (withCrc16 frame)) = some i

/-- Every downstream frame whose body meets its kind's fixed part reads back, with its source address, from its bytes on the
line link (R178, R191; the Ethernet layout and check sequence: PRESUMED, log 8). -/
def Obligations.LineFramesReadBack : Prop :=
  ∀ (dest source : BitVec 48) (f : DownFrame), f.kind.lengthOk f.body.length = true → f.body.length < 65536 →
    classifyLine (f.wire dest source) = .good source f

/-- The check value of the CRC-16 and the lengths of the engine's own frames: JOURNEY 64 bytes and REFERRAL_REQUEST 57 (R191);
ATTACH_REQ 7 + stations, CREDIT 5, GATE_ANSWER 9, DETACH 4 with their CRC (R190). -/
def Obligations.FrameLengthsAndCheck : Prop :=
  crc16 [0x31, 0x32, 0x33, 0x34, 0x35, 0x36, 0x37, 0x38, 0x39] = 0x29B1 ∧
    (∀ j : JourneyFrame, j.body.length = 64) ∧ (∀ r : RequestFrame, r.body.length = 57) ∧
    (∀ (p : PortId) (limit interval : Nat) (l : List Nat),
      (withCrc16 (GateFrame.bytes (.attachReq p limit interval l))).length = 7 + l.length) ∧
    (∀ n : TapNo, (withCrc16 (GateFrame.bytes (.credit n))).length = 5) ∧
    (∀ (n : TapNo) (a : Answer), (withCrc16 (GateFrame.bytes (.gateAnswer n a))).length = 9) ∧
    ∀ p : PortId, (withCrc16 (GateFrame.bytes (.detach p))).length = 4

/-! ## Reckoning -/

/-- Distance and units (R121, R122): on one branch the difference of the chainages; from the trunk to a branch the difference to its
junction plus the branch chainage; from branch 1 to branch 2 both branch chainages and the difference of the junctions; the same in
both directions, 0 from a station to itself, at most 299,997 m where chainages and junctions are in range; the units are the least
number of hundreds of metres that covers the distance. S1 and S2 by the stations a pricing has (R118, R120, R121, R123, R138): two
known stations give distance and units, raised to the minimum; one gives its far units, raised to the minimum; a usable hint gives
the origin; a station that is not enabled or above 63 gives STATION_UNKNOWN and neither distance nor units. -/
def Obligations.DistanceAndUnits : Prop :=
  (∀ (b : Bank) (x y : StationRow),
    let apart := fun m n : Nat => if m ≤ n then n - m else m - n
    (x.branch = y.branch → b.distance x y = apart x.chainage y.chainage) ∧
    (x.branch = 0 → y.branch = 1 → b.distance x y = apart x.chainage b.line.junction1 + y.chainage) ∧
    (x.branch = 0 → y.branch = 2 → b.distance x y = apart x.chainage b.line.junction2 + y.chainage) ∧
    (x.branch = 1 → y.branch = 2 →
      b.distance x y = x.chainage + apart b.line.junction1 b.line.junction2 + y.chainage)) ∧
  (∀ (b : Bank) (x y : StationRow), x.branch ≤ 2 → y.branch ≤ 2 → b.distance x y = b.distance y x) ∧
    (∀ (b : Bank) (x : StationRow), b.distance x x = 0) ∧
    (∀ (b : Bank) (x y : StationRow), x.chainage ≤ 99999 → y.chainage ≤ 99999 → b.line.junction1 ≤ 99999 →
      b.line.junction2 ≤ 99999 → b.distance x y ≤ 299997) ∧
    (∀ d : Nat, d ≤ 100 * unitsOf d ∧ ∀ n : Nat, d ≤ 100 * n → unitsOf d ≤ n) ∧
  (∀ (b : Bank) (n : Nat) (r : StationRow), b.station n = some r ↔ b.stations[n]? = some r ∧ r.enabled ≠ 0) ∧
  ∀ (b : Bank) (least : Nat) (j : Journey) (a : Option RefAnswer),
    let r := b.route least j a
    let named : Option (Nat × OriginSource) := match a, j.origin with
      | some (.reprice o), _ => some (o, .referral)
      | _, some h => some (h.station, j.source)
      | _, none => none
    let far := fun (missing : CondSet) (d : Nat) (y : StationRow) =>
      (⟨none, some d, .none, none, some (max y.farUnits least), Condition.originUnknown.only ||| missing⟩ : Route)
    (∀ o src d, named = some (o, src) → j.dest = some d →
      (∀ x y, b.station o = some x → b.station d.station = some y →
        r = ⟨some o, some d.station, src, some (b.distance x y), some (max (unitsOf (b.distance x y)) least), 0⟩) ∧
      (b.station o = none ∨ b.station d.station = none →
        r = ⟨some o, some d.station, src, none, none, Condition.stationUnknown.only⟩)) ∧
    (∀ o src, named = some (o, src) → j.dest = none →
      (∀ x, b.station o = some x → r = ⟨some o, none, src, none, some (max x.farUnits least), Condition.incomplete.only⟩) ∧
      (b.station o = none →
        r = ⟨some o, none, src, none, none, Condition.incomplete.only ||| Condition.stationUnknown.only⟩)) ∧
    ∀ d, named = none → j.dest = some d →
      let hint := resolve (b.product d.product).expected d.attrs .originHint
      (b.station d.station = none →
        r = ⟨none, some d.station, .none, none, none, Condition.originUnknown.only ||| Condition.stationUnknown.only⟩) ∧
      ∀ y, b.station d.station = some y →
        (∀ o x, hint = .filled o → b.station o = some x →
          r = ⟨some o, some d.station, .hint, some (b.distance x y), some (max (unitsOf (b.distance x y)) least), 0⟩) ∧
        (∀ o, hint = .filled o → b.station o = none → r = far 0 d.station y) ∧
        (hint = .expectedAbsent → r = far Condition.attributeAbsent.only d.station y) ∧
        (hint = .notExpected → r = far 0 d.station y)

/-- R129 whole: the rounding modes DOWN 0, UP 1, NEAREST 2, NEAREST_EVEN 3, by the whole quotient and the remainder of
N / 10,000,000; INEXACT and ZERO_ROUNDED; the range of the rounded fare. -/
def Obligations.RoundingRule : Prop :=
  ∀ n q r : Nat, n = q * 10000000 + r → r < 10000000 →
    roundFare 0 n = q ∧ roundFare 1 n = (if 0 < r then q + 1 else q) ∧
    roundFare 2 n = (if 5000000 ≤ r then q + 1 else q) ∧
    roundFare 3 n = (if 5000000 < r ∨ (r = 5000000 ∧ q % 2 = 1) then q + 1 else q) ∧
    ∀ mode : Nat, mode ≤ 3 →
      ((roundConds mode n).has .inexact = true ↔ 0 < r) ∧
      ((roundConds mode n).has .zeroRounded = true ↔ 0 < n ∧ roundFare mode n = 0) ∧
      ((roundConds mode n).has .zeroRounded = true → (roundConds mode n).has .inexact = true) ∧
      (∀ c : Condition, c ≠ .inexact → c ≠ .zeroRounded → (roundConds mode n).has c = false) ∧
      (n ≤ 45451200000000 → roundFare mode n ≤ 4545120)

/-- The daily cap (R132): with cap 0 the charge is the fare and nothing is raised; with a cap above 0 the charge is the smaller
of the fare and what the day total leaves, CAPPED raised exactly where that is less than the fare; and a day total within the
cap stays within it. For a REFERRED product the same charge, and CAPPED goes into the set held aside (R139); a path without S7
charges the fare (R157). -/
def Obligations.DailyCapLaw : Prop :=
  (∀ (k : Reckoning) (total : Nat), k.aside = true → k.asideConds.has .capped = false →
    let c := k.withCharge true total
    c.conds = k.conds ∧
    c.charged = (if k.productRow.cap = 0 then k.fareToCharge else min k.fareToCharge (k.productRow.cap - total)) ∧
    (c.asideConds.has .capped = true ↔ c.charged < k.fareToCharge) ∧
    ∀ x : Condition, x ≠ .capped → c.asideConds.has x = k.asideConds.has x) ∧
  (∀ (k : Reckoning) (total : Nat), k.withCharge false total = { k with charged := k.fareToCharge }) ∧
  ∀ (k : Reckoning) (total : Nat), k.aside = false → k.conds.has .capped = false →
    let c := k.withCharge true total
    (k.productRow.cap = 0 → c.charged = k.fareToCharge ∧ c.conds = k.conds) ∧
    (0 < k.productRow.cap → c.charged = min k.fareToCharge (k.productRow.cap - total) ∧
      (c.conds.has .capped = true ↔ c.charged < k.fareToCharge) ∧
      (∀ x : Condition, x ≠ .capped → c.conds.has x = k.conds.has x) ∧
      (total ≤ k.productRow.cap → total + c.charged ≤ k.productRow.cap))

/-- What a reckoning comes to, and the law of R135. Which reckoning a work entry takes, by the bank that prices its day (R116):
a SETTLE by its entry and answer, a REPRICE by its answer (R118), and every other kind afresh from its snapshot. Timeout work
is among these: R158's table is followed, so that STATION_UNKNOWN makes its fare 0 only where the bank at its grant raises it
again, against R158's sentence that timeout work whose diversion it forced is charged 0 (DEDUCED, log 45). S0 to S6 assembled
(R117, R125, R138, R139): stations, distance and units by S1 and S2, the fare by S3 to S6; where there are no units an exact 0,
no factor, and the companions that S0 resolves (R120); the journey's own set holds what S1 and S2 raised and CLOCK_UNSETTLED,
and joins what S3 to S6 raised, which is held aside for a REFERRED or INVALID product; the undiverted outcome unites the two
sets (R146) and reports a fare, the 0 of a journey without units too (DEDUCED, log 22). A SETTLE's fare, set and cap by its
answer (R157), with the origin source of its snapshot (DESIGN CHOICE, log 42). No pricing charges more than the fare ceiling of
the bank that priced it (which bank that is for a day that is neither the old nor the new day of a roll: DESIGN CHOICE, log
38). -/
def Obligations.ChargeWithinCeiling : Prop :=
  (∀ (s : State) (e : WorkEntry),
    (s.outcomeUpdate e (s.copiesFor e) (s.reckoningFor e (s.copiesFor e))).1.reck.charged ≤ (s.bankFor e.day).line.ceiling) ∧
  (∀ (s : State) (e : WorkEntry),
    (e.kind ≠ .settle → e.kind ≠ .reprice → s.reckoningFor e (s.copiesFor e) = (s.bankFor e.day).reckon e.snap none) ∧
    ∀ t a, e.ticket = some t → (s.rt.entry (slotOfTicket t)).answer = some a →
      (e.kind = .reprice → s.reckoningFor e (s.copiesFor e) = (s.bankFor e.day).reckon e.snap (some a)) ∧
      (e.kind = .settle → s.reckoningFor e (s.copiesFor e) =
        (s.bankFor e.day).reckonSettle e.snap (s.rt.entry (slotOfTicket t)) a)) ∧
  (∀ (b : Bank) (j : Journey) (a : Option RefAnswer),
    let k := b.reckon j a
    let row := b.product j.product
    let r := b.route row.minUnits j a
    let stages : CondSet := match r.units with
      | some u => (b.fareStages row j u).conds
      | none => 0
    let own := fun c : Condition => r.conds.has c = true ∨
      (c = .clockUnsettled ∧ (j.origin.map Half.clock = some true ∨ j.dest.map Half.clock = some true))
    k.generation = b.line.generation ∧ k.product = j.product ∧ k.productRow = row ∧
    k.origin = r.origin ∧ k.dest = r.dest ∧ k.source = r.source ∧ k.distance = r.distance ∧ k.units = r.units ∧
    k.authRef = (resolveHalf b j.dest .authRef).value ∧
    (∀ u, r.units = some u → k.result = b.fareStages row j u ∧ k.result.fare = some k.fareToCharge) ∧
    (r.units = none → k.fareToCharge = 0 ∧ k.result.bandRow = none ∧ k.result.timeFactor = none ∧
      k.result.concessionFactor = none ∧ k.result.companions = (match resolveHalf b j.fareHalf .companions with
        | .filled v => v
        | _ => 0)) ∧
    (row.kind = 1 ∨ row.kind = 2 → k.aside = false ∧ k.asideConds = 0 ∧
      ∀ c, k.conds.has c = true ↔ own c ∨ stages.has c = true) ∧
    (row.kind = 0 ∨ row.kind = 3 → k.aside = true ∧ k.asideConds = stages ∧ ∀ c, k.conds.has c = true ↔ own c)) ∧
  (∀ (k : Reckoning) (c : Condition),
    (k.undiverted.conds.has c = true ↔ k.conds.has c = true ∨ k.asideConds.has c = true) ∧
    k.undiverted.result.fare = some k.fareToCharge ∧ k.undiverted.charged = k.charged) ∧
  (∀ (b : Bank) (j : Journey) (e : RefEntry) (a : RefAnswer),
    let k := b.reckonSettle j e a
    k.product = j.product ∧ k.productRow = b.product j.product ∧ k.generation = b.line.generation ∧ k.aside = false ∧
    k.asideConds = 0 ∧ k.origin = j.origin.map Half.station ∧ k.dest = j.dest.map Half.station ∧ k.source = j.source ∧
    k.distance = e.distance ∧ k.units = e.units ∧ k.result.bandRow = none ∧ k.result.concessionClass = none ∧
    k.result.concessionFactor = none ∧ k.result.timeFactor = none ∧ k.result.companions = 0 ∧
    (∀ amount cap, a = .charge amount cap → k.fareToCharge = min b.line.ceiling amount ∧ appliesCap .settle (some a) = cap ∧
      ∀ c, k.conds.has c = true ↔ e.conds.has c = true ∨ (c = .fareOverflow ∧ b.line.ceiling < amount)) ∧
    (a = .void → k.fareToCharge = 0 ∧ appliesCap .settle (some a) = false ∧ k.conds = e.conds)) ∧
  ∀ (kind : WorkKind) (a : Option RefAnswer), kind ≠ .settle → appliesCap kind a = true

/-! ## Gate ports -/

/-- An attention event (R38, R39): a kind already latched changes nothing; otherwise it is latched, and unless it is masked one
port NOTICE, carrying the set after the latch, goes into the queue of the port's class or, where that has no place, onto the
owed list. -/
def Obligations.AttentionRaised : Prop :=
  ∀ (p : PortId) (k : AttnKind) (d : AttnDetail) (s : State),
    ((s.port p).attention.has k = true → s.raise p k d = s) ∧
    ((s.port p).attention.has k = false →
      State.AgreeOutside [.ports, .lli] s (s.raise p k d) ∧ s.OtherPortsKept p (s.raise p k d) ∧
      (s.raise p k d).port p = { s.port p with attention := (s.port p).attention ||| k.only } ∧
      ((s.port p).mask.has k = true → (s.raise p k d).lli = s.lli) ∧
      ((s.port p).mask.has k = false →
        (s.lli.hasPlaceFor (s.port p).cls = false → (s.raise p k d).lli = { s.lli with owed := s.lli.owed ++ [⟨p, k, d⟩] }) ∧
        (s.lli.hasPlaceFor (s.port p).cls = true → (s.port p).cls = .urgent → (s.raise p k d).lli =
          LineLink.startSending { s.lli with
            urgent := s.lli.urgent ++ [.portNotice p k d ((s.port p).attention ||| k.only)] }) ∧
        (s.lli.hasPlaceFor (s.port p).cls = true → (s.port p).cls = .routine → (s.raise p k d).lli =
          LineLink.startSending { s.lli with
            bulk := s.lli.bulk ++ [.portNotice p k d ((s.port p).attention ||| k.only)] })))

/-- GATE_CARRIER_LOSS (R24, R25, R35, R103, R104): the flag off, the transmit list emptied, CARRIER_CHANGE raised, the port at
IDLE unless it is ATTACHED with auto-detach off, released where it leaves ATTACHED or DETACHING. Frame: nothing but ports,
pool, roll and line link changes, and no other port. -/
def Obligations.GateCarrierLoss : Prop :=
  ∀ (p : PortId) (s : State), (s.port p).carrier = true → ∃ u, exec (.gateCarrierLoss p) s = .next u ∧
    State.AgreeOutside [.ports, .pool, .roll, .lli] s u ∧ s.OtherPortsKept p u ∧
    u.lli = (s.raise p .carrierChange (.carrier false)).lli ∧
    u.roll = { s.roll with paused := u.roll.paused } ∧
    u.pool = { s.pool with releasedTaps :=
      s.pool.releasedTaps + (if (s.port p).releasedByLoss then (s.port p).outstanding else 0) } ∧
    u.port p = { s.port p with
      carrier := false
      transmit := []
      attention := (s.port p).attention ||| AttnKind.carrierChange.only
      st := if (s.port p).st = .attached ∧ (s.port p).autoDetach = false then .attached else .idle
      attachment := if (s.port p).releasedByLoss then (s.port p).attachment + 1 else (s.port p).attachment
      outstanding := if (s.port p).releasedByLoss then 0 else (s.port p).outstanding
      tracker := if (s.port p).releasedByLoss then (s.port p).tracker.stop else (s.port p).tracker
      attachDeadline := if (s.port p).st = .attaching then none else (s.port p).attachDeadline
      attachFallenDue := if (s.port p).st = .attaching then false else (s.port p).attachFallenDue }

/-- GATE_CARRIER_RETURN (R24): the flag on, CARRIER_CHANGE raised, IDLE to PRESENT, and an ATTACHED port sent a CREDIT for its
free credits. Frame: nothing but ports and line link changes, and no other port. -/
def Obligations.GateCarrierReturn : Prop :=
  ∀ (p : PortId) (s : State), (s.port p).carrier = false → ∃ u, exec (.gateCarrierReturn p) s = .next u ∧
    State.AgreeOutside [.ports, .lli] s u ∧ s.OtherPortsKept p u ∧
    u.lli = (s.raise p .carrierChange (.carrier true)).lli ∧
    u.port p =
      let q := { s.port p with carrier := true, attention := (s.port p).attention ||| AttnKind.carrierChange.only }
      if (s.port p).st = .idle then { q with st := .present }
      else if (s.port p).st = .attached then
        { q with
          transmit := (s.port p).transmit.filter (fun f => !f.isCredit) ++
            [.credit ((s.port p).lastTaken + BitVec.ofNat 16 ((s.port p).creditLimit - (s.port p).outstanding))]
          advertised := (s.port p).lastTaken + BitVec.ofNat 16 ((s.port p).creditLimit - (s.port p).outstanding) }
      else q

/-- Good frames that are not taken (R30): unexpected ones are counted and set the bad-frame run to 0, in FAULTED they leave
nothing; for all four kinds. Frame: every other part and every other port is unchanged. -/
def Obligations.UnexpectedFrames : Prop :=
  ∀ (p : PortId) (s : State), (s.port p).carrier = true →
    (∀ i : Instr, ((∃ f, i = .tap p f) ∨ (∃ h d, i = .beacon p h d) ∨ (∃ a c, i = .hubState p a c)) →
      ((s.port p).st = .present ∨ (s.port p).st = .attaching →
        exec i s = .next ((s.setPort p { s.port p with badRun := 0 }).bump (.port p .unexpectedFrames))) ∧
      ((s.port p).st = .faulted → exec i s = .next s)) ∧
    ∀ (b : Bool) (e : Byte) (n : TapNo),
      ((s.port p).st = .present ∨ (s.port p).st = .attached ∨ (s.port p).st = .detaching →
        exec (.attachAck p b e n) s =
          .next ((s.setPort p { s.port p with badRun := 0 }).bump (.port p .unexpectedFrames))) ∧
      ((s.port p).st = .faulted → exec (.attachAck p b e n) s = .next s)

/-- TAP on an ATTACHED or DETACHING port with carrier (R33, R34, R37, R53): outside the credit window it is counted over-credit
and nothing else changes but the bad-frame run; inside it is taken, its gap counted and a CREDIT placed where numbers were
skipped. The decoded tap carries the hub time corrected by the tracker's estimate and held within 0 to 129,599, the
clock-unsettled mark, and the attribute list by the cases of R37: the items up to the first with LAST, one attribute after the
other, up to the first malformed one. Frame: nothing but this port, the line link (by TAP_GAP) and this port's counters changes. -/
def Obligations.TapTakenOrCounted : Prop :=
  (∀ (p : PortId) (f : TapFrame) (s : State), (s.port p).carrier = true →
    ((s.port p).st = .attached ∨ (s.port p).st = .detaching) →
    let q := s.port p
    let k := (f.tapNumber - q.lastTaken).toNat
    let w := (q.advertised - q.lastTaken).toNat
    let malformed := (decodeItems (usedItems f.items)).2
    (k = 0 ∨ w < k → exec (.tap p f) s =
      .next ((s.setPort p { q with badRun := 0 }).bump (.port p .overCreditTaps))) ∧
    (1 ≤ k → k ≤ w → ∃ u, exec (.tap p f) s = .next u ∧ State.AgreeOutside [.ports, .lli, .counters] s u ∧
      s.OtherPortsKept p u ∧
      (∀ c : CounterId, c ≠ .port p .lostTaps → c ≠ .port p .malformedItems → u.counters.value c = s.counters.value c) ∧
      u.counters.value (.port p .lostTaps) =
        (if k = 1 then s.counters.value (.port p .lostTaps)
         else min Config.counterMax (s.counters.value (.port p .lostTaps) + (k - 1))) ∧
      u.counters.value (.port p .malformedItems) =
        (if malformed then min Config.counterMax (s.counters.value (.port p .malformedItems) + 1)
         else s.counters.value (.port p .malformedItems)) ∧
      u.lli = (if k = 1 then s.lli else (s.raise p .tapGap (.lost (k - 1))).lli) ∧
      u.port p = { q with
        badRun := 0
        attention := if k = 1 then q.attention else q.attention ||| AttnKind.tapGap.only
        lastTaken := f.tapNumber
        outstanding := q.outstanding + 1
        intake := q.intake ++ [decodeTap p q f]
        transmit := if k = 1 then q.transmit else q.transmit.filter (fun x => !x.isCredit) ++
          [.credit (f.tapNumber + BitVec.ofNat 16 (q.creditLimit - (q.outstanding + 1)))]
        advertised := if k = 1 then q.advertised
          else f.tapNumber + BitVec.ofNat 16 (q.creditLimit - (q.outstanding + 1)) })) ∧
  (∀ (p : PortId) (q : Port) (f : TapFrame),
    let sum : Int := (f.hubTime.toNat : Int) + q.tracker.estimate
    decodeTap p q f =
      { port := p, attachment := q.attachment, tapNumber := f.tapNumber, live := f.live, direction := f.direction
        card := f.card, station := f.station.toNat, product := f.product, hubSeq := f.hubSeq, hubDay := f.hubDay
        time := if sum < 0 then 0 else if 129599 < sum then 129599 else sum.toNat
        unsettled := decide (q.tracker.seeded = false ∨ q.tracker.settled = false ∨ sum < 0 ∨ 129599 < sum)
        attrs := (decodeItems (usedItems f.items)).1 }) ∧
  (∀ items : List TapItem, (∀ x ∈ items, x.last = false) → usedItems items = items) ∧
  (∀ (before after : List TapItem) (i : TapItem), (∀ x ∈ before, x.last = false) → i.last = true →
    usedItems (before ++ i :: after) = before ++ [i]) ∧
  decodeItems [] = ([], false) ∧
  (∀ (k : AttrKind) (i : TapItem) (l : List TapItem), k ≠ .authRef → i.kind.toNat = k.code → i.join = false →
    decodeItems (i :: l) = (⟨k, i.value.toNat⟩ :: (decodeItems l).1, (decodeItems l).2)) ∧
  (∀ (i j : TapItem) (l : List TapItem), i.kind = 4 → i.join = true → j.kind = 4 → j.join = false →
    decodeItems (i :: j :: l) = (⟨.authRef, i.value.toNat * 65536 + j.value.toNat⟩ :: (decodeItems l).1, (decodeItems l).2)) ∧
  ∀ (i : TapItem) (l : List TapItem),
    (i.kind = 0 ∨ 4 < i.kind.toNat) ∨ (i.join = true ∧ l = []) ∨ (i.join = true ∧ ∃ j m, l = j :: m ∧ j.kind ≠ i.kind) ∨
      (i.join = true ∧ i.kind ≠ 4) ∨ (i.join = false ∧ i.kind = 4) ∨
      (i.join = true ∧ i.kind = 4 ∧ ∃ j m, l = j :: m ∧ j.kind = 4 ∧ j.join = true) →
    decodeItems (i :: l) = ([], true)

/-- BEACON on an ATTACHED or DETACHING port with carrier (R50, R51, R52): a wrong day or a time above 129,599 is counted; a
beacon that passes moves the tracker by the first case that applies, and by at most one second but at a seed or a re-seed.
Frame: nothing but this port, the line link (by CLOCK_JUMP) and this port's counters changes. -/
def Obligations.BeaconApplied : Prop :=
  ∀ (p : PortId) (h : BitVec 32) (d : Day) (s : State), (s.port p).carrier = true →
    ((s.port p).st = .attached ∨ (s.port p).st = .detaching) →
    let q := s.port p
    let e := q.tracker.estimate
    let m : Int := (s.clock.time : Int) - (h.toNat : Int)
    (d ≠ s.clock.day →
      exec (.beacon p h d) s = .next ((s.setPort p { q with badRun := 0 }).bump (.port p .badDayBeacons))) ∧
    (d = s.clock.day → Config.lineTimeMax < h.toNat →
      exec (.beacon p h d) s = .next ((s.setPort p { q with badRun := 0 }).bump (.port p .badTimeBeacons))) ∧
    (d = s.clock.day → h.toNat ≤ Config.lineTimeMax → s.clock.time ≤ Config.lineTimeMax →
      ∃ u, exec (.beacon p h d) s = .next u ∧ State.AgreeOutside [.ports, .lli] s u ∧ s.OtherPortsKept p u ∧
      u.lli = (if q.tracker.seeded = true ∧ 30 < (m - e).natAbs then (s.raise p .clockJump (.estimate m)).lli else s.lli) ∧
      ∃ k : Tracker,
        u.port p = { q with
          badRun := 0
          tracker := k
          attention := if q.tracker.seeded = true ∧ 30 < (m - e).natAbs then q.attention ||| AttnKind.clockJump.only
            else q.attention } ∧
        k.seeded = true ∧ k.lastBeacon = some s.clock.time ∧ k.fallenDue = false ∧
        k.estimate = (if q.tracker.seeded = false ∨ (m - e).natAbs ≤ 1 ∨ 30 < (m - e).natAbs then m
          else if e < m then e + 1 else e - 1) ∧
        (q.tracker.seeded = true → (m - e).natAbs ≤ 30 → (k.estimate - e).natAbs ≤ 1) ∧
        (s.clock.time < Config.lineTimeMax →
          k.deadline = some (min Config.lineTimeMax (s.clock.time + 120)) ∧
          (k.settled = true ↔ q.tracker.seeded = true ∧ (m - e).natAbs ≤ 1)) ∧
        (s.clock.time = Config.lineTimeMax → k.deadline = none ∧ k.settled = false))

/-- HUB_STATE on an ATTACHED or DETACHING port with carrier (R32): the bad-frame run set to 0 and, with alarm yes alone,
HUB_ALARM raised with its code. GATE_FRAME_SENT (R35): the frame at the head of the transmit list leaves it, while the port has
carrier; without carrier nothing leaves. Frame: as the equations say. -/
def Obligations.HubStatesAndSentFrames : Prop :=
  (∀ (p : PortId) (code : Byte) (s : State), (s.port p).carrier = true →
    ((s.port p).st = .attached ∨ (s.port p).st = .detaching) →
    exec (.hubState p false code) s = .next (s.setPort p { s.port p with badRun := 0 }) ∧
    exec (.hubState p true code) s =
      .next ((s.setPort p { s.port p with badRun := 0 }).raise p .hubAlarm (.alarmCode code))) ∧
  ∀ (p : PortId) (f : GateFrame) (rest : List GateFrame) (s : State), (s.port p).transmit = f :: rest →
    ((s.port p).carrier = true → exec (.gateFrameSent p) s = .next (s.setPort p { s.port p with transmit := rest })) ∧
    ((s.port p).carrier = false → exec (.gateFrameSent p) s = .next s)

/-- ATTACH_ACK in ATTACHING (R28, R49): ATTACHED with a CREDIT of the whole credit limit and a reset tracker, or FAULTED with its
cause. Frame: nothing but this port and the line link changes. -/
def Obligations.AttachAckEndsAttach : Prop :=
  ∀ (p : PortId) (b : Bool) (echo : Byte) (first : TapNo) (s : State), (s.port p).carrier = true →
    (s.port p).st = .attaching →
    let q := { s.port p with badRun := 0, attachDeadline := none, attachFallenDue := false }
    ∃ u, exec (.attachAck p b echo first) s = .next u ∧ State.AgreeOutside [.ports, .lli] s u ∧ s.OtherPortsKept p u ∧
      (b = true → echo.toNat = p.val →
        u.lli = (s.raise p .attachDone (.firstTap first)).lli ∧
        u.port p = { q with
          st := .attached, lastTaken := first - 1, outstanding := 0
          attention := q.attention ||| AttnKind.attachDone.only
          tracker := { estimate := 0, seeded := false, settled := false, lastBeacon := none, deadline := none,
                       fallenDue := false }
          transmit := q.transmit.filter (fun f => !f.isCredit) ++ [.credit (first - 1 + BitVec.ofNat 16 q.creditLimit)]
          advertised := first - 1 + BitVec.ofNat 16 q.creditLimit }) ∧
      (b = true → echo.toNat ≠ p.val →
        u.lli = (s.raise p .attachFailed (.cause .wrongPort)).lli ∧
        u.port p = { q with st := .faulted, attention := q.attention ||| AttnKind.attachFailed.only }) ∧
      (b = false →
        u.lli = (s.raise p .attachFailed (.cause .negative)).lli ∧
        u.port p = { q with st := .faulted, attention := q.attention ||| AttnKind.attachFailed.only })

/-- BAD_FRAME with carrier (R31): counted in every state; in ATTACHING, ATTACHED and DETACHING it advances the run, and the
sixteenth moves the port to FAULTED, released or its attach abandoned, with FAULT raised. -/
def Obligations.BadFrameCounted : Prop :=
  ∀ (p : PortId) (s : State), (s.port p).carrier = true →
    let q := s.port p
    (q.st = .present ∨ q.st = .faulted → exec (.badFrame p) s = .next (s.bump (.port p .badFrames))) ∧
    (q.st = .attaching ∨ q.st = .attached ∨ q.st = .detaching → q.badRun + 1 < 16 →
      exec (.badFrame p) s = .next ((s.bump (.port p .badFrames)).setPort p { q with badRun := q.badRun + 1 })) ∧
    (q.st = .attaching → q.badRun = 15 → ∃ u, exec (.badFrame p) s = .next u ∧
      State.AgreeOutside [.ports, .lli, .counters] s u ∧ s.OtherPortsKept p u ∧
      u.counters = (s.bump (.port p .badFrames)).counters ∧ u.lli = (s.raise p .fault .nothing).lli ∧
      u.port p = { q with
        st := .faulted, badRun := 16, attachDeadline := none, attachFallenDue := false
        attention := q.attention ||| AttnKind.fault.only }) ∧
    (q.st = .attached ∨ q.st = .detaching → q.badRun = 15 → ∃ u, exec (.badFrame p) s = .next u ∧
      State.AgreeOutside [.ports, .pool, .roll, .lli, .counters] s u ∧ s.OtherPortsKept p u ∧
      u.counters = (s.bump (.port p .badFrames)).counters ∧ u.lli = (s.raise p .fault .nothing).lli ∧
      u.pool = { s.pool with releasedTaps := s.pool.releasedTaps + q.outstanding } ∧
      u.roll = { s.roll with paused := u.roll.paused } ∧
      u.port p = { q with
        st := .faulted, badRun := 16, attachment := q.attachment + 1, outstanding := 0, transmit := []
        tracker := q.tracker.stop, attention := q.attention ||| AttnKind.fault.only })

/-- ATTACH_TIMEOUT and BEACON_TIMEOUT (R29, R47, R52): a deadline at or below line time, or one that had become due before line
time was set backward, acts; a deadline not due does not. Frame: nothing but this port, and the line link by ATTACH_FAILED,
changes. -/
def Obligations.PortDeadlinesFire : Prop :=
  ∀ (p : PortId) (d : Nat) (s : State),
    ((s.port p).attachDeadline = some d → (s.port p).st = .attaching →
      (d ≤ s.clock.time ∨ (s.port p).attachFallenDue = true → exec (.attachTimeout p) s =
        .next ((s.setPort p { s.port p with st := .faulted, attachDeadline := none, attachFallenDue := false }).raise p
          .attachFailed (.cause .timeout))) ∧
      (s.clock.time < d → (s.port p).attachFallenDue = false → exec (.attachTimeout p) s = .next s)) ∧
    ((s.port p).tracker.deadline = some d →
      (d ≤ s.clock.time ∨ (s.port p).tracker.fallenDue = true → exec (.beaconTimeout p) s =
        .next (s.setPort p { s.port p with
          tracker := { (s.port p).tracker with settled := false, deadline := none, fallenDue := false } })) ∧
      (s.clock.time < d → (s.port p).tracker.fallenDue = false → exec (.beaconTimeout p) s = .next s))

/-- The ending of a tap (R34, R104): in its current attachment it frees a credit, with a CREDIT where the port is ATTACHED with
carrier, and a DETACHING port with more to come only counts; an ending of an earlier attachment lowers the released taps and
touches no port. -/
def Obligations.TapEnding : Prop :=
  ∀ (p : PortId) (n : BitVec 16) (s : State),
    let q := s.port p
    let free := q.creditLimit - (q.outstanding - 1)
    (q.attachment = n → q.st = .attached → q.carrier = true → s.endTap p n = s.setPort p { q with
      outstanding := q.outstanding - 1
      transmit := q.transmit.filter (fun f => !f.isCredit) ++ [.credit (q.lastTaken + BitVec.ofNat 16 free)]
      advertised := q.lastTaken + BitVec.ofNat 16 free }) ∧
    (q.attachment = n → q.st = .attached → q.carrier = false →
      s.endTap p n = s.setPort p { q with outstanding := q.outstanding - 1 }) ∧
    (q.attachment = n → q.st = .detaching → 1 < q.outstanding →
      s.endTap p n = s.setPort p { q with outstanding := q.outstanding - 1 }) ∧
    (q.attachment = n → q.st = .detaching → q.outstanding = 1 →
      ((s.endTap p n).port p).st = .present ∧ ((s.endTap p n).port p).outstanding = 0 ∧
      ((s.endTap p n).port p).transmit = q.transmit ++ [.detach p] ∧
      ((s.endTap p n).port p).attention = q.attention ||| AttnKind.detachDone.only ∧ s.OtherPortsKept p (s.endTap p n)) ∧
    (q.attachment = n → q.st ≠ .attached → q.st ≠ .detaching → s.endTap p n = s) ∧
    (q.attachment ≠ n → (s.endTap p n).ports = s.ports ∧
      (s.endTap p n).pool = { s.pool with releasedTaps := s.pool.releasedTaps - 1 })

/-- A gate answer (R42): placed on the transmit list of a port ATTACHED with carrier whose attachment is current; discarded and
counted in any other case. -/
def Obligations.GateAnswerDelivered : Prop :=
  ∀ (p : PortId) (n : BitVec 16) (k : TapNo) (a : Answer) (s : State),
    let q := s.port p
    (q.st = .attached ∧ q.carrier = true ∧ q.attachment = n →
      s.handAnswer p n k a = s.setPort p { q with transmit := q.transmit ++ [.gateAnswer k a] }) ∧
    (¬(q.st = .attached ∧ q.carrier = true ∧ q.attachment = n) →
      s.handAnswer p n k a = s.bump (.port p .discardedAnswers))

/-! ## Time -/

/-- LINE_TIME_ADVANCE (R44, R45, R47): line time rises by one and every deadline at or below it becomes due; the arrival at
129,599 with the overrun flag clear sets the flag and makes one DAY_OVERRUN, owed where the urgent queue has no place; there it
is held. Frame: nothing but clock, deadlines and line link changes. -/
def Obligations.LineTimeAdvances : Prop :=
  ∀ s : State,
    (s.clock.time < Config.lineTimeMax → ∃ u, exec .lineTimeAdvance s = .next u ∧
      State.AgreeOutside [.clock, .ports, .expiry, .rt, .lli] s u ∧
      u.clock.time = s.clock.time + 1 ∧ u.clock.day = s.clock.day ∧
      u.clock.overrun = (s.clock.overrun || decide (s.clock.time + 1 = Config.lineTimeMax)) ∧
      u.ports = s.ports.map (Port.compareDeadlines (s.clock.time + 1)) ∧
      u.expiry = s.expiry.map (ExpiryEntry.compareDeadline (s.clock.time + 1)) ∧
      u.rt = { s.rt with entries := s.rt.entries.map (RefEntry.compareDeadline (s.clock.time + 1)) } ∧
      (s.clock.time + 1 = Config.lineTimeMax ∧ s.clock.overrun = false →
        (s.lli.urgentHasPlace = true → u.clock.owedOverrun = s.clock.owedOverrun ∧
          u.lli = LineLink.startSending { s.lli with
            urgent := s.lli.urgent ++ [.dayOverrun s.clock.day Config.lineTimeMax] }) ∧
        (s.lli.urgentHasPlace = false → u.clock.owedOverrun = true ∧ u.lli = s.lli)) ∧
      (¬(s.clock.time + 1 = Config.lineTimeMax ∧ s.clock.overrun = false) →
        u.clock.owedOverrun = s.clock.owedOverrun ∧ u.lli = s.lli)) ∧
    (s.clock.time = Config.lineTimeMax → exec .lineTimeAdvance s = .next s)

/-- EXPIRY_DUE and REFERRAL_DUE (R47, R93, R95, R160): an entry whose due time is at or below line time, or that had become due
before a backward setting, gets its due mark; a referral's slot joins the tail of the ready list unless it is there. That an
EXPIRY_DUE marks the first such entry in queue order is the model's (DESIGN CHOICE, log 6). Frame: nothing else changes. -/
def Obligations.DeadlinesMarked : Prop :=
  (∀ (s : State) (before after : List ExpiryEntry) (e : ExpiryEntry), s.expiry = before ++ e :: after →
    (∀ x ∈ before, x.due = true ∨ (x.fallenDue = false ∧ s.clock.time < x.dueTime)) → e.due = false →
    e.dueTime ≤ s.clock.time ∨ e.fallenDue = true →
    exec .expiryDue s = .next { s with expiry := before ++ { e with due := true } :: after }) ∧
  (∀ s : State, (∀ x ∈ s.expiry, x.due = true ∨ (x.fallenDue = false ∧ s.clock.time < x.dueTime)) →
    exec .expiryDue s = .next s) ∧
  ∀ (i : Fin 256) (s : State), (s.rt.entry i).state = .awaiting → (s.rt.entry i).due = false →
    ((s.rt.entry i).dueTime ≤ s.clock.time ∨ (s.rt.entry i).fallenDue = true →
      exec (.referralDue i) s = .next { s with rt :=
        { entries := s.rt.entries.set i { s.rt.entry i with due := true }
          freeList := s.rt.freeList
          ready := if i ∈ s.rt.ready then s.rt.ready else s.rt.ready ++ [i] } }) ∧
    (s.clock.time < (s.rt.entry i).dueTime → (s.rt.entry i).fallenDue = false → exec (.referralDue i) s = .next s)

/-- SET_TIME (R45, R46, R47): refused above 129,599; otherwise line time becomes t, the overrun flag is clear below 129,599 and
set at it, every deadline at or below t becomes due, none is taken back, and an arrival at 129,599 with the flag clear makes a
DAY_OVERRUN, placed before the REPLY DONE or, where the urgent queue has no second place, owed. Frame: as the equations say: the
service day and everything but clock, deadlines and line link is unchanged. -/
def Obligations.SetTimeTaken : Prop :=
  ∀ (s : State) (f : DownFrame) (rest : List DownFrame) (args : List Byte), s.Takes f rest → f.IsCommand .setTime args →
    let t := beNat args
    (Config.lineTimeMax < t → exec .setTime s = .next (s.answered f rest .badArgument)) ∧
    (t < Config.lineTimeMax ∨ (t = Config.lineTimeMax ∧ s.clock.overrun = true) →
      exec .setTime s = .next (State.answered f rest .done { s with
        clock := { s.clock with time := t, overrun := s.clock.overrun && decide (t = Config.lineTimeMax) }
        ports := s.ports.map (Port.compareDeadlines t)
        expiry := s.expiry.map (ExpiryEntry.compareDeadline t)
        rt := { s.rt with entries := s.rt.entries.map (RefEntry.compareDeadline t) } })) ∧
    (t = Config.lineTimeMax → s.clock.overrun = false →
      let w : State := { s with
        clock := { s.clock with time := t, overrun := true }
        ports := s.ports.map (Port.compareDeadlines t)
        expiry := s.expiry.map (ExpiryEntry.compareDeadline t)
        rt := { s.rt with entries := s.rt.entries.map (RefEntry.compareDeadline t) } }
      (s.lli.urgentUsed + 1 < Config.urgentPlaces → exec .setTime s = .next (State.answered f rest .done { w with
        lli := { s.lli with urgent := s.lli.urgent ++ [.dayOverrun s.clock.day t] } })) ∧
      (s.lli.urgentUsed + 1 = Config.urgentPlaces → exec .setTime s = .next (State.answered f rest .done { w with
        clock := { w.clock with owedOverrun := true } })))

/-! ## The line link -/

/-- (The place of the type field and the check sequence: PRESUMED, log 8; the frame in transmission: DEDUCED, log 14; the moment
that fixes its destination: DEDUCED, log 43.)
LINE_FRAME_RECEIVED, LINE_CARRIER_LOSS, LINE_CARRIER_RETURN, UPSTREAM_FRAME_SENT (R178, R182): a frame of another Ethernet
type is counted foreign, one whose check sequence fails bad, one of no downstream kind unexpected, one that finds 16 frames an
overrun, any other joins the receive list and names the server address; a loss stops the transmitter and keeps both queues; a
return resumes from the urgent head; a frame sent leaves its queue, urgent before bulk next. A frame begun goes to the server
address as it then stands, or to the broadcast address; one cut short by a loss goes again to the destination it had, and where it
is the first to resume, the return puts the bytes that the loss interrupted on the wire again (R192). The count of freed places is
the model's (DESIGN CHOICE, log 17). Frame: as the equations say. -/
def Obligations.LineLinkEvents : Prop :=
  (∀ (b : List Byte) (s : State), s.lli.carrier = true →
    (14 ≤ b.length → beNat ((b.drop 12).take 2) ≠ 0x9A44 →
      exec (.lineFrameReceived b) s = .next (s.bump .foreignFrames)) ∧
    (23 ≤ b.length → beNat ((b.drop 12).take 2) = 0x9A44 → b.drop (b.length - 4) ≠ fcsBytes (b.take (b.length - 4)) →
      exec (.lineFrameReceived b) s = .next (s.bump .lineBadFrames)) ∧
    (classifyLine b = .unexpected → exec (.lineFrameReceived b) s = .next (s.bump .lineUnexpectedFrames)) ∧
    (∀ (source : BitVec 48) (f : DownFrame), classifyLine b = .good source f →
      (s.lli.receive.length < 16 → exec (.lineFrameReceived b) s =
        .next { s with lli := { s.lli with receive := s.lli.receive ++ [f], server := some source } }) ∧
      (16 ≤ s.lli.receive.length → exec (.lineFrameReceived b) s = .next (s.bump .receiveOverruns)))) ∧
  (∀ s : State, s.lli.carrier = true → exec .lineCarrierLoss s =
    .next ({ s with lli := { s.lli with carrier := false, transmitting := none } }.bump .carrierLosses)) ∧
  (∀ s : State, s.lli.carrier = false → s.lli.transmitting = none → exec .lineCarrierReturn s =
    .next { s with lli := { s.lli with
      carrier := true
      transmitting := if s.lli.urgent ≠ [] then some .urgent else if s.lli.bulk ≠ [] then some .bulk else none
      urgentTo := if s.lli.urgent ≠ [] then some (s.lli.urgentTo.getD s.lli.destination) else s.lli.urgentTo
      bulkTo := if s.lli.urgent = [] ∧ s.lli.bulk ≠ [] then some (s.lli.bulkTo.getD s.lli.destination) else s.lli.bulkTo } }) ∧
  (∀ (s : State) (bytes : List Byte), s.lli.carrier = true → s.lli.wire = some bytes →
    s.lli.transmitting = some .urgent ∨ s.lli.urgent = [] →
    ∃ u v, exec .lineCarrierLoss s = .next u ∧ exec .lineCarrierReturn u = .next v ∧ u.lli.wire = none ∧
      v.lli.wire = some bytes) ∧
  ∀ s : State, s.lli.carrier = true →
    (∀ (f : UpFrame) (rest : List UpFrame), s.lli.transmitting = some .urgent → s.lli.urgent = f :: rest →
      exec .upstreamFrameSent s = .next { s with lli := { s.lli with
        urgent := rest
        owedOffers := if s.lli.owed = [] then 0 else s.lli.owedOffers + 1
        transmitting := if rest ≠ [] then some .urgent else if s.lli.bulk ≠ [] then some .bulk else none
        urgentTo := if rest ≠ [] then some s.lli.destination else none
        bulkTo := if rest = [] ∧ s.lli.bulk ≠ [] then some (s.lli.bulkTo.getD s.lli.destination) else s.lli.bulkTo } }) ∧
    (∀ (f : UpFrame) (rest : List UpFrame), s.lli.transmitting = some .bulk → s.lli.bulk = f :: rest →
      exec .upstreamFrameSent s = .next { s with lli := { s.lli with
        bulk := rest
        owedOffers := if s.lli.owed = [] then 0 else s.lli.owedOffers + 1
        transmitting := if s.lli.urgent ≠ [] then some .urgent else if rest ≠ [] then some .bulk else none
        urgentTo := if s.lli.urgent ≠ [] then some (s.lli.urgentTo.getD s.lli.destination) else s.lli.urgentTo
        bulkTo := if s.lli.urgent = [] ∧ rest ≠ [] then some s.lli.destination else none } })

/-- VIEW (R186 to R189): a selector with its arguments becomes the selected view and is answered DONE with its contents, or
NOT_FOUND for an absent CARD; no selector answers the selected view again; anything else is refused and selects nothing.
Frame: nothing but the receive list, the selected view and the urgent queue changes. -/
def Obligations.ViewAnswered : Prop :=
  ∀ (s : State) (f : DownFrame) (rest : List DownFrame), s.Takes f rest → f.kind = .view →
    (∀ v : ViewSel, viewAskOf f.body = .select v →
      let u := { s with lli := { s.lli with selected := v } }
      exec .view s = .next (match { u with lli := { u.lli with receive := rest } }.viewContents v with
        | some c => u.answeredFull f rest .done none (some c)
        | none => u.answered f rest .notFound)) ∧
    (f.body = [0] → exec .view s =
      .next (match { s with lli := { s.lli with receive := rest } }.viewContents s.lli.selected with
        | some c => s.answeredFull f rest .done none (some c)
        | none => s.answered f rest .notFound)) ∧
    (viewAskOf f.body = .refused → exec .view s = .next (s.answered f rest .badArgument)) ∧
    (f.body = [1] → ∃ u, exec .view s = .next u ∧ u.lli.selected = .identity ∧
      u.lli.urgent = s.lli.urgent ++ [.reply f.request .view .done none
        (some (.identity 3862 4408 Config.siliconRevision Config.stationAddress))]) ∧
    (∀ b : Byte, f.body = [3, b] → 8 ≤ b.toNat → exec .view s = .next (s.answered f rest .badArgument)) ∧
    (∀ (c : List Byte), c.length = 10 → f.body = 4 :: c →
      s.jt.lookup (BitVec.ofNat 64 (beNat (c.take 8))) (BitVec.ofNat 16 (beNat (c.drop 8))) = none →
      ∃ u, exec .view s = .next u ∧ u.lli.urgent = s.lli.urgent ++ [.reply f.request .view .notFound none none]) ∧
    (∀ b : Byte, 7 ≤ b.toNat → f.body.head? = some b → exec .view s = .next (s.answered f rest .badArgument))

/-- SET_DISPOSITION, CAPTURE_COUNTERS and a COMMAND of no known form (R141, R179, R183, R193): the whole mask replaced, or
refused for a bit above 8; every counter copied with line time and day, and zeroed with clear yes; the unknown refused without
reaching any block. Frame: as the equations say. -/
def Obligations.LineLinkCommands : Prop :=
  ∀ (s : State) (f : DownFrame) (rest : List DownFrame) (args : List Byte), s.Takes f rest →
    (f.IsCommand .setDisposition args →
      (beNat args < 512 → exec .setDisposition s = .next (State.answered f rest .done
        { s with lli := { s.lli with disposition := BitVec.ofNat 9 (beNat args) } })) ∧
      (512 ≤ beNat args → exec .setDisposition s = .next (s.answered f rest .badArgument))) ∧
    (f.IsCommand .captureCounters args →
      (beNat args = 0 → exec .captureCounters s = .next (State.answered f rest .done
        { s with lli := { s.lli with snapshot := ⟨s.counters, s.clock.time, s.clock.day⟩ } })) ∧
      (beNat args = 1 → exec .captureCounters s = .next (State.answered f rest .done
        { s with lli := { s.lli with snapshot := ⟨s.counters, s.clock.time, s.clock.day⟩ }
                 counters := Vector.replicate 117 0 })) ∧
      (2 ≤ beNat args → exec .captureCounters s = .next (s.answered f rest .badArgument))) ∧
    (f.kind = .command → f.body.head? = some 0 ∨ (∃ b : Byte, f.body.head? = some b ∧ 12 < b.toNat) ∨
        (∃ c : CommandCode, ∃ a : List Byte, f.body = c.code :: a ∧ a.length ≠ c.argLength) →
      exec .unknownCommand s = .next (s.answered f rest .badArgument))

/-- Owed notices (R39, R45, R174, R181): with a free urgent place an owed DAY_OVERRUN and an owed ROLL_DONE take it; of the owed
port notices the first that is latched, unmasked and has a place in its queue is placed, with the attention set as it stands,
and those before it that are no longer latched are gone. An owed DAY_OVERRUN carries the day and time of its placing: the
model's choice (DESIGN CHOICE, log 15); that a port notice is placed only while a freed place is still to be examined for, counted
by `owedOffers`, is the model's choice too (DESIGN CHOICE, log 17). -/
def Obligations.OwedNoticesPlaced : Prop :=
  (∀ s : State, s.clock.owedOverrun = true → s.lli.urgentHasPlace = true → exec .owedDayOverrun s =
    .next { s with
      clock := { s.clock with owedOverrun := false }
      lli := LineLink.startSending { s.lli with
        urgent := s.lli.urgent ++ [.dayOverrun s.clock.day s.clock.time] } }) ∧
  (∀ (s : State) (d : RollDone), s.roll.owedDone = some d → s.lli.urgentHasPlace = true → exec .owedRollDone s =
    .next { s with
      roll := { s.roll with owedDone := none }
      lli := LineLink.startSending { s.lli with urgent := s.lli.urgent ++ [.rollDone d] } }) ∧
  ∀ (s : State) (before after : List OwedNotice) (o : OwedNotice), s.lli.owed = before ++ o :: after →
    0 < s.lli.owedOffers → (∀ x ∈ before, s.owedReady x = false) →
    (s.port o.port).attention.has o.kind = true → (s.port o.port).mask.has o.kind = false →
    s.lli.hasPlaceFor (s.port o.port).cls = true →
    ∃ u, exec .owedPortNotice s = .next u ∧ State.AgreeOutside [.lli] s u ∧
      u.lli.owed = before.filter (fun x => (s.port x.port).attention.has x.kind) ++ after ∧
      ((s.port o.port).cls = .urgent → u.lli.bulk = s.lli.bulk ∧
        u.lli.urgent = s.lli.urgent ++ [.portNotice o.port o.kind o.detail (s.port o.port).attention]) ∧
      ((s.port o.port).cls = .routine → u.lli.urgent = s.lli.urgent ∧
        u.lli.bulk = s.lli.bulk ++ [.portNotice o.port o.kind o.detail (s.port o.port).attention])

/-! ## Tables -/

/-- LOAD (R11, R12, R13, R191 of its lengths): the first case that applies; a written LOAD writes its row bodies in order into
the pending bank alone, wrapping at the last row: each field that the mask names takes the value that stands at its place in the
row body, every other field is kept (field 6 of PRODUCTS as a whole: R9). Frame: nothing but the pending bank, the receive list and
the urgent queue changes. -/
def Obligations.LoadDecided : Prop :=
  (∀ (s : State) (f : DownFrame) (rest : List DownFrame), s.Takes f rest → f.kind = .load →
    let a := loadArgsOf f.body
    (6 ≤ a.tableCode → exec .load s = .next (s.answered f rest .badArgument)) ∧
    ∀ t : TableId, a.tableCode = t.code →
      let bad := a.bodyCount < 1 ∨ 4 < a.bodyCount ∨ a.bodies.length ≠ a.bodyCount * t.rowSize ∨
        (∃ n, t.fields ≤ n ∧ a.mask.testBit n = true) ∨ t.rows ≤ a.baseRow
      (bad → exec .load s = .next (s.answered f rest .badArgument)) ∧
      (¬bad → a.mask = 0 → exec .load s = .next (s.answered f rest .done)) ∧
      (¬bad → a.mask ≠ 0 → s.tables.armed = true → exec .load s = .next (s.answered f rest .bankArmed)) ∧
      (¬bad → a.mask ≠ 0 → s.tables.armed = false → s.tables.copying = true →
        exec .load s = .next (s.answered f rest .busy)) ∧
      (¬bad → a.mask ≠ 0 → s.tables.armed = false → s.tables.copying = false →
        exec .load s = .next (State.answered f rest .done { s with tables := { s.tables with
          prep := (List.range a.bodyCount).foldl
            (fun b i => b.writeMasked t a.mask ((a.baseRow + i) % t.rows) (a.row t i)) s.tables.prep } }))) ∧
  (∀ (b : Bank) (t : TableId) (mask i : Nat) (old : TableRow) (a : LoadArgs) (n : Nat), b.row t i = some old →
    (∃ r, (b.writeMasked t mask i (a.row t n)).row t i = some r ∧ r = mergeRow mask old (a.row t n) ∧
      ∀ k, k < t.fields → r.field k = if mask.testBit k then (a.row t n).field k else old.field k) ∧
    ∀ (v : TableId) (j : Nat), (v, j) ≠ (t, i) → (b.writeMasked t mask i (a.row t n)).row v j = b.row v j) ∧
  ∀ (t : TableId) (a : LoadArgs) (n : Nat),
    let body := (a.bodies.drop (n * t.rowSize)).take t.rowSize
    let places : List (List (Nat × Nat)) := match t with
      | .line => [[(0, 1)], [(1, 1)], [(2, 2)], [(4, 1)], [(5, 4)], [(9, 4)], [(13, 2)], [(15, 2)], [(17, 2)], [(19, 2)]]
      | .stations => [[(0, 1)], [(1, 1)], [(2, 4)], [(6, 1)], [(7, 2)]]
      | .bands => [[(0, 2)], [(2, 2)], [(4, 1)]]
      | .timebands => [[(0, 4)], [(4, 2)]]
      | .products => [[(0, 1)], [(1, 2)], [(3, 2)], [(5, 2)], [(7, 2)], [(9, 1)], [(10, 1), (11, 1), (12, 1), (13, 1), (14, 1)]]
      | .concessions => [[(0, 2)]]
    places.length = t.fields ∧ (places.flatten.map Prod.snd).sum = t.rowSize ∧
    ∀ k, (a.row t n).field k = (places[k]?.getD []).map fun x => beNat ((body.drop x.1).take x.2)

/-- ARM (R18): the first case that applies; armed, the armed generation is the named one. Validation (R19, R20): it finds a row that
fails, the first by table in the order LINE, STATIONS, BANDS, TIMEBANDS, PRODUCTS, CONCESSIONS and within the table by row, and none
exactly where no row fails. Frame: nothing but the armed generation, the receive list and the urgent queue changes. -/
def Obligations.ArmDecided : Prop :=
  (∀ b : Bank, (b.validate = none ↔ ∀ (t : TableId) (i : Nat), ¬b.Fails t i) ∧
    ∀ (t : TableId) (i : Nat), b.validate = some (t, i) ↔
      b.Fails t i ∧ (∀ j, j < i → ¬b.Fails t j) ∧ ∀ (v : TableId) (j : Nat), v.code < t.code → ¬b.Fails v j) ∧
  ∀ (s : State) (f : DownFrame) (rest : List DownFrame) (args : List Byte), s.Takes f rest → f.IsCommand .arm args →
    (s.roll.state = .rolling → exec .arm s = .next (s.answered f rest .badState)) ∧
    (s.roll.state ≠ .rolling → s.tables.copying = true → exec .arm s = .next (s.answered f rest .busy)) ∧
    (s.roll.state ≠ .rolling → s.tables.copying = false → s.tables.armed = true →
      exec .arm s = .next (s.answered f rest .bankArmed)) ∧
    (s.roll.state ≠ .rolling → s.tables.copying = false → s.tables.armed = false →
      (beNat args ≠ s.tables.prep.line.generation → exec .arm s = .next (s.answered f rest .badArgument)) ∧
      (∀ x, beNat args = s.tables.prep.line.generation → s.tables.prep.validate = some x →
        exec .arm s = .next (s.answeredFull f rest .tableInvalid (some x) none)) ∧
      (beNat args = s.tables.prep.line.generation → s.tables.prep.validate = none →
        exec .arm s = .next (State.answered f rest .done
          { s with tables := { s.tables with armedGen := some (beNat args) } })))

/-- DISARM, R21 whole: refused BAD_STATE while ROLLING; otherwise the armed mark is cleared and the armed generation is none,
and nothing changes where the pending bank is not armed; no value of a bank changes. -/
def Obligations.DisarmDecided : Prop :=
  ∀ (s : State) (f : DownFrame) (rest : List DownFrame), s.Takes f rest → f.IsCommand .disarm [] →
    (s.roll.state = .rolling → exec .disarm s = .next (s.answered f rest .badState)) ∧
    (s.roll.state ≠ .rolling → exec .disarm s = .next (State.answered f rest .done
      { s with tables := { s.tables with armedGen := none } })) ∧
    (s.roll.state ≠ .rolling → s.tables.armed = false → exec .disarm s = .next (s.answered f rest .done))

/-- COPY_ACTIVE, COPY_ROW and COPY_COMPLETE (R15, R16, R17, R180): a copy starts at row 0 of LINE holding its REPLY's place; each
step copies the row at the position whole and moves on; past the last row the copy ends, and its REPLY DONE stands in the held
place. Every step keeps the law of a copy: the rows before the position hold the active bank's values; so that at the end the
pending bank equals the active bank and is unarmed. Frame: as the equations say. -/
def Obligations.CopyRuns : Prop :=
  (∀ (s : State) (f : DownFrame) (rest : List DownFrame), s.Takes f rest → f.IsCommand .copyActive [] →
    (s.tables.armed = true → exec .copyActive s = .next (s.answered f rest .bankArmed)) ∧
    (s.tables.armed = false → s.tables.copying = true → exec .copyActive s = .next (s.answered f rest .busy)) ∧
    (s.tables.armed = false → s.tables.copying = false → exec .copyActive s = .next { s with
      tables := { s.tables with copyPos := some 0 }
      lli := { s.lli with receive := rest, copyReserve := some f.request } })) ∧
  (∀ (s : State) (pos : Nat), s.tables.copyPos = some pos → pos < 361 → ∃ (t : TableId) (i : Nat) (r : TableRow) (u : State),
    copyRowAt pos = some (t, i) ∧ s.tables.active.row t i = some r ∧ exec .copyRow s = .next u ∧
    State.AgreeOutside [.tables] s u ∧ u.tables = { s.tables with prep := u.tables.prep, copyPos := some (pos + 1) } ∧
    u.tables.prep.row t i = some r ∧
    ∀ (v : TableId) (j : Nat), (v, j) ≠ (t, i) → u.tables.prep.row v j = s.tables.prep.row v j) ∧
  (∀ (s : State) (request : BitVec 16), s.tables.copyPos = some 361 → s.lli.copyReserve = some request →
    exec .copyComplete s = .next { s with
      tables := { s.tables with copyPos := none }
      lli := LineLink.startSending { s.lli with
        copyReserve := none
        urgent := s.lli.urgent ++ [.reply request (.command 9) .done none none] } }) ∧
  (∀ (c : Instr) (s u : State), s.tables.CopyLaw → exec c s = .next u → u.tables.CopyLaw) ∧
  ∀ s : State, s.tables.CopyLaw → s.tables.copyPos = some 361 → ∃ u, exec .copyComplete s = .next u ∧
    u.tables.copyPos = none ∧ u.tables.active = s.tables.active ∧ u.tables.prep = u.tables.active ∧ u.tables.armed = false

/-! ## Port commands -/

/-- PORT_ATTACH (R27, R47): the first case that applies; taken, the credit limit and the deadline are set, the run is 0 and an
ATTACH_REQ with the stations of the active bank is placed, behind every frame not yet sent (DESIGN CHOICE, log 39); begun while line
time is held at 129,599 it fails with cause TIMEOUT as it begins. Frame: nothing but this port and the line link changes. -/
def Obligations.PortAttachDecided : Prop :=
  ∀ (s : State) (f : DownFrame) (rest : List DownFrame) (b limit : Byte), s.Takes f rest →
    f.IsCommand .portAttach [b, limit] →
    (8 ≤ b.toNat ∨ limit.toNat < 4 ∨ 64 < limit.toNat → exec .portAttach s = .next (s.answered f rest .badArgument)) ∧
    ∀ p : PortId, b.toNat = p.val → 4 ≤ limit.toNat → limit.toNat ≤ 64 →
      ((s.port p).st = .attaching ∨ (s.port p).st = .detaching → exec .portAttach s = .next (s.answered f rest .busy)) ∧
      ((s.port p).st = .idle ∨ (s.port p).st = .attached → exec .portAttach s = .next (s.answered f rest .badState)) ∧
      ((s.port p).st = .present ∨ (s.port p).st = .faulted →
        let q := { s.port p with
          creditLimit := limit.toNat, badRun := 0, attachFallenDue := false
          transmit := (s.port p).transmit ++ [GateFrame.attachReq p limit.toNat 10 (s.tables.stationList p)] }
        (s.clock.time < Config.lineTimeMax → exec .portAttach s = .next (State.answered f rest .done
          (s.setPort p { q with
            st := .attaching, attachDeadline := some (min Config.lineTimeMax (s.clock.time + 5)) }))) ∧
        (s.clock.time = Config.lineTimeMax → exec .portAttach s = .next
          ((((s.taking rest).setPort p { q with st := .faulted, attachDeadline := none }).raise p .attachFailed
            (.cause .timeout)).reply f .done)))

/-- PORT_DETACH (R36): the first case that applies; taken, the port is DETACHING with its window closed by a CREDIT at last
taken, and with nothing outstanding it completes at once: a DETACH frame behind every frame not yet sent
(DESIGN CHOICE, log 39), PRESENT, DETACH_DONE. Frame: nothing but this port,
the sweep's pause and the line link changes. -/
def Obligations.PortDetachDecided : Prop :=
  ∀ (s : State) (f : DownFrame) (rest : List DownFrame) (b : Byte), s.Takes f rest → f.IsCommand .portDetach [b] →
    (8 ≤ b.toNat → exec .portDetach s = .next (s.answered f rest .badArgument)) ∧
    ∀ p : PortId, b.toNat = p.val →
      let q := s.port p
      let closed := q.transmit.filter (fun x => !x.isCredit) ++ [.credit q.lastTaken]
      (¬(q.st = .attached ∧ q.carrier = true) → exec .portDetach s = .next (s.answered f rest .badState)) ∧
      (q.st = .attached → q.carrier = true → 0 < q.outstanding → exec .portDetach s = .next (State.answered f rest .done
        (s.setPort p { q with st := .detaching, transmit := closed, advertised := q.lastTaken }))) ∧
      (q.st = .attached → q.carrier = true → q.outstanding = 0 → ∃ u, exec .portDetach s = .next u ∧
        State.AgreeOutside [.ports, .roll, .lli] s u ∧ s.OtherPortsKept p u ∧
        u.roll = { s.roll with paused := u.roll.paused } ∧
        u.lli = (((s.taking rest).raise p .detachDone .nothing).reply f .done).lli ∧
        u.port p = { q with
          st := .present, transmit := closed ++ [.detach p], advertised := q.lastTaken
          tracker := { q.tracker with settled := false, deadline := none, fallenDue := false }
          attention := q.attention ||| AttnKind.detachDone.only })

/-- SET_PORT_OPTIONS and CLEAR_ATTENTION (R40, R41): refused for a port, code or kind out of range; options replaced together,
an ATTACHED port with carrier lost released where auto-detach is turned on; kinds unlatched with their owed entries. The count of
freed places of an emptied owed list is the model's (DESIGN CHOICE, log 17). Frame: as the equations say. -/
def Obligations.PortOptionsAndAttention : Prop :=
  (∀ (s : State) (f : DownFrame) (rest : List DownFrame) (b a h l c : Byte), s.Takes f rest →
    f.IsCommand .setPortOptions [b, a, h, l, c] →
    (8 ≤ b.toNat ∨ 2 ≤ a.toNat ∨ h ≠ 0 ∨ 2 ≤ c.toNat → exec .setPortOptions s = .next (s.answered f rest .badArgument)) ∧
    ∀ (p : PortId) (auto : Bool) (cls : AttnClass), b.toNat = p.val → a = (if auto then 1 else 0) → h = 0 →
      c = (if cls = .urgent then 1 else 0) →
      let q := { s.port p with autoDetach := auto, mask := l, cls := cls }
      (¬(auto = true ∧ q.st = .attached ∧ q.carrier = false) →
        exec .setPortOptions s = .next (State.answered f rest .done (s.setPort p q))) ∧
      (auto = true → q.st = .attached → q.carrier = false → ∃ u, exec .setPortOptions s = .next u ∧
        State.AgreeOutside [.ports, .pool, .roll, .lli] s u ∧ s.OtherPortsKept p u ∧
        u.lli = (s.answered f rest .done).lli ∧ u.roll = { s.roll with paused := u.roll.paused } ∧
        u.pool = { s.pool with releasedTaps := s.pool.releasedTaps + q.outstanding } ∧
        u.port p = { q with
          st := .idle, attachment := q.attachment + 1, outstanding := 0, transmit := [], tracker := q.tracker.stop })) ∧
  ∀ (s : State) (f : DownFrame) (rest : List DownFrame) (b h l : Byte), s.Takes f rest →
    f.IsCommand .clearAttention [b, h, l] →
    (8 ≤ b.toNat ∨ h ≠ 0 → exec .clearAttention s = .next (s.answered f rest .badArgument)) ∧
    ∀ p : PortId, b.toNat = p.val → h = 0 → ∃ u, exec .clearAttention s = .next u ∧
      State.AgreeOutside [.ports, .lli] s u ∧ s.OtherPortsKept p u ∧
      u.port p = { s.port p with attention := (s.port p).attention &&& ~~~l } ∧
      let owed := s.lli.owed.filter fun o => !(o.port == p && l.getLsbD o.kind.bitNo)
      u.lli = (State.answered f rest .done { s with lli := { s.lli with
        owed := owed, owedOffers := if owed = [] then 0 else s.lli.owedOffers } }).lli

/-! ## Reckoning and disposition, by stage -/

/-- S0, S3 to S6 and the disposition. S0 (R117, R119): a kind is FILLED with the first slot in order that the tap's list fills, else
EXPECTED_ABSENT, or NOT_EXPECTED. The band row is the first in use that covers the units, the last in use where none does; the band
fare is 10 × base + rate × the units above the row before (R124); the time factor is that of the last row in use that has started
(R127); the concession factor that of the resolved class, or the default (R120, R128). S3 to S6 of a journey with units, whole: the
band fare, for FLAT 10 × the flat amount (R125), times 1 + companions (R126), times both factors, rounded by the mode of LINE (R129)
and held to the ceiling (R130), with the conditions raised. A journey is diverted for a REFERRED product, else for its triggering
condition of highest priority, else charged (R143, R144). -/
def Obligations.FareStageRules : Prop :=
  (∀ (b : Bank) (units : Nat), 1 ≤ b.line.bandCount → b.line.bandCount ≤ 16 →
    let i := b.bandRowFor units
    i < b.line.bandCount ∧
    ((units ≤ b.upper i ∧ ∀ k, k < i → b.upper k < units) ∨
      (i + 1 = b.line.bandCount ∧ ∀ k, k < b.line.bandCount → b.upper k < units)) ∧
    (∀ r, b.bands[i]? = some r →
      b.bandFare i units = 10 * r.base + r.rate * (units - if i = 0 then 0 else b.upper (i - 1)))) ∧
  (∀ (b : Bank) (time : Nat), 1 ≤ b.line.timeBandCount → b.line.timeBandCount ≤ 8 → b.bandStart 0 = 0 →
    ∃ i, i < b.line.timeBandCount ∧ b.timeFactor time = b.bandFactor i ∧ b.bandStart i ≤ time ∧
      ∀ k, i < k → k < b.line.timeBandCount → time < b.bandStart k) ∧
  (∀ (expected : List Nat) (attrs : List Attr) (k : AttrKind),
    let fills := fun (i v : Nat) => expected[i]? = some k.code ∧ attrs[i]? = some ⟨k, v⟩ ∧
      (k = .concession → v ≤ 15) ∧ (k = .companions → v ≤ 7)
    (k.code ∉ expected → resolve expected attrs k = .notExpected) ∧
    (∀ i v, fills i v → (∀ x w, x < i → ¬fills x w) → resolve expected attrs k = .filled v) ∧
    (k.code ∈ expected → (∀ i v, ¬fills i v) → resolve expected attrs k = .expectedAbsent)) ∧
  (∀ (b : Bank) (k : AttrKind), resolveHalf b none k = .notExpected ∧
    ∀ h : Half, resolveHalf b (some h) k = resolve (b.product h.product).expected h.attrs k) ∧
  (∀ (b : Bank) (row : ProductRow), b.concessionFactor row .notExpected = row.defaultFactor ∧
    b.concessionFactor row .expectedAbsent = row.defaultFactor ∧
    ∀ (c : Nat) (r : ConcessionRow), b.concessions[c]? = some r → b.concessionFactor row (.filled c) = r.factor) ∧
  (∀ j : Journey, (∀ h, j.origin = some h ∨ (j.origin = none ∧ j.dest = some h) →
    j.fareHalf = some h ∧ j.product = h.product ∧ j.time = h.time)) ∧
  (∀ (b : Bank) (row : ProductRow) (j : Journey) (units : Nat),
    let con := resolveHalf b j.fareHalf .concession
    let com := resolveHalf b j.fareHalf .companions
    let companions := match com with | .filled v => v | _ => 0
    let group := (if row.kind = 2 then 10 * row.flat else b.bandFare (b.bandRowFor units) units) * (1 + companions)
    let n := group * b.timeFactor j.time * b.concessionFactor row con
    let rounded := roundFare b.line.rounding n
    let k := b.fareStages row j units
    k.bandRow = (if row.kind = 2 then none else some (b.bandRowFor units)) ∧ k.groupFare = some group ∧
    k.companions = companions ∧ k.concessionClass = (match con with | .filled c => some c | _ => none) ∧
    k.timeFactor = some (b.timeFactor j.time) ∧ k.concessionFactor = some (b.concessionFactor row con) ∧
    k.fare = some (if b.line.ceiling < rounded then b.line.ceiling else rounded) ∧
    ∀ c, k.conds.has c = true ↔
      (c = .attributeAbsent ∧ (con = .expectedAbsent ∨ com = .expectedAbsent)) ∨ (c = .fareOverflow ∧ b.line.ceiling < rounded) ∨
      (c = .inexact ∧ n % 10000000 ≠ 0) ∨ (c = .zeroRounded ∧ 0 < n ∧ rounded = 0)) ∧
  ∀ (row : ProductRow) (mask own : CondSet),
    let trigger := fun c : Condition => own.has c = true ∧
      (mask.has c = true ∨ c = .stationUnknown ∨ (c = .originUnknown ∧ row.policy = 1))
    (row.kind = 0 ∨ row.kind = 3 → divertReason row mask own = some .referredProduct) ∧
    (row.kind = 1 ∨ row.kind = 2 →
      ((∀ c, ¬trigger c) → divertReason row mask own = none) ∧
      ∀ c, trigger c → (∀ x, x.bitNo < c.bitNo → ¬trigger x) → divertReason row mask own = some (.condition c))

/-! ## Pairing -/

/-- The Pairing Unit works on one item at a time and tries its sources in turn (R76, R77); a waiting TAP_NOTICE takes a bulk
place (R81) and a held work entry a freed slot (R106), and with it the step ends; without a place or a slot it goes on
waiting. That the tap of a held work entry does not end with the slot, but with the end of its pricing, is read from R34 and R110
(DEDUCED, log 27). -/
def Obligations.PairingTurns : Prop :=
  (∀ s : State, s.pu.item ≠ none →
    exec .tapStep s = .next s ∧ exec .expiryStep s = .next s ∧ exec .sweepItem s = .next s) ∧
  (∀ (s : State) (v : PuSource), s.pu.item = none → (s.nextSource = some v ↔
    s.takeable v = true ∧ ∀ x : PuSource, x ∈ s.pu.source.cycle.takeWhile (fun y => y != v) → s.takeable x = false)) ∧
  (∀ (s : State) (p : PortId), s.intakePort = some p ↔ s.intakeTakeable p = true ∧
    ∀ d e : Nat, d < e → e < 8 → p = s.pu.port + Fin.ofNat 8 e → s.intakeTakeable (s.pu.port + Fin.ofNat 8 d) = false) ∧
  (∀ (s : State) (n : TapNoticeFrame) (att : BitVec 16), s.pu.item = some (.notice n att) →
    (s.lli.bulk.length < 512 → exec .tapNotice s = .next (State.endTap n.port att { s with
      pu := { s.pu with item := none }
      lli := LineLink.startSending { s.lli with bulk := s.lli.bulk ++ [.tapNotice n] } })) ∧
    (512 ≤ s.lli.bulk.length → exec .tapNotice s = .next s)) ∧
  ∀ (s : State) (e : WorkEntry) (w : WaitingTap) (a : Option Answer),
    s.pu.item = some (.slotWait e a) → e.waiting = some w →
    (s.pool.tapInUse + s.pool.nonTapInUse < 1024 →
      (∀ g, a = some g → exec .slotWaitResume s = .next (State.handAnswer w.port w.attachment w.tapNumber g
        { s with pu := { s.pu with item := none }, pool := s.pool.join e })) ∧
      (a = none → exec .slotWaitResume s = .next { s with pu := { s.pu with item := none }, pool := s.pool.join e })) ∧
    (1024 ≤ s.pool.tapInUse + s.pool.nonTapInUse → exec .slotWaitResume s = .next s)

/-- TAP_STEP on a tap that an intake check ends (R79, R80, R81): the first check that fails names the reason; a live tap is
answered GO_PROVISIONAL; with a bulk place the TAP_NOTICE is placed and the tap ended; with the bulk queue full the Pairing Unit
holds the notice. No record changes but by a touch-first closure before check 6. -/
def Obligations.TapNoticed : Prop :=
  ∀ (s : State) (p : PortId) (t : Tap) (rest : List Tap),
    s.nextSource = some .intake → s.intakePort = some p → (s.port p).intake = t :: rest → t.port = p →
    let w := s.tapTaken p rest
    let admitted := t.hubDay = s.clock.day ∨ (s.roll.state = .rolling ∧ s.roll.oldDay = some t.hubDay)
    let served := ∃ r, s.tables.active.station t.station = some r ∧ r.servingPort = p.val
    let old := s.roll.state = .rolling ∧ s.roll.oldDay = some t.hubDay ∧ t.hubDay ≠ s.clock.day
    let ends := fun (x : State) (reason : NoticeReason) =>
      (s.lli.bulk.length < 512 → exec .tapStep s = .next (x.noticed t reason .goProvisional)) ∧
      (512 ≤ s.lli.bulk.length → exec .tapStep s = .next (x.noticeHeld t reason .goProvisional))
    (t.card = 0 → ends w .malformed) ∧
    (t.card ≠ 0 → s.roll.state = .notReady → ends w .notReady) ∧
    (t.card ≠ 0 → s.roll.state ≠ .notReady → ¬admitted → ends w .wrongDay) ∧
    (t.card ≠ 0 → s.roll.state ≠ .notReady → admitted → ¬served → ends w .stationMismatch) ∧
    (t.card ≠ 0 → served → old →
      (∃ r, s.jt.lookup t.card t.hubDay = some r ∧ r.status = .closing) ∨
        (s.jt.lookup t.card t.hubDay = none ∧ homeIndex t.card < s.roll.pos) → ends w .lateDay) ∧
    (s.intakeCheck t = none → s.touched t = none →
      (s.jt.findOrInsert t.card t.hubDay = .chainLimit → ends (w.bump .chainLimitRefusals) .tableFull) ∧
      (s.jt.findOrInsert t.card t.hubDay = .poolEmpty → ends (w.bump .poolEmptyRefusals) .tableFull))

/-- TAP_STEP on a tap-in that pairs (R82, R83, R86 to R89, R102): the pair joins the recent taps; an INVALID product is refused
and noticed; else the first case that applies: the first held tap-out at or after it, an open journey at or before it, an open
journey after it, or it opens a journey. A live tap-in is answered GO without a fare. Expiries are due from line time (DEDUCED,
log 40); a cancelled HOLD entry is the first of its name (DESIGN CHOICE, log 41). Frame: as the equations say. -/
def Obligations.TapInPairs : Prop :=
  ∀ (s : State) (p : PortId) (t : Tap) (rest : List Tap) (jt : JourneyTable) (r : Record),
    s.TapPairs p t rest jt r → t.direction = .tapIn →
    let w := { s.tapTaken p rest with jt := jt }
    let b := s.bankFor t.hubDay
    let recent := (if r.recent.length < 8 then r.recent else r.recent.tail) ++ [(t.port, t.hubSeq)]
    let valid := (b.product t.product).kind = 1 ∨ (b.product t.product).kind = 2 ∨ (b.product t.product).kind = 3
    let go := if t.live = true then some (Answer.go none) else none
    let tapIn : Half := ⟨t.station, t.time, t.port, t.product, t.attrs, t.unsettled⟩
    let opened : OpenJourney := ⟨t.station, t.time, t.port, t.tapNumber, t.product, t.unsettled, t.attrs⟩
    let work := fun (k : WorkKind) (j : Journey) => (⟨k, .l1, .tap, r.card, r.day, j,
      some ⟨t.port, t.attachment, t.tapNumber, false⟩, none, false⟩ : WorkEntry)
    let slot := s.pool.tapInUse + s.pool.nonTapInUse < 1024
    let ends := fun (v : Record) (e : WorkEntry) (queue : List ExpiryEntry) =>
      (slot → exec .tapStep s = .next ((w.withWork v e queue).answerTap t go)) ∧
      (¬slot → exec .tapStep s = .next (w.withHeldWork v e go queue))
    ((b.product t.product).kind = 0 → s.lli.bulk.length < 512 → exec .tapStep s = .next
      (State.noticed t .productInvalid .refuseProductInvalid { w with jt := jt.write { r with recent := recent } })) ∧
    ((b.product t.product).kind = 0 → 512 ≤ s.lli.bulk.length → exec .tapStep s = .next
      (State.noticeHeld t .productInvalid .refuseProductInvalid { w with jt := jt.write { r with recent := recent } })) ∧
    (valid → ∀ (before after : List HeldTap) (h : HeldTap), r.held = before ++ h :: after →
      (∀ x ∈ before, x.time < t.time ∧ (x.port, x.hubSeq) ≠ (h.port, h.hubSeq)) → t.time ≤ h.time →
      ends { r with recent := recent, held := before ++ after }
        (work .priceJourney ⟨some tapIn, some ⟨h.station, h.time, h.port, h.product, h.attrs, h.unsettled⟩, .tap⟩)
        (queueWithout r (.hold h.port h.hubSeq) s.expiry)) ∧
    (valid → (∀ x ∈ r.held, x.time < t.time) →
      (∀ o, r.openJourney = some o → o.time ≤ t.time →
        ends { r with recent := recent, openJourney := some opened }
          (work .priceIncomplete ⟨some ⟨o.station, o.time, o.port, o.product, o.attrs, o.unsettled⟩, none, .tap⟩)
          (queueWith r .journeyLimit s.clock.time b.line.journeyLimit (queueWithout r .journeyLimit s.expiry))) ∧
      (∀ o, r.openJourney = some o → t.time < o.time →
        ends { r with recent := recent } (work .priceIncomplete ⟨some tapIn, none, .tap⟩) s.expiry) ∧
      (r.openJourney = none → exec .tapStep s = .next (((
        { w with
          jt := jt.write { r with recent := recent, openJourney := some opened }
          expiry := queueWith r .journeyLimit s.clock.time b.line.journeyLimit s.expiry } : State).answerTap t go).endTap
            p t.attachment)))

/-- TAP_STEP on a tap-out that pairs, and on a duplicate (R82, R90 to R92, R102): an open journey at or before it, L0 for a live
tap-out, which waits for its fare; room in the held list, GO_PROVISIONAL; a full list, its head displaced. A duplicate is
counted and ends. Expiries are due from line time (DEDUCED, log 40); a cancelled HOLD entry is the first of its name (DESIGN CHOICE,
log 41). Frame: as the equations say. -/
def Obligations.TapOutPairs : Prop :=
  (∀ (s : State) (p : PortId) (t : Tap) (rest : List Tap) (jt : JourneyTable) (r : Record),
    s.TapPairs p t rest jt r → t.direction = .tapOut →
    let w := { s.tapTaken p rest with jt := jt }
    let b := s.bankFor t.hubDay
    let recent := (if r.recent.length < 8 then r.recent else r.recent.tail) ++ [(t.port, t.hubSeq)]
    let provisional := if t.live = true then some Answer.goProvisional else none
    let slot := s.pool.tapInUse + s.pool.nonTapInUse < 1024
    let held : HeldTap := ⟨t.station, t.time, t.port, t.hubSeq, t.product, t.unsettled, t.attrs, s.clock.time⟩
    let placed := fun l : List HeldTap =>
      l.takeWhile (fun x => decide (x.time ≤ t.time)) ++ held :: l.dropWhile (fun x => decide (x.time ≤ t.time))
    let entered := queueWith r (.hold t.port t.hubSeq) s.clock.time b.line.holdWindow
    (∀ o, r.openJourney = some o → o.time ≤ t.time →
      let e : WorkEntry := ⟨.priceJourney, if t.live = true then .l0 else .l1, .tap, r.card, r.day,
        ⟨some ⟨o.station, o.time, o.port, o.product, o.attrs, o.unsettled⟩,
          some ⟨t.station, t.time, t.port, t.product, t.attrs, t.unsettled⟩, .tap⟩,
        some ⟨t.port, t.attachment, t.tapNumber, t.live⟩, none, false⟩
      let v := { r with recent := recent, openJourney := none }
      (slot → exec .tapStep s = .next (w.withWork v e (queueWithout r .journeyLimit s.expiry))) ∧
      (¬slot → exec .tapStep s = .next (w.withHeldWork v e none (queueWithout r .journeyLimit s.expiry)))) ∧
    ((∀ o, r.openJourney = some o → t.time < o.time) →
      (r.held.length < 3 → exec .tapStep s = .next (((
        { w with
          jt := jt.write { r with recent := recent, held := placed r.held }
          expiry := entered s.expiry } : State).answerTap t provisional).endTap p t.attachment)) ∧
      ∀ (h : HeldTap) (more : List HeldTap), r.held = h :: more → 2 ≤ more.length →
        let e : WorkEntry := ⟨.priceOriginUnknown, .l1, .tap, r.card, r.day,
          ⟨none, some ⟨h.station, h.time, h.port, h.product, h.attrs, h.unsettled⟩, .none⟩,
          some ⟨t.port, t.attachment, t.tapNumber, false⟩, none, false⟩
        let v := { r with recent := recent, held := placed more }
        let queue := entered (queueWithout r (.hold h.port h.hubSeq) s.expiry)
        (slot → exec .tapStep s = .next (((w.withWork v e queue).bump .displacements).answerTap t provisional)) ∧
        (¬slot → exec .tapStep s = .next ((w.withHeldWork v e provisional queue).bump .displacements)))) ∧
  ∀ (s : State) (p : PortId) (t : Tap) (rest : List Tap) (r : Record),
    s.nextSource = some .intake → s.intakePort = some p → (s.port p).intake = t :: rest → t.port = p →
    s.intakeCheck t = none → s.touched t = none → s.jt.lookup t.card t.hubDay = some r → (t.port, t.hubSeq) ∈ r.recent →
    exec .tapStep s = .next ((((s.tapTaken p rest).bump .duplicates).answerTap t
      (if t.live = true then some .goProvisional else none)).endTap p t.attachment)

/-- EXPIRY_STEP (R95 to R98): the first entry whose due mark is set leaves the queue; its open journey or held tap-out leaves the
record as a half-journey priced at L2 in a non-tap slot, and its kind is counted. With no entry due, or no non-tap slot free,
nothing is taken. A HOLD entry takes the first held tap-out of its name (DESIGN CHOICE, log 41). Frame: as the equations say. -/
def Obligations.ExpiryTaken : Prop :=
  (∀ (s : State) (before after : List ExpiryEntry) (e : ExpiryEntry) (r : Record),
    s.nextSource = some .expiry → s.expiry = before ++ e :: after → (∀ x ∈ before, x.due = false) → e.due = true →
    s.jt.lookup e.card e.day = some r →
    let w := { s with pu := { s.pu with source := .sweep } }
    let work := fun (k : WorkKind) (j : Journey) => (⟨k, .l2, .nonTap, r.card, r.day, j, none, none, false⟩ : WorkEntry)
    (∀ o, e.kind = .journeyLimit → r.openJourney = some o → exec .expiryStep s = .next
      ((w.withWork { r with openJourney := none }
        (work .priceIncomplete ⟨some ⟨o.station, o.time, o.port, o.product, o.attrs, o.unsettled⟩, none, .tap⟩)
        (before ++ after)).bump .journeyLimitExpiries)) ∧
    ∀ (h : HeldTap) (first last : List HeldTap), e.kind = .hold h.port h.hubSeq → r.held = first ++ h :: last →
      (∀ x ∈ first, (x.port, x.hubSeq) ≠ (h.port, h.hubSeq)) → exec .expiryStep s = .next
      ((w.withWork { r with held := first ++ last }
        (work .priceOriginUnknown ⟨none, some ⟨h.station, h.time, h.port, h.product, h.attrs, h.unsettled⟩, .none⟩)
        (before ++ after)).bump .holdExpiries)) ∧
  (∀ s : State, (∀ x ∈ s.expiry, x.due = false) → exec .expiryStep s = .next s) ∧
  ∀ s : State, s.nonTapFree = 0 → exec .expiryStep s = .next s

/-! ## The roll -/

/-- ROLL_DAY (R164 to R166): the first case that applies; the immediate roll makes the armed bank active and the line READY; an
accepted roll starts the sweep of the day that was current. In both, line time is set as by SET_TIME: an arrival at 129,599 with the
overrun flag clear makes a DAY_OVERRUN, placed before the REPLY DONE or, where the urgent queue has no second place, owed. The
ROLL_DONE of the immediate roll follows the REPLY, or is owed where no place is left (R174) and where another is owed already, which
it replaces (DESIGN CHOICE, log 16). Frame: as listed. -/
def Obligations.RollDayDecided : Prop :=
  ∀ (s : State) (f : DownFrame) (rest : List DownFrame) (args : List Byte), s.Takes f rest → f.IsCommand .rollDay args →
    let day : Day := BitVec.ofNat 16 (beNat (args.take 2))
    let start := beNat (args.drop 2)
    (s.roll.state = .rolling → exec .rollDay s = .next (s.answered f rest .busy)) ∧
    (s.roll.state ≠ .rolling → Config.lineTimeMax < start → exec .rollDay s = .next (s.answered f rest .badArgument)) ∧
    (s.roll.state = .notReady → start ≤ Config.lineTimeMax → s.tables.armed = false →
      exec .rollDay s = .next (s.answered f rest .badState)) ∧
    (s.roll.state = .ready → start ≤ Config.lineTimeMax → day ≠ s.clock.day + 1 →
      exec .rollDay s = .next (s.answered f rest .badArgument)) ∧
    ((s.roll.state = .notReady ∧ s.tables.armed = true) ∨ (s.roll.state = .ready ∧ day = s.clock.day + 1) →
      start ≤ Config.lineTimeMax → ∃ u, exec .rollDay s = .next u ∧
      State.AgreeOutside [.clock, .ports, .expiry, .rt, .tables, .roll, .lli, .counters] s u ∧
      let arrives : Prop := start = Config.lineTimeMax ∧ s.clock.overrun = false
      let second : Prop := s.lli.urgentUsed + 1 < Config.urgentPlaces
      let placed : List UpFrame :=
        (if arrives ∧ second then [.dayOverrun day start] else []) ++ [.reply f.request (.command 6) .done none none]
      u.clock = { time := start, day := day, overrun := decide (start = Config.lineTimeMax)
                  owedOverrun := s.clock.owedOverrun || decide (arrives ∧ ¬second) } ∧
      u.ports = s.ports.map (Port.compareDeadlines start) ∧ u.expiry = s.expiry.map (ExpiryEntry.compareDeadline start) ∧
      u.rt = { s.rt with entries := s.rt.entries.map (RefEntry.compareDeadline start) } ∧
      (s.roll.state = .ready → u.tables = s.tables ∧ u.counters = s.counters ∧
        u.roll = { s.roll with
          state := .rolling, oldDay := some s.clock.day, pos := 0, visit := [], paused := false, closingCount := 0 } ∧
        u.lli = LineLink.startSending { s.lli with receive := rest, urgent := s.lli.urgent ++ placed }) ∧
      (s.roll.state = .notReady →
        let done : RollDone := ⟨day, s.tables.armedGen, true, start⟩
        let free : Prop := s.roll.owedDone = none ∧ s.lli.urgentUsed + placed.length < Config.urgentPlaces
        u.tables = { s.tables with
          active := s.tables.prep, prep := s.tables.active, activeValid := true, activeGen := s.tables.armedGen
          armedGen := none } ∧
        u.counters = (s.bump .rollsCompleted).counters ∧
        u.roll = { s.roll with state := .ready, owedDone := if free then none else some done } ∧
        u.lli = LineLink.startSending { s.lli with
          receive := rest, urgent := s.lli.urgent ++ placed ++ (if free then [.rollDone done] else []) }))

/-- The closure of a record (R169, R70, R94), by a sweep item or by touch-first: open journey and held tap-outs leave the record
as L3 work in order, their expiry entries are cancelled (each the first of its name: DESIGN CHOICE, log 41), the record is CLOSING,
and reported ready where nothing is pending. Frame: nothing but table, expiry queue, pool, roll and counters changes. -/
def Obligations.RecordClosure : Prop :=
  ∀ (s : State) (r : Record),
    let u := s.closeRecord r
    let entry := fun (k : WorkKind) (j : Journey) => (⟨k, .l3, .nonTap, r.card, r.day, j, none, none, false⟩ : WorkEntry)
    let es := (r.openJourney.toList.map fun o => entry .priceIncomplete
        ⟨some ⟨o.station, o.time, o.port, o.product, o.attrs, o.unsettled⟩, none, .tap⟩) ++
      r.held.map fun h => entry .priceOriginUnknown
        ⟨none, some ⟨h.station, h.time, h.port, h.product, h.attrs, h.unsettled⟩, .none⟩
    let count := min Config.pendingMax (r.pendingCount + es.length)
    State.AgreeOutside [.jt, .expiry, .pool, .roll, .counters] s u ∧
    u.jt = s.jt.write { r with status := .closing, openJourney := none, held := [], pendingCount := count } ∧
    u.expiry = r.held.foldl (fun l h => queueWithout r (.hold h.port h.hubSeq) l)
      (if r.openJourney.isSome = true then queueWithout r .journeyLimit s.expiry else s.expiry) ∧
    u.pool = { s.pool with l3 := s.pool.l3 ++ es, nonTapInUse := s.pool.nonTapInUse + es.length } ∧
    u.roll = { s.roll with
      closingCount := s.roll.closingCount + 1
      summary := if count = 0 ∧ (r.card, r.day) ∉ s.roll.summary then s.roll.summary ++ [(r.card, r.day)]
        else s.roll.summary } ∧
    (∀ c : CounterId, c ≠ .closures → c ≠ .pendingSaturations → u.counters.value c = s.counters.value c) ∧
    u.counters.value .closures = min Config.counterMax (s.counters.value .closures + 1) ∧
    (s.CountersInRange → r.pendingCount ≤ Config.pendingMax → u.counters.value .pendingSaturations =
      min Config.counterMax (s.counters.value .pendingSaturations + (r.pendingCount + es.length - count)))

/-- CHAIN_VISIT, SWEEP_ITEM and the touch-first closure (R80, R105, R167, R168): the visit of the bucket at the position names
its old-day cards in chain order; the card at the head has its ACTIVE record closed, or pauses the sweep for want of slots, or
leaves the visit where its record is CLOSING or gone; a new-day tap closes first. Frame: as the equations say. -/
def Obligations.SweepSteps : Prop :=
  (∀ (s : State) (d : Day), s.roll.state = .rolling → s.roll.oldDay = some d → s.roll.visit = [] → s.roll.pos < 65536 →
    let cards := ((s.jt.records s.roll.pos).filter fun r => decide (r.day = d)).map Record.card
    let u := { s with roll := { s.roll with visit := cards, pos := s.roll.pos + 1, paused := false } }
    (s.roll.pos + 1 < 65536 ∨ cards ≠ [] ∨ 0 < s.roll.closingCount → exec .chainVisit s = .next u) ∧
    (s.roll.pos + 1 = 65536 → cards = [] → s.roll.closingCount = 0 → exec .chainVisit s = .next u.endRoll)) ∧
  (∀ s : State, s.roll.state ≠ .rolling ∨ s.roll.visit ≠ [] ∨ 65536 ≤ s.roll.pos → exec .chainVisit s = .next s) ∧
  (∀ (s : State) (c : Card) (rest : List Card) (d : Day),
    s.nextSource = some .sweep → s.roll.visit = c :: rest → s.roll.oldDay = some d →
    let w := { s with pu := { s.pu with source := .intake } }
    (∀ r, s.jt.lookup c d = some r → r.status = .active →
      (r.openJourney.toList.length + r.held.length ≤ s.nonTapFree → exec .sweepItem s =
        .next { w.closeRecord r with roll := { (w.closeRecord r).roll with visit := rest } }) ∧
      (s.nonTapFree < r.openJourney.toList.length + r.held.length →
        exec .sweepItem s = .next { w with roll := { s.roll with paused := true } })) ∧
    ((∀ r, s.jt.lookup c d = some r → r.status = .closing) →
      (rest ≠ [] ∨ s.roll.pos ≠ 65536 ∨ 0 < s.roll.closingCount ∨ s.roll.state ≠ .rolling →
        exec .sweepItem s = .next { w with roll := { s.roll with visit := rest } }) ∧
      (rest = [] → s.roll.pos = 65536 → s.roll.closingCount = 0 → s.roll.state = .rolling →
        exec .sweepItem s = .next (State.endRoll { w with roll := { s.roll with visit := rest } })))) ∧
  ∀ (s : State) (p : PortId) (t : Tap) (rest : List Tap) (r : Record),
    s.nextSource = some .intake → s.intakePort = some p → (s.port p).intake = t :: rest → s.intakeCheck t = none →
    s.touched t = some r →
    r.openJourney.toList.length + r.held.length ≤ s.nonTapFree ∧
      exec .tapStep s = .next (((s.tapTaken p rest).closeRecord r).findAndPair t)

/-- DAY_SUMMARY and the end of a roll (R170 to R174): with a bulk place the head record, CLOSING with nothing pending, is
summarised and removed; one that is gone or has work pending only leaves the list. At the end of a roll an armed bank becomes
active, the line is READY and a ROLL_DONE is made. That a ROLL_DONE made while another is owed becomes owed even with a place
free is the model's (DESIGN CHOICE, log 16). Frame: as listed. -/
def Obligations.SummariesAndRollEnd : Prop :=
  (∀ (s : State) (c : Card) (d : Day) (rest : List (Card × Day)), s.roll.summary = (c, d) :: rest →
    (512 ≤ s.lli.bulk.length → exec .daySummary s = .next s) ∧
    (s.lli.bulk.length < 512 →
      ((∀ r, s.jt.lookup c d = some r → 0 < r.pendingCount) →
        exec .daySummary s = .next { s with roll := { s.roll with summary := rest } }) ∧
      ∀ r, s.jt.lookup c d = some r → r.status = .closing → r.pendingCount = 0 →
        let u := State.bump .daySummaries { s with
          jt := s.jt.remove c d
          roll := { s.roll with summary := rest, closingCount := s.roll.closingCount - 1 }
          lli := LineLink.startSending { s.lli with bulk := s.lli.bulk ++
            [.daySummary ⟨c, d, r.dayTotal, r.journeys, r.accrued, s.tables.activeGen, s.clock.time⟩] } }
        (s.roll.state ≠ .rolling ∨ s.roll.pos ≠ 65536 ∨ s.roll.visit ≠ [] ∨ 1 < s.roll.closingCount →
          exec .daySummary s = .next u) ∧
        (s.roll.state = .rolling → s.roll.pos = 65536 → s.roll.visit = [] → s.roll.closingCount ≤ 1 →
          exec .daySummary s = .next u.endRoll))) ∧
  ∀ s : State,
    let u := s.endRoll
    let swap := s.tables.armedGen.isSome
    let generation := if swap = true then s.tables.armedGen else s.tables.activeGen
    let done : RollDone := ⟨s.clock.day, generation, swap, s.clock.time⟩
    State.AgreeOutside [.tables, .roll, .lli, .counters] s u ∧
    (swap = true → u.tables = { s.tables with
      active := s.tables.prep, prep := s.tables.active, activeValid := true, activeGen := s.tables.armedGen
      armedGen := none }) ∧
    (swap = false → u.tables = s.tables) ∧
    u.roll = { s.roll with state := .ready, oldDay := none, owedDone := u.roll.owedDone } ∧
    u.counters = (s.bump .rollsCompleted).counters ∧
    (s.lli.urgentHasPlace = true → s.roll.owedDone = none → u.roll.owedDone = none ∧
      u.lli = LineLink.startSending { s.lli with urgent := s.lli.urgent ++ [.rollDone done] }) ∧
    (s.lli.urgentHasPlace = false ∨ s.roll.owedDone ≠ none → u.roll.owedDone = some done ∧ u.lli = s.lli)

/-! ## Grants and pricing -/

/-- The Pricing Arbiter's choice (R107, R108): the head of the highest level with work; at aging count 8 with work below the run
level, the head of the highest such level. Run level and aging count after the grant; no grant while the Fare Unit is not IDLE
or no list has work. -/
def Obligations.ArbiterChoice : Prop :=
  (∀ (w : WorkPool) (v : Level) (e : WorkEntry) (rest : List WorkEntry), w.list v = e :: rest →
    (∀ x : Level, v ∈ x.below → w.list x = []) →
    (w.aging < 8 ∨ ∀ run, w.runLevel = some run → ∀ x ∈ run.below, w.list x = []) →
    let after := w.setList v rest
    ((∀ x ∈ v.below, w.list x = []) → w.grant = some (e, false, { after with runLevel := none, aging := 0 })) ∧
    ((∃ x ∈ v.below, w.list x ≠ []) →
      (w.runLevel = some v → w.grant = some (e, false, { after with aging := w.aging + 1 })) ∧
      (w.runLevel ≠ some v → w.grant = some (e, false, { after with runLevel := some v, aging := 1 })))) ∧
  (∀ (w : WorkPool) (run v : Level) (e : WorkEntry) (rest : List WorkEntry), w.aging = 8 → w.runLevel = some run →
    v ∈ run.below → w.list v = e :: rest → (∀ x ∈ run.below, v ∈ x.below → w.list x = []) →
    w.grant = some (e, true, { w.setList v rest with runLevel := none, aging := 0 })) ∧
  (∀ s : State, (∀ v, s.pool.list v = []) → exec .grant s = .next s) ∧
  ∀ (s : State) (p : Pricing), s.fu = .pricing p ∨ s.fu = .stalled p → exec .grant s = .next s

/-- GRANT and STALL_RESUME (R109 to R111, R131, R133, R145, R151, R153, R159, R161), whole states: the outcome update of the
record, charged, diverted into the head slot of the free list, or gone; the live gate's answer; with a bulk place the upstream frame,
the waiting tap's ending, the freeing of the ticket's referral entry and the release of the slot; with the bulk queue full STALLED
with that frame still to place, and the rest of it at STALL_RESUME. A JOURNEY always reports its fare, 0 where none was reckoned
(DEDUCED, log 22); a diversion writes the pending count as read (DEDUCED, log 23). The bank that prices a day that is neither day of a
roll is the model's choice (DESIGN CHOICE, log 38), and so are the marks of a pricing whose record is gone (DEDUCED, log 46). Frame: every
other part as the equations say. -/
def Obligations.PricingCompletes : Prop :=
  (∀ (s : State) (e : WorkEntry) (isAging : Bool) (w : WorkPool), s.fu = .idle → s.pool.grant = some (e, isAging, w) →
    let g := { s with pool := w }
    let copies := g.copiesFor e
    let k := g.reckoningFor e copies
    let mask := s.lli.disposition
    let cap := appliesCap e.kind copies.answer
    let stored := match e.ticket with
      | some t => (s.rt.entry (slotOfTicket t)).conds
      | none => 0
    let place := decide (s.lli.bulk.length < 512)
    let comes := fun (a : Answer) (frame : Nat → UpFrame) (jt : JourneyTable) (rt : ReferralTable) (summary : List (Card × Day))
        (counted : CounterId → Bool) (kept : State → Prop) =>
      let v := { State.gateAnswered e a g with jt := jt, rt := rt, roll := { s.roll with summary := summary } }
      let raised := fun c : CounterId => counted c || match c with
        | .agingGrants => isAging
        | .stalls => !place
        | .port p .discardedAnswers => s.discards e p
        | _ => false
      (s.lli.bulk.length < 512 → ∃ u, exec .grant s = .next u ∧ s.Counted raised u ∧
        u = { v.pricingEnded e (frame s.clock.time) with counters := u.counters }) ∧
      (512 ≤ s.lli.bulk.length → ∃ u p, exec .grant s = .next u ∧ s.Counted raised u ∧
        u = { v with fu := .stalled p, counters := u.counters } ∧ p.entry = e ∧
        ∀ x : State, kept x → x.frameOf p = frame x.clock.time)
    let charged := fun (c : Nat) (conds : CondSet) (dayTotal : Option Nat) (unavailable : Bool) (t : Nat) =>
      UpFrame.journey (journeyOf e k c dayTotal conds unavailable t)
    (∀ r, s.jt.lookup e.card e.day = some r →
      let c := k.withCharge cap r.dayTotal
      let conds := c.conds ||| c.asideConds
      let total := min Config.dayTotalMax (r.dayTotal + c.charged)
      let v := { r with
        pendingCount := r.pendingCount - (if e.ticket.isSome = true then 2 else 1)
        dayTotal := total
        journeys := min 255 (r.journeys + 1)
        accrued := r.accrued ||| conds }
      let unavailable := e.ticket.isNone && (divertReason c.productRow mask c.conds).isSome
      (e.ticket.isSome = true ∨ divertReason c.productRow mask c.conds = none ∨ s.rt.freeList = [] →
        comes (.go (some c.charged)) (charged c.charged conds (some total) unavailable) (s.jt.write v) s.rt
          (summaryWith v s.roll.summary)
          (fun x => match x with
            | .journeyFrames => place
            | .referralUnavailable => unavailable
            | .conditions y => conds.has y && !stored.has y
            | _ => false) (fun _ => True)) ∧
      ∀ (reason : DivertReason) (slot : Fin 256) (rest : List (Fin 256)), e.ticket = none →
        divertReason c.productRow mask c.conds = some reason → s.rt.freeList = slot :: rest →
        let dueTime := min Config.lineTimeMax (s.clock.time + (s.bankFor e.day).line.referralTimeout)
        let x := referralOf e c reason ((s.rt.entry slot).useCount + 1) dueTime s.clock.time
        comes .goProvisional (fun t => .referralRequest (requestOf x slot k.authRef t)) (s.jt.write r)
          { entries := s.rt.entries.set slot x
            freeList := rest
            ready := if dueTime ≤ s.clock.time ∧ slot ∉ s.rt.ready then s.rt.ready ++ [slot] else s.rt.ready }
          (summaryWith r s.roll.summary)
          (fun y => match y with
            | .referralRequests => place
            | .diverts z => decide (z = reason)
            | .conditions z => c.conds.has z
            | _ => false) (fun y => y.rt.entry slot = x)) ∧
    (s.jt.lookup e.card e.day = none →
      let conds := k.conds ||| k.asideConds
      comes (.go (some k.fareToCharge)) (charged k.fareToCharge conds none false) s.jt s.rt s.roll.summary
        (fun x => match x with
          | .journeyFrames => place
          | .recordGone => true
          | .conditions y => conds.has y && !stored.has y
          | _ => false) (fun _ => True))) ∧
  ∀ (s : State) (p : Pricing), s.fu = .stalled p →
    (512 ≤ s.lli.bulk.length → exec .stallResume s = .next s) ∧
    (s.lli.bulk.length < 512 → ∃ u, exec .stallResume s = .next u ∧
      u = { s.pricingEnded p.entry (s.frameOf p) with counters := u.counters } ∧
      s.Counted (fun x => match x, p.outcome with
        | .journeyFrames, .charged _ _ => true
        | .referralRequests, .diverted _ => true
        | _, _ => false) u)

/-! ## Referrals -/

/-- REFERRAL_ANSWER (R154, R155): the first case that applies, each with its counter: no known kind, LATE, ALREADY_ANSWERED, a
REPRICE of a station unknown to the pricing bank, taken. That case 1 counts as a refused answer is the model's (DEDUCED, log 36), and
so is the bank for a day that is neither day of a roll (DESIGN CHOICE, log 38). Frame: as the equations say. -/
def Obligations.ReferralAnswerDecided : Prop :=
  ∀ (s : State) (f : DownFrame) (rest : List DownFrame) (use slot kind cap hi lo station : Byte),
    s.Takes f rest → f.kind = .referralAnswer → f.body = [use, slot, kind, cap, hi, lo, station] →
    let i : Fin 256 := slot.toFin
    let x := s.rt.entry i
    let late := x.state = .free ∨ x.useCount ≠ use ∨ (x.state = .awaiting ∧ x.work = .timeout)
    let unknown := kind = 3 ∧ (s.bankFor x.day).station station.toNat = none
    let known := kind = 1 ∨ kind = 2 ∨ kind = 3
    (¬known → exec .referralAnswer s = .next (State.answered f rest .badArgument (s.bump .refusedAnswers))) ∧
    (known → late → exec .referralAnswer s = .next (State.answered f rest .late (s.bump .lateAnswers))) ∧
    (known → ¬late → x.state = .answered →
      exec .referralAnswer s = .next (State.answered f rest .alreadyAnswered (s.bump .alreadyAnswered))) ∧
    (¬late → x.state = .awaiting → unknown →
      exec .referralAnswer s = .next (State.answered f rest .badArgument (s.bump .refusedAnswers))) ∧
    (known → ¬late → x.state = .awaiting → ¬unknown →
      let a : RefAnswer := if kind = 1 then .charge (256 * hi.toNat + lo.toNat) (cap != 0)
        else if kind = 2 then .void else .reprice station.toNat
      exec .referralAnswer s = .next (State.answered f rest .done (State.bump .answersTaken { s with rt :=
        { entries := s.rt.entries.set i { x with state := .answered, answer := some a }
          freeList := s.rt.freeList
          ready := if i ∈ s.rt.ready then s.rt.ready else s.rt.ready ++ [i] } })))

/-- REFERRAL_WORK (R105, R156, R160): with a non-tap slot free, the head of the ready list creates SETTLE, REPRICE or timeout
work at L1 with its ticket, and its record's pending count rises where the record is there; a timeout is counted. With no slot
it waits. Frame: as the equations say. -/
def Obligations.ReferralWorkCreated : Prop :=
  ∀ (s : State) (i : Fin 256) (rest : List (Fin 256)), s.rt.ready = i :: rest →
    let x := s.rt.entry i
    let created := fun (kind : WorkKind) (mark : RefWork) (late : Bool) =>
      let t := { s with
        rt := { entries := s.rt.entries.set i { x with work := mark }, freeList := s.rt.freeList, ready := rest }
        pool := s.pool.join ⟨kind, .l1, .nonTap, x.card, x.day, x.snap, none, some (ticketOf x.useCount i), late⟩ }
      (∀ r, s.jt.lookup x.card x.day = some r → r.pendingCount < Config.pendingMax → exec .referralWork s =
        .next (let u := { t with jt := s.jt.write { r with pendingCount := r.pendingCount + 1 } }
          if late = true then u.bump .timeouts else u)) ∧
      (s.jt.lookup x.card x.day = none → exec .referralWork s = .next (if late = true then t.bump .timeouts else t))
    (s.nonTapFree = 0 → exec .referralWork s = .next s) ∧
    (0 < s.nonTapFree →
      (∀ amount cap, x.state = .answered → x.answer = some (.charge amount cap) → created .settle .settle false) ∧
      (x.state = .answered → x.answer = some .void → created .settle .settle false) ∧
      (∀ n, x.state = .answered → x.answer = some (.reprice n) → created .reprice .reprice false) ∧
      (x.state = .awaiting → x.due = true → created x.kind .timeout true))

/-! ## Resets -/

/-- ENGINE_RESET (R22, R43, R44, R75, R100, R113, R162, R176, R184): work, records, expiry entries, referrals, taps and counters
are gone, banks, line time, service day, queued frames, snapshot and mask kept; a copy is abandoned with REPLY BAD_STATE; an
ATTACHED port with carrier has its CREDIT, a DETACHING port completes; behind the kept frames stand the REPLY of the copy, the
DETACH_DONE notices that no mask keeps back, of the DETACHING ports in ascending order (DEDUCED, log 25), each in the queue of its
port's class as far as that has places, the others on the owed list; the REPLY DONE comes last. A frame in transmission goes on as
it was. -/
def Obligations.EngineResetEffect : Prop :=
  ∀ (s : State) (f : DownFrame) (rest : List DownFrame), s.Takes f rest → f.IsCommand .engineReset [] →
    ∃ u, exec .engineReset s = .next u ∧ u.pending = s.pending ∧
      u.clock = { s.clock with owedOverrun := false } ∧ u.tables = { s.tables with copyPos := none } ∧
      u.jt = State.reset.jt ∧ u.pu = State.reset.pu ∧ u.expiry = [] ∧ u.pool = State.reset.pool ∧ u.fu = .idle ∧
      (∀ i : Fin 256, (u.rt.entry i).state = .free ∧ (u.rt.entry i).useCount = (s.rt.entry i).useCount ∧
        (u.rt.entry i).answer = none ∧ (u.rt.entry i).due = false ∧ (u.rt.entry i).work = .none ∧
        u.rt.entry i = { State.reset.rt.entry i with useCount := (s.rt.entry i).useCount }) ∧
      u.rt.freeList = List.finRange 256 ∧ u.rt.ready = [] ∧
      u.roll.state = (if s.roll.state = .notReady then .notReady else .ready) ∧ u.roll.oldDay = none ∧ u.roll.pos = 0 ∧
      u.roll.visit = [] ∧ u.roll.closingCount = 0 ∧ u.roll.summary = [] ∧ u.roll.owedDone = none ∧
      (∀ c : CounterId, u.counters.value c = 0) ∧
      u.lli.receive = rest ∧ u.lli.carrier = s.lli.carrier ∧ u.lli.server = s.lli.server ∧ u.lli.snapshot = s.lli.snapshot ∧
      u.lli.disposition = s.lli.disposition ∧ u.lli.selected = .identity ∧ u.lli.copyReserve = none ∧
      u.lli.replyHeld = false ∧
      (let noticed := fun c : AttnClass => (List.finRange 8).filter fun p =>
          (s.port p).st == .detaching && !(s.port p).mask.has .detachDone && (s.port p).cls == c
        let urgent := (noticed .urgent).take (Config.urgentPlaces - (s.lli.urgentUsed + 1))
        let routine := (noticed .routine).take (Config.bulkPlaces - s.lli.bulk.length)
        let notice := fun p : PortId => UpFrame.portNotice p .detachDone .nothing AttnKind.detachDone.only
        u.lli.bulk = s.lli.bulk ++ routine.map notice ∧
        u.lli.urgent = s.lli.urgent ++ (match s.lli.copyReserve with
          | some n => [.reply n (.command 9) .badState none none]
          | none => []) ++ urgent.map notice ++ [.reply f.request (.command 12) .done none none] ∧
        u.lli.owed = ((List.finRange 8).filter fun p => (s.port p).st == .detaching && !(s.port p).mask.has .detachDone &&
          !urgent.contains p && !routine.contains p).map fun p => ⟨p, .detachDone, .nothing⟩) ∧
      (∀ q, s.lli.transmitting = some q → u.lli.transmitting = some q ∧ u.lli.urgentTo = s.lli.urgentTo ∧
        u.lli.bulkTo = s.lli.bulkTo) ∧
      (∀ bytes, s.lli.wire = some bytes → u.lli.wire = some bytes) ∧
      ∀ p : PortId,
        let q := s.port p
        let z := { q with
          intake := [], outstanding := 0, attachment := q.attachment + 1, transmit := [], badRun := 0, attention := 0 }
        (q.st = .attached → q.carrier = true → u.port p = { z with
          transmit := [.credit (q.lastTaken + BitVec.ofNat 16 q.creditLimit)]
          advertised := q.lastTaken + BitVec.ofNat 16 q.creditLimit }) ∧
        (q.st = .detaching → u.port p = { z with
          st := .present, transmit := [.detach p], attention := AttnKind.detachDone.only
          tracker := { q.tracker with settled := false, deadline := none, fallenDue := false } }) ∧
        (q.st ≠ .detaching → ¬(q.st = .attached ∧ q.carrier = true) → u.port p = z)
end

