-- ==== Sys2Proof/Laws/State.lean ====
section
/-! SUPPORT. One lemma per field per update: what the state's elementary updates leave unchanged. -/

namespace Sys2Proof.Machine

@[simp] theorem State.count_ports (c : CounterId) (n : Nat) (s : State) : (s.count c n).ports = s.ports := rfl
@[simp] theorem State.count_clock (c : CounterId) (n : Nat) (s : State) : (s.count c n).clock = s.clock := rfl
@[simp] theorem State.count_tables (c : CounterId) (n : Nat) (s : State) : (s.count c n).tables = s.tables := rfl
@[simp] theorem State.count_jt (c : CounterId) (n : Nat) (s : State) : (s.count c n).jt = s.jt := rfl
@[simp] theorem State.count_pu (c : CounterId) (n : Nat) (s : State) : (s.count c n).pu = s.pu := rfl
@[simp] theorem State.count_expiry (c : CounterId) (n : Nat) (s : State) : (s.count c n).expiry = s.expiry := rfl
@[simp] theorem State.count_pool (c : CounterId) (n : Nat) (s : State) : (s.count c n).pool = s.pool := rfl
@[simp] theorem State.count_fu (c : CounterId) (n : Nat) (s : State) : (s.count c n).fu = s.fu := rfl
@[simp] theorem State.count_rt (c : CounterId) (n : Nat) (s : State) : (s.count c n).rt = s.rt := rfl
@[simp] theorem State.count_roll (c : CounterId) (n : Nat) (s : State) : (s.count c n).roll = s.roll := rfl
@[simp] theorem State.count_lli (c : CounterId) (n : Nat) (s : State) : (s.count c n).lli = s.lli := rfl
@[simp] theorem State.count_pending (c : CounterId) (n : Nat) (s : State) : (s.count c n).pending = s.pending := rfl

@[simp] theorem State.bump_ports (c : CounterId) (s : State) : (s.bump c).ports = s.ports := rfl
@[simp] theorem State.bump_clock (c : CounterId) (s : State) : (s.bump c).clock = s.clock := rfl
@[simp] theorem State.bump_tables (c : CounterId) (s : State) : (s.bump c).tables = s.tables := rfl
@[simp] theorem State.bump_jt (c : CounterId) (s : State) : (s.bump c).jt = s.jt := rfl
@[simp] theorem State.bump_pu (c : CounterId) (s : State) : (s.bump c).pu = s.pu := rfl
@[simp] theorem State.bump_expiry (c : CounterId) (s : State) : (s.bump c).expiry = s.expiry := rfl
@[simp] theorem State.bump_pool (c : CounterId) (s : State) : (s.bump c).pool = s.pool := rfl
@[simp] theorem State.bump_fu (c : CounterId) (s : State) : (s.bump c).fu = s.fu := rfl
@[simp] theorem State.bump_rt (c : CounterId) (s : State) : (s.bump c).rt = s.rt := rfl
@[simp] theorem State.bump_roll (c : CounterId) (s : State) : (s.bump c).roll = s.roll := rfl
@[simp] theorem State.bump_lli (c : CounterId) (s : State) : (s.bump c).lli = s.lli := rfl
@[simp] theorem State.bump_pending (c : CounterId) (s : State) : (s.bump c).pending = s.pending := rfl

@[simp] theorem State.setPort_clock (p : PortId) (q : Port) (s : State) : (s.setPort p q).clock = s.clock := rfl
@[simp] theorem State.setPort_tables (p : PortId) (q : Port) (s : State) : (s.setPort p q).tables = s.tables := rfl
@[simp] theorem State.setPort_jt (p : PortId) (q : Port) (s : State) : (s.setPort p q).jt = s.jt := rfl
@[simp] theorem State.setPort_pu (p : PortId) (q : Port) (s : State) : (s.setPort p q).pu = s.pu := rfl
@[simp] theorem State.setPort_expiry (p : PortId) (q : Port) (s : State) : (s.setPort p q).expiry = s.expiry := rfl
@[simp] theorem State.setPort_pool (p : PortId) (q : Port) (s : State) : (s.setPort p q).pool = s.pool := rfl
@[simp] theorem State.setPort_fu (p : PortId) (q : Port) (s : State) : (s.setPort p q).fu = s.fu := rfl
@[simp] theorem State.setPort_rt (p : PortId) (q : Port) (s : State) : (s.setPort p q).rt = s.rt := rfl
@[simp] theorem State.setPort_roll (p : PortId) (q : Port) (s : State) : (s.setPort p q).roll = s.roll := rfl
@[simp] theorem State.setPort_lli (p : PortId) (q : Port) (s : State) : (s.setPort p q).lli = s.lli := rfl
@[simp] theorem State.setPort_counters (p : PortId) (q : Port) (s : State) : (s.setPort p q).counters = s.counters := rfl
@[simp] theorem State.setPort_pending (p : PortId) (q : Port) (s : State) : (s.setPort p q).pending = s.pending := rfl

@[simp] theorem State.modPort_clock (p : PortId) (f : Port → Port) (s : State) : (s.modPort p f).clock = s.clock := rfl
@[simp] theorem State.modPort_tables (p : PortId) (f : Port → Port) (s : State) : (s.modPort p f).tables = s.tables := rfl
@[simp] theorem State.modPort_jt (p : PortId) (f : Port → Port) (s : State) : (s.modPort p f).jt = s.jt := rfl
@[simp] theorem State.modPort_pu (p : PortId) (f : Port → Port) (s : State) : (s.modPort p f).pu = s.pu := rfl
@[simp] theorem State.modPort_expiry (p : PortId) (f : Port → Port) (s : State) : (s.modPort p f).expiry = s.expiry := rfl
@[simp] theorem State.modPort_pool (p : PortId) (f : Port → Port) (s : State) : (s.modPort p f).pool = s.pool := rfl
@[simp] theorem State.modPort_fu (p : PortId) (f : Port → Port) (s : State) : (s.modPort p f).fu = s.fu := rfl
@[simp] theorem State.modPort_rt (p : PortId) (f : Port → Port) (s : State) : (s.modPort p f).rt = s.rt := rfl
@[simp] theorem State.modPort_roll (p : PortId) (f : Port → Port) (s : State) : (s.modPort p f).roll = s.roll := rfl
@[simp] theorem State.modPort_lli (p : PortId) (f : Port → Port) (s : State) : (s.modPort p f).lli = s.lli := rfl
@[simp] theorem State.modPort_counters (p : PortId) (f : Port → Port) (s : State) : (s.modPort p f).counters = s.counters :=
  rfl
@[simp] theorem State.modPort_pending (p : PortId) (f : Port → Port) (s : State) : (s.modPort p f).pending = s.pending :=
  rfl

@[simp] theorem State.clearRun_clock (p : PortId) (s : State) : (s.clearRun p).clock = s.clock := rfl
@[simp] theorem State.clearRun_tables (p : PortId) (s : State) : (s.clearRun p).tables = s.tables := rfl
@[simp] theorem State.clearRun_jt (p : PortId) (s : State) : (s.clearRun p).jt = s.jt := rfl
@[simp] theorem State.clearRun_pu (p : PortId) (s : State) : (s.clearRun p).pu = s.pu := rfl
@[simp] theorem State.clearRun_expiry (p : PortId) (s : State) : (s.clearRun p).expiry = s.expiry := rfl
@[simp] theorem State.clearRun_pool (p : PortId) (s : State) : (s.clearRun p).pool = s.pool := rfl
@[simp] theorem State.clearRun_fu (p : PortId) (s : State) : (s.clearRun p).fu = s.fu := rfl
@[simp] theorem State.clearRun_rt (p : PortId) (s : State) : (s.clearRun p).rt = s.rt := rfl
@[simp] theorem State.clearRun_roll (p : PortId) (s : State) : (s.clearRun p).roll = s.roll := rfl
@[simp] theorem State.clearRun_lli (p : PortId) (s : State) : (s.clearRun p).lli = s.lli := rfl
@[simp] theorem State.clearRun_counters (p : PortId) (s : State) : (s.clearRun p).counters = s.counters := rfl
@[simp] theorem State.clearRun_pending (p : PortId) (s : State) : (s.clearRun p).pending = s.pending := rfl

@[simp] theorem State.offerSweep_ports (s : State) : (s.offerSweep).ports = s.ports := rfl
@[simp] theorem State.offerSweep_clock (s : State) : (s.offerSweep).clock = s.clock := rfl
@[simp] theorem State.offerSweep_tables (s : State) : (s.offerSweep).tables = s.tables := rfl
@[simp] theorem State.offerSweep_jt (s : State) : (s.offerSweep).jt = s.jt := rfl
@[simp] theorem State.offerSweep_pu (s : State) : (s.offerSweep).pu = s.pu := rfl
@[simp] theorem State.offerSweep_expiry (s : State) : (s.offerSweep).expiry = s.expiry := rfl
@[simp] theorem State.offerSweep_pool (s : State) : (s.offerSweep).pool = s.pool := rfl
@[simp] theorem State.offerSweep_fu (s : State) : (s.offerSweep).fu = s.fu := rfl
@[simp] theorem State.offerSweep_rt (s : State) : (s.offerSweep).rt = s.rt := rfl
@[simp] theorem State.offerSweep_lli (s : State) : (s.offerSweep).lli = s.lli := rfl
@[simp] theorem State.offerSweep_counters (s : State) : (s.offerSweep).counters = s.counters := rfl
@[simp] theorem State.offerSweep_pending (s : State) : (s.offerSweep).pending = s.pending := rfl

@[simp] theorem State.pushUrgent_ports (f : UpFrame) (s : State) : (s.pushUrgent f).ports = s.ports := rfl
@[simp] theorem State.pushUrgent_clock (f : UpFrame) (s : State) : (s.pushUrgent f).clock = s.clock := rfl
@[simp] theorem State.pushUrgent_tables (f : UpFrame) (s : State) : (s.pushUrgent f).tables = s.tables := rfl
@[simp] theorem State.pushUrgent_jt (f : UpFrame) (s : State) : (s.pushUrgent f).jt = s.jt := rfl
@[simp] theorem State.pushUrgent_pu (f : UpFrame) (s : State) : (s.pushUrgent f).pu = s.pu := rfl
@[simp] theorem State.pushUrgent_expiry (f : UpFrame) (s : State) : (s.pushUrgent f).expiry = s.expiry := rfl
@[simp] theorem State.pushUrgent_pool (f : UpFrame) (s : State) : (s.pushUrgent f).pool = s.pool := rfl
@[simp] theorem State.pushUrgent_fu (f : UpFrame) (s : State) : (s.pushUrgent f).fu = s.fu := rfl
@[simp] theorem State.pushUrgent_rt (f : UpFrame) (s : State) : (s.pushUrgent f).rt = s.rt := rfl
@[simp] theorem State.pushUrgent_roll (f : UpFrame) (s : State) : (s.pushUrgent f).roll = s.roll := rfl
@[simp] theorem State.pushUrgent_counters (f : UpFrame) (s : State) : (s.pushUrgent f).counters = s.counters := rfl
@[simp] theorem State.pushUrgent_pending (f : UpFrame) (s : State) : (s.pushUrgent f).pending = s.pending := rfl

@[simp] theorem State.pushBulk_ports (f : UpFrame) (s : State) : (s.pushBulk f).ports = s.ports := rfl
@[simp] theorem State.pushBulk_clock (f : UpFrame) (s : State) : (s.pushBulk f).clock = s.clock := rfl
@[simp] theorem State.pushBulk_tables (f : UpFrame) (s : State) : (s.pushBulk f).tables = s.tables := rfl
@[simp] theorem State.pushBulk_jt (f : UpFrame) (s : State) : (s.pushBulk f).jt = s.jt := rfl
@[simp] theorem State.pushBulk_pu (f : UpFrame) (s : State) : (s.pushBulk f).pu = s.pu := rfl
@[simp] theorem State.pushBulk_expiry (f : UpFrame) (s : State) : (s.pushBulk f).expiry = s.expiry := rfl
@[simp] theorem State.pushBulk_pool (f : UpFrame) (s : State) : (s.pushBulk f).pool = s.pool := rfl
@[simp] theorem State.pushBulk_fu (f : UpFrame) (s : State) : (s.pushBulk f).fu = s.fu := rfl
@[simp] theorem State.pushBulk_rt (f : UpFrame) (s : State) : (s.pushBulk f).rt = s.rt := rfl
@[simp] theorem State.pushBulk_roll (f : UpFrame) (s : State) : (s.pushBulk f).roll = s.roll := rfl
@[simp] theorem State.pushBulk_counters (f : UpFrame) (s : State) : (s.pushBulk f).counters = s.counters := rfl
@[simp] theorem State.pushBulk_pending (f : UpFrame) (s : State) : (s.pushBulk f).pending = s.pending := rfl

@[simp] theorem State.replyFull_ports (f : DownFrame) (st : Status) (x : Option (TableId × Nat)) (v : Option ViewContents) (s : State) : (s.replyFull f st x v).ports = s.ports :=
  rfl
@[simp] theorem State.replyFull_clock (f : DownFrame) (st : Status) (x : Option (TableId × Nat)) (v : Option ViewContents) (s : State) : (s.replyFull f st x v).clock = s.clock :=
  rfl
@[simp] theorem State.replyFull_tables (f : DownFrame) (st : Status) (x : Option (TableId × Nat)) (v : Option ViewContents) (s : State) : (s.replyFull f st x v).tables = s.tables :=
  rfl
@[simp] theorem State.replyFull_jt (f : DownFrame) (st : Status) (x : Option (TableId × Nat)) (v : Option ViewContents) (s : State) : (s.replyFull f st x v).jt = s.jt :=
  rfl
@[simp] theorem State.replyFull_pu (f : DownFrame) (st : Status) (x : Option (TableId × Nat)) (v : Option ViewContents) (s : State) : (s.replyFull f st x v).pu = s.pu :=
  rfl
@[simp] theorem State.replyFull_expiry (f : DownFrame) (st : Status) (x : Option (TableId × Nat)) (v : Option ViewContents) (s : State) : (s.replyFull f st x v).expiry = s.expiry :=
  rfl
@[simp] theorem State.replyFull_pool (f : DownFrame) (st : Status) (x : Option (TableId × Nat)) (v : Option ViewContents) (s : State) : (s.replyFull f st x v).pool = s.pool :=
  rfl
@[simp] theorem State.replyFull_fu (f : DownFrame) (st : Status) (x : Option (TableId × Nat)) (v : Option ViewContents) (s : State) : (s.replyFull f st x v).fu = s.fu :=
  rfl
@[simp] theorem State.replyFull_rt (f : DownFrame) (st : Status) (x : Option (TableId × Nat)) (v : Option ViewContents) (s : State) : (s.replyFull f st x v).rt = s.rt :=
  rfl
@[simp] theorem State.replyFull_roll (f : DownFrame) (st : Status) (x : Option (TableId × Nat)) (v : Option ViewContents) (s : State) : (s.replyFull f st x v).roll = s.roll :=
  rfl
@[simp] theorem State.replyFull_counters (f : DownFrame) (st : Status) (x : Option (TableId × Nat)) (v : Option ViewContents) (s : State) : (s.replyFull f st x v).counters = s.counters :=
  rfl
@[simp] theorem State.replyFull_pending (f : DownFrame) (st : Status) (x : Option (TableId × Nat)) (v : Option ViewContents) (s : State) : (s.replyFull f st x v).pending = s.pending :=
  rfl

@[simp] theorem State.reply_ports (f : DownFrame) (st : Status) (s : State) : (s.reply f st).ports = s.ports := rfl
@[simp] theorem State.reply_clock (f : DownFrame) (st : Status) (s : State) : (s.reply f st).clock = s.clock := rfl
@[simp] theorem State.reply_tables (f : DownFrame) (st : Status) (s : State) : (s.reply f st).tables = s.tables := rfl
@[simp] theorem State.reply_jt (f : DownFrame) (st : Status) (s : State) : (s.reply f st).jt = s.jt := rfl
@[simp] theorem State.reply_pu (f : DownFrame) (st : Status) (s : State) : (s.reply f st).pu = s.pu := rfl
@[simp] theorem State.reply_expiry (f : DownFrame) (st : Status) (s : State) : (s.reply f st).expiry = s.expiry := rfl
@[simp] theorem State.reply_pool (f : DownFrame) (st : Status) (s : State) : (s.reply f st).pool = s.pool := rfl
@[simp] theorem State.reply_fu (f : DownFrame) (st : Status) (s : State) : (s.reply f st).fu = s.fu := rfl
@[simp] theorem State.reply_rt (f : DownFrame) (st : Status) (s : State) : (s.reply f st).rt = s.rt := rfl
@[simp] theorem State.reply_roll (f : DownFrame) (st : Status) (s : State) : (s.reply f st).roll = s.roll := rfl
@[simp] theorem State.reply_counters (f : DownFrame) (st : Status) (s : State) : (s.reply f st).counters = s.counters :=
  rfl
@[simp] theorem State.reply_pending (f : DownFrame) (st : Status) (s : State) : (s.reply f st).pending = s.pending := rfl

@[simp] theorem State.writeRecord_ports (r : Record) (s : State) : (s.writeRecord r).ports = s.ports := rfl
@[simp] theorem State.writeRecord_clock (r : Record) (s : State) : (s.writeRecord r).clock = s.clock := rfl
@[simp] theorem State.writeRecord_tables (r : Record) (s : State) : (s.writeRecord r).tables = s.tables := rfl
@[simp] theorem State.writeRecord_pu (r : Record) (s : State) : (s.writeRecord r).pu = s.pu := rfl
@[simp] theorem State.writeRecord_expiry (r : Record) (s : State) : (s.writeRecord r).expiry = s.expiry := rfl
@[simp] theorem State.writeRecord_pool (r : Record) (s : State) : (s.writeRecord r).pool = s.pool := rfl
@[simp] theorem State.writeRecord_fu (r : Record) (s : State) : (s.writeRecord r).fu = s.fu := rfl
@[simp] theorem State.writeRecord_rt (r : Record) (s : State) : (s.writeRecord r).rt = s.rt := rfl
@[simp] theorem State.writeRecord_roll (r : Record) (s : State) : (s.writeRecord r).roll = s.roll := rfl
@[simp] theorem State.writeRecord_lli (r : Record) (s : State) : (s.writeRecord r).lli = s.lli := rfl
@[simp] theorem State.writeRecord_counters (r : Record) (s : State) : (s.writeRecord r).counters = s.counters := rfl
@[simp] theorem State.writeRecord_pending (r : Record) (s : State) : (s.writeRecord r).pending = s.pending := rfl

@[simp] theorem State.joinPool_ports (e : WorkEntry) (s : State) : (s.joinPool e).ports = s.ports := rfl
@[simp] theorem State.joinPool_clock (e : WorkEntry) (s : State) : (s.joinPool e).clock = s.clock := rfl
@[simp] theorem State.joinPool_tables (e : WorkEntry) (s : State) : (s.joinPool e).tables = s.tables := rfl
@[simp] theorem State.joinPool_jt (e : WorkEntry) (s : State) : (s.joinPool e).jt = s.jt := rfl
@[simp] theorem State.joinPool_pu (e : WorkEntry) (s : State) : (s.joinPool e).pu = s.pu := rfl
@[simp] theorem State.joinPool_expiry (e : WorkEntry) (s : State) : (s.joinPool e).expiry = s.expiry := rfl
@[simp] theorem State.joinPool_fu (e : WorkEntry) (s : State) : (s.joinPool e).fu = s.fu := rfl
@[simp] theorem State.joinPool_rt (e : WorkEntry) (s : State) : (s.joinPool e).rt = s.rt := rfl
@[simp] theorem State.joinPool_roll (e : WorkEntry) (s : State) : (s.joinPool e).roll = s.roll := rfl
@[simp] theorem State.joinPool_lli (e : WorkEntry) (s : State) : (s.joinPool e).lli = s.lli := rfl
@[simp] theorem State.joinPool_counters (e : WorkEntry) (s : State) : (s.joinPool e).counters = s.counters := rfl
@[simp] theorem State.joinPool_pending (e : WorkEntry) (s : State) : (s.joinPool e).pending = s.pending := rfl

@[simp] theorem State.enterExpiry_ports (c : Card) (d : Day) (k : ExpiryKind) (n : Nat) (s : State) : (s.enterExpiry c d k n).ports = s.ports :=
  rfl
@[simp] theorem State.enterExpiry_clock (c : Card) (d : Day) (k : ExpiryKind) (n : Nat) (s : State) : (s.enterExpiry c d k n).clock = s.clock :=
  rfl
@[simp] theorem State.enterExpiry_tables (c : Card) (d : Day) (k : ExpiryKind) (n : Nat) (s : State) : (s.enterExpiry c d k n).tables = s.tables :=
  rfl
@[simp] theorem State.enterExpiry_jt (c : Card) (d : Day) (k : ExpiryKind) (n : Nat) (s : State) : (s.enterExpiry c d k n).jt = s.jt :=
  rfl
@[simp] theorem State.enterExpiry_pu (c : Card) (d : Day) (k : ExpiryKind) (n : Nat) (s : State) : (s.enterExpiry c d k n).pu = s.pu :=
  rfl
@[simp] theorem State.enterExpiry_pool (c : Card) (d : Day) (k : ExpiryKind) (n : Nat) (s : State) : (s.enterExpiry c d k n).pool = s.pool :=
  rfl
@[simp] theorem State.enterExpiry_fu (c : Card) (d : Day) (k : ExpiryKind) (n : Nat) (s : State) : (s.enterExpiry c d k n).fu = s.fu :=
  rfl
@[simp] theorem State.enterExpiry_rt (c : Card) (d : Day) (k : ExpiryKind) (n : Nat) (s : State) : (s.enterExpiry c d k n).rt = s.rt :=
  rfl
@[simp] theorem State.enterExpiry_roll (c : Card) (d : Day) (k : ExpiryKind) (n : Nat) (s : State) : (s.enterExpiry c d k n).roll = s.roll :=
  rfl
@[simp] theorem State.enterExpiry_lli (c : Card) (d : Day) (k : ExpiryKind) (n : Nat) (s : State) : (s.enterExpiry c d k n).lli = s.lli :=
  rfl
@[simp] theorem State.enterExpiry_counters (c : Card) (d : Day) (k : ExpiryKind) (n : Nat) (s : State) : (s.enterExpiry c d k n).counters = s.counters :=
  rfl
@[simp] theorem State.enterExpiry_pending (c : Card) (d : Day) (k : ExpiryKind) (n : Nat) (s : State) : (s.enterExpiry c d k n).pending = s.pending :=
  rfl

@[simp] theorem State.cancelExpiry_ports (c : Card) (d : Day) (k : ExpiryKind) (s : State) : (s.cancelExpiry c d k).ports = s.ports :=
  rfl
@[simp] theorem State.cancelExpiry_clock (c : Card) (d : Day) (k : ExpiryKind) (s : State) : (s.cancelExpiry c d k).clock = s.clock :=
  rfl
@[simp] theorem State.cancelExpiry_tables (c : Card) (d : Day) (k : ExpiryKind) (s : State) : (s.cancelExpiry c d k).tables = s.tables :=
  rfl
@[simp] theorem State.cancelExpiry_jt (c : Card) (d : Day) (k : ExpiryKind) (s : State) : (s.cancelExpiry c d k).jt = s.jt :=
  rfl
@[simp] theorem State.cancelExpiry_pu (c : Card) (d : Day) (k : ExpiryKind) (s : State) : (s.cancelExpiry c d k).pu = s.pu :=
  rfl
@[simp] theorem State.cancelExpiry_pool (c : Card) (d : Day) (k : ExpiryKind) (s : State) : (s.cancelExpiry c d k).pool = s.pool :=
  rfl
@[simp] theorem State.cancelExpiry_fu (c : Card) (d : Day) (k : ExpiryKind) (s : State) : (s.cancelExpiry c d k).fu = s.fu :=
  rfl
@[simp] theorem State.cancelExpiry_rt (c : Card) (d : Day) (k : ExpiryKind) (s : State) : (s.cancelExpiry c d k).rt = s.rt :=
  rfl
@[simp] theorem State.cancelExpiry_roll (c : Card) (d : Day) (k : ExpiryKind) (s : State) : (s.cancelExpiry c d k).roll = s.roll :=
  rfl
@[simp] theorem State.cancelExpiry_lli (c : Card) (d : Day) (k : ExpiryKind) (s : State) : (s.cancelExpiry c d k).lli = s.lli :=
  rfl
@[simp] theorem State.cancelExpiry_counters (c : Card) (d : Day) (k : ExpiryKind) (s : State) : (s.cancelExpiry c d k).counters = s.counters :=
  rfl
@[simp] theorem State.cancelExpiry_pending (c : Card) (d : Day) (k : ExpiryKind) (s : State) : (s.cancelExpiry c d k).pending = s.pending :=
  rfl

@[simp] theorem State.cancelHold_ports (r : Record) (h : HeldTap) (s : State) : (s.cancelHold r h).ports = s.ports := rfl
@[simp] theorem State.cancelHold_clock (r : Record) (h : HeldTap) (s : State) : (s.cancelHold r h).clock = s.clock := rfl
@[simp] theorem State.cancelHold_tables (r : Record) (h : HeldTap) (s : State) : (s.cancelHold r h).tables = s.tables :=
  rfl
@[simp] theorem State.cancelHold_jt (r : Record) (h : HeldTap) (s : State) : (s.cancelHold r h).jt = s.jt := rfl
@[simp] theorem State.cancelHold_pu (r : Record) (h : HeldTap) (s : State) : (s.cancelHold r h).pu = s.pu := rfl
@[simp] theorem State.cancelHold_pool (r : Record) (h : HeldTap) (s : State) : (s.cancelHold r h).pool = s.pool := rfl
@[simp] theorem State.cancelHold_fu (r : Record) (h : HeldTap) (s : State) : (s.cancelHold r h).fu = s.fu := rfl
@[simp] theorem State.cancelHold_rt (r : Record) (h : HeldTap) (s : State) : (s.cancelHold r h).rt = s.rt := rfl
@[simp] theorem State.cancelHold_roll (r : Record) (h : HeldTap) (s : State) : (s.cancelHold r h).roll = s.roll := rfl
@[simp] theorem State.cancelHold_lli (r : Record) (h : HeldTap) (s : State) : (s.cancelHold r h).lli = s.lli := rfl
@[simp] theorem State.cancelHold_counters (r : Record) (h : HeldTap) (s : State) : (s.cancelHold r h).counters = s.counters :=
  rfl
@[simp] theorem State.cancelHold_pending (r : Record) (h : HeldTap) (s : State) : (s.cancelHold r h).pending = s.pending :=
  rfl

@[simp] theorem State.cancelLimit_ports (r : Record) (s : State) : (s.cancelLimit r).ports = s.ports := rfl
@[simp] theorem State.cancelLimit_clock (r : Record) (s : State) : (s.cancelLimit r).clock = s.clock := rfl
@[simp] theorem State.cancelLimit_tables (r : Record) (s : State) : (s.cancelLimit r).tables = s.tables := rfl
@[simp] theorem State.cancelLimit_jt (r : Record) (s : State) : (s.cancelLimit r).jt = s.jt := rfl
@[simp] theorem State.cancelLimit_pu (r : Record) (s : State) : (s.cancelLimit r).pu = s.pu := rfl
@[simp] theorem State.cancelLimit_pool (r : Record) (s : State) : (s.cancelLimit r).pool = s.pool := rfl
@[simp] theorem State.cancelLimit_fu (r : Record) (s : State) : (s.cancelLimit r).fu = s.fu := rfl
@[simp] theorem State.cancelLimit_rt (r : Record) (s : State) : (s.cancelLimit r).rt = s.rt := rfl
@[simp] theorem State.cancelLimit_roll (r : Record) (s : State) : (s.cancelLimit r).roll = s.roll := rfl
@[simp] theorem State.cancelLimit_lli (r : Record) (s : State) : (s.cancelLimit r).lli = s.lli := rfl
@[simp] theorem State.cancelLimit_counters (r : Record) (s : State) : (s.cancelLimit r).counters = s.counters := rfl
@[simp] theorem State.cancelLimit_pending (r : Record) (s : State) : (s.cancelLimit r).pending = s.pending := rfl

@[simp] theorem State.enterLimit_ports (r : Record) (s : State) : (s.enterLimit r).ports = s.ports := rfl
@[simp] theorem State.enterLimit_clock (r : Record) (s : State) : (s.enterLimit r).clock = s.clock := rfl
@[simp] theorem State.enterLimit_tables (r : Record) (s : State) : (s.enterLimit r).tables = s.tables := rfl
@[simp] theorem State.enterLimit_jt (r : Record) (s : State) : (s.enterLimit r).jt = s.jt := rfl
@[simp] theorem State.enterLimit_pu (r : Record) (s : State) : (s.enterLimit r).pu = s.pu := rfl
@[simp] theorem State.enterLimit_pool (r : Record) (s : State) : (s.enterLimit r).pool = s.pool := rfl
@[simp] theorem State.enterLimit_fu (r : Record) (s : State) : (s.enterLimit r).fu = s.fu := rfl
@[simp] theorem State.enterLimit_rt (r : Record) (s : State) : (s.enterLimit r).rt = s.rt := rfl
@[simp] theorem State.enterLimit_roll (r : Record) (s : State) : (s.enterLimit r).roll = s.roll := rfl
@[simp] theorem State.enterLimit_lli (r : Record) (s : State) : (s.enterLimit r).lli = s.lli := rfl
@[simp] theorem State.enterLimit_counters (r : Record) (s : State) : (s.enterLimit r).counters = s.counters := rfl
@[simp] theorem State.enterLimit_pending (r : Record) (s : State) : (s.enterLimit r).pending = s.pending := rfl

@[simp] theorem State.enterHold_ports (r : Record) (t : Tap) (s : State) : (s.enterHold r t).ports = s.ports := rfl
@[simp] theorem State.enterHold_clock (r : Record) (t : Tap) (s : State) : (s.enterHold r t).clock = s.clock := rfl
@[simp] theorem State.enterHold_tables (r : Record) (t : Tap) (s : State) : (s.enterHold r t).tables = s.tables := rfl
@[simp] theorem State.enterHold_jt (r : Record) (t : Tap) (s : State) : (s.enterHold r t).jt = s.jt := rfl
@[simp] theorem State.enterHold_pu (r : Record) (t : Tap) (s : State) : (s.enterHold r t).pu = s.pu := rfl
@[simp] theorem State.enterHold_pool (r : Record) (t : Tap) (s : State) : (s.enterHold r t).pool = s.pool := rfl
@[simp] theorem State.enterHold_fu (r : Record) (t : Tap) (s : State) : (s.enterHold r t).fu = s.fu := rfl
@[simp] theorem State.enterHold_rt (r : Record) (t : Tap) (s : State) : (s.enterHold r t).rt = s.rt := rfl
@[simp] theorem State.enterHold_roll (r : Record) (t : Tap) (s : State) : (s.enterHold r t).roll = s.roll := rfl
@[simp] theorem State.enterHold_lli (r : Record) (t : Tap) (s : State) : (s.enterHold r t).lli = s.lli := rfl
@[simp] theorem State.enterHold_counters (r : Record) (t : Tap) (s : State) : (s.enterHold r t).counters = s.counters :=
  rfl
@[simp] theorem State.enterHold_pending (r : Record) (t : Tap) (s : State) : (s.enterHold r t).pending = s.pending := rfl

@[simp] theorem State.compareDeadlines_clock (s : State) : (s.compareDeadlines).clock = s.clock := rfl
@[simp] theorem State.compareDeadlines_tables (s : State) : (s.compareDeadlines).tables = s.tables := rfl
@[simp] theorem State.compareDeadlines_jt (s : State) : (s.compareDeadlines).jt = s.jt := rfl
@[simp] theorem State.compareDeadlines_pu (s : State) : (s.compareDeadlines).pu = s.pu := rfl
@[simp] theorem State.compareDeadlines_pool (s : State) : (s.compareDeadlines).pool = s.pool := rfl
@[simp] theorem State.compareDeadlines_fu (s : State) : (s.compareDeadlines).fu = s.fu := rfl
@[simp] theorem State.compareDeadlines_roll (s : State) : (s.compareDeadlines).roll = s.roll := rfl
@[simp] theorem State.compareDeadlines_lli (s : State) : (s.compareDeadlines).lli = s.lli := rfl
@[simp] theorem State.compareDeadlines_counters (s : State) : (s.compareDeadlines).counters = s.counters := rfl
@[simp] theorem State.compareDeadlines_pending (s : State) : (s.compareDeadlines).pending = s.pending := rfl

@[simp] theorem State.unlatch_clock (p : PortId) (k : AttnSet) (s : State) : (s.unlatch p k).clock = s.clock := rfl
@[simp] theorem State.unlatch_tables (p : PortId) (k : AttnSet) (s : State) : (s.unlatch p k).tables = s.tables := rfl
@[simp] theorem State.unlatch_jt (p : PortId) (k : AttnSet) (s : State) : (s.unlatch p k).jt = s.jt := rfl
@[simp] theorem State.unlatch_pu (p : PortId) (k : AttnSet) (s : State) : (s.unlatch p k).pu = s.pu := rfl
@[simp] theorem State.unlatch_expiry (p : PortId) (k : AttnSet) (s : State) : (s.unlatch p k).expiry = s.expiry := rfl
@[simp] theorem State.unlatch_pool (p : PortId) (k : AttnSet) (s : State) : (s.unlatch p k).pool = s.pool := rfl
@[simp] theorem State.unlatch_fu (p : PortId) (k : AttnSet) (s : State) : (s.unlatch p k).fu = s.fu := rfl
@[simp] theorem State.unlatch_rt (p : PortId) (k : AttnSet) (s : State) : (s.unlatch p k).rt = s.rt := rfl
@[simp] theorem State.unlatch_roll (p : PortId) (k : AttnSet) (s : State) : (s.unlatch p k).roll = s.roll := rfl
@[simp] theorem State.unlatch_counters (p : PortId) (k : AttnSet) (s : State) : (s.unlatch p k).counters = s.counters :=
  rfl
@[simp] theorem State.unlatch_pending (p : PortId) (k : AttnSet) (s : State) : (s.unlatch p k).pending = s.pending := rfl

@[simp] theorem State.tookFrom_ports (v : PuSource) (s : State) : (s.tookFrom v).ports = s.ports := rfl
@[simp] theorem State.tookFrom_clock (v : PuSource) (s : State) : (s.tookFrom v).clock = s.clock := rfl
@[simp] theorem State.tookFrom_tables (v : PuSource) (s : State) : (s.tookFrom v).tables = s.tables := rfl
@[simp] theorem State.tookFrom_jt (v : PuSource) (s : State) : (s.tookFrom v).jt = s.jt := rfl
@[simp] theorem State.tookFrom_expiry (v : PuSource) (s : State) : (s.tookFrom v).expiry = s.expiry := rfl
@[simp] theorem State.tookFrom_pool (v : PuSource) (s : State) : (s.tookFrom v).pool = s.pool := rfl
@[simp] theorem State.tookFrom_fu (v : PuSource) (s : State) : (s.tookFrom v).fu = s.fu := rfl
@[simp] theorem State.tookFrom_rt (v : PuSource) (s : State) : (s.tookFrom v).rt = s.rt := rfl
@[simp] theorem State.tookFrom_roll (v : PuSource) (s : State) : (s.tookFrom v).roll = s.roll := rfl
@[simp] theorem State.tookFrom_lli (v : PuSource) (s : State) : (s.tookFrom v).lli = s.lli := rfl
@[simp] theorem State.tookFrom_counters (v : PuSource) (s : State) : (s.tookFrom v).counters = s.counters := rfl
@[simp] theorem State.tookFrom_pending (v : PuSource) (s : State) : (s.tookFrom v).pending = s.pending := rfl

@[simp] theorem State.capture_ports (b : Bool) (s : State) : (s.capture b).ports = s.ports := rfl
@[simp] theorem State.capture_clock (b : Bool) (s : State) : (s.capture b).clock = s.clock := rfl
@[simp] theorem State.capture_tables (b : Bool) (s : State) : (s.capture b).tables = s.tables := rfl
@[simp] theorem State.capture_jt (b : Bool) (s : State) : (s.capture b).jt = s.jt := rfl
@[simp] theorem State.capture_pu (b : Bool) (s : State) : (s.capture b).pu = s.pu := rfl
@[simp] theorem State.capture_expiry (b : Bool) (s : State) : (s.capture b).expiry = s.expiry := rfl
@[simp] theorem State.capture_pool (b : Bool) (s : State) : (s.capture b).pool = s.pool := rfl
@[simp] theorem State.capture_fu (b : Bool) (s : State) : (s.capture b).fu = s.fu := rfl
@[simp] theorem State.capture_rt (b : Bool) (s : State) : (s.capture b).rt = s.rt := rfl
@[simp] theorem State.capture_roll (b : Bool) (s : State) : (s.capture b).roll = s.roll := rfl
@[simp] theorem State.capture_pending (b : Bool) (s : State) : (s.capture b).pending = s.pending := rfl

@[simp] theorem State.takeAnswer_ports (i : Fin 256) (a : RefAnswer) (s : State) : (s.takeAnswer i a).ports = s.ports :=
  rfl
@[simp] theorem State.takeAnswer_clock (i : Fin 256) (a : RefAnswer) (s : State) : (s.takeAnswer i a).clock = s.clock :=
  rfl
@[simp] theorem State.takeAnswer_tables (i : Fin 256) (a : RefAnswer) (s : State) : (s.takeAnswer i a).tables = s.tables :=
  rfl
@[simp] theorem State.takeAnswer_jt (i : Fin 256) (a : RefAnswer) (s : State) : (s.takeAnswer i a).jt = s.jt := rfl
@[simp] theorem State.takeAnswer_pu (i : Fin 256) (a : RefAnswer) (s : State) : (s.takeAnswer i a).pu = s.pu := rfl
@[simp] theorem State.takeAnswer_expiry (i : Fin 256) (a : RefAnswer) (s : State) : (s.takeAnswer i a).expiry = s.expiry :=
  rfl
@[simp] theorem State.takeAnswer_pool (i : Fin 256) (a : RefAnswer) (s : State) : (s.takeAnswer i a).pool = s.pool := rfl
@[simp] theorem State.takeAnswer_fu (i : Fin 256) (a : RefAnswer) (s : State) : (s.takeAnswer i a).fu = s.fu := rfl
@[simp] theorem State.takeAnswer_roll (i : Fin 256) (a : RefAnswer) (s : State) : (s.takeAnswer i a).roll = s.roll := rfl
@[simp] theorem State.takeAnswer_lli (i : Fin 256) (a : RefAnswer) (s : State) : (s.takeAnswer i a).lli = s.lli := rfl
@[simp] theorem State.takeAnswer_counters (i : Fin 256) (a : RefAnswer) (s : State) : (s.takeAnswer i a).counters = s.counters :=
  rfl
@[simp] theorem State.takeAnswer_pending (i : Fin 256) (a : RefAnswer) (s : State) : (s.takeAnswer i a).pending = s.pending :=
  rfl

@[simp] theorem State.makeReferral_ports (i : Fin 256) (l : List (Fin 256)) (x : RefEntry) (s : State) : (s.makeReferral i l x).ports = s.ports :=
  rfl
@[simp] theorem State.makeReferral_clock (i : Fin 256) (l : List (Fin 256)) (x : RefEntry) (s : State) : (s.makeReferral i l x).clock = s.clock :=
  rfl
@[simp] theorem State.makeReferral_tables (i : Fin 256) (l : List (Fin 256)) (x : RefEntry) (s : State) : (s.makeReferral i l x).tables = s.tables :=
  rfl
@[simp] theorem State.makeReferral_jt (i : Fin 256) (l : List (Fin 256)) (x : RefEntry) (s : State) : (s.makeReferral i l x).jt = s.jt :=
  rfl
@[simp] theorem State.makeReferral_pu (i : Fin 256) (l : List (Fin 256)) (x : RefEntry) (s : State) : (s.makeReferral i l x).pu = s.pu :=
  rfl
@[simp] theorem State.makeReferral_expiry (i : Fin 256) (l : List (Fin 256)) (x : RefEntry) (s : State) : (s.makeReferral i l x).expiry = s.expiry :=
  rfl
@[simp] theorem State.makeReferral_pool (i : Fin 256) (l : List (Fin 256)) (x : RefEntry) (s : State) : (s.makeReferral i l x).pool = s.pool :=
  rfl
@[simp] theorem State.makeReferral_fu (i : Fin 256) (l : List (Fin 256)) (x : RefEntry) (s : State) : (s.makeReferral i l x).fu = s.fu :=
  rfl
@[simp] theorem State.makeReferral_roll (i : Fin 256) (l : List (Fin 256)) (x : RefEntry) (s : State) : (s.makeReferral i l x).roll = s.roll :=
  rfl
@[simp] theorem State.makeReferral_lli (i : Fin 256) (l : List (Fin 256)) (x : RefEntry) (s : State) : (s.makeReferral i l x).lli = s.lli :=
  rfl
@[simp] theorem State.makeReferral_counters (i : Fin 256) (l : List (Fin 256)) (x : RefEntry) (s : State) : (s.makeReferral i l x).counters = s.counters :=
  rfl
@[simp] theorem State.makeReferral_pending (i : Fin 256) (l : List (Fin 256)) (x : RefEntry) (s : State) : (s.makeReferral i l x).pending = s.pending :=
  rfl

@[simp] theorem State.freeReferral_ports (i : Fin 256) (s : State) : (s.freeReferral i).ports = s.ports := rfl
@[simp] theorem State.freeReferral_clock (i : Fin 256) (s : State) : (s.freeReferral i).clock = s.clock := rfl
@[simp] theorem State.freeReferral_tables (i : Fin 256) (s : State) : (s.freeReferral i).tables = s.tables := rfl
@[simp] theorem State.freeReferral_jt (i : Fin 256) (s : State) : (s.freeReferral i).jt = s.jt := rfl
@[simp] theorem State.freeReferral_pu (i : Fin 256) (s : State) : (s.freeReferral i).pu = s.pu := rfl
@[simp] theorem State.freeReferral_expiry (i : Fin 256) (s : State) : (s.freeReferral i).expiry = s.expiry := rfl
@[simp] theorem State.freeReferral_pool (i : Fin 256) (s : State) : (s.freeReferral i).pool = s.pool := rfl
@[simp] theorem State.freeReferral_fu (i : Fin 256) (s : State) : (s.freeReferral i).fu = s.fu := rfl
@[simp] theorem State.freeReferral_roll (i : Fin 256) (s : State) : (s.freeReferral i).roll = s.roll := rfl
@[simp] theorem State.freeReferral_lli (i : Fin 256) (s : State) : (s.freeReferral i).lli = s.lli := rfl
@[simp] theorem State.freeReferral_counters (i : Fin 256) (s : State) : (s.freeReferral i).counters = s.counters := rfl
@[simp] theorem State.freeReferral_pending (i : Fin 256) (s : State) : (s.freeReferral i).pending = s.pending := rfl

@[simp] theorem State.placeOutcome_ports (p : Pricing) (s : State) : (s.placeOutcome p).ports = s.ports := rfl
@[simp] theorem State.placeOutcome_clock (p : Pricing) (s : State) : (s.placeOutcome p).clock = s.clock := rfl
@[simp] theorem State.placeOutcome_tables (p : Pricing) (s : State) : (s.placeOutcome p).tables = s.tables := rfl
@[simp] theorem State.placeOutcome_jt (p : Pricing) (s : State) : (s.placeOutcome p).jt = s.jt := rfl
@[simp] theorem State.placeOutcome_pu (p : Pricing) (s : State) : (s.placeOutcome p).pu = s.pu := rfl
@[simp] theorem State.placeOutcome_expiry (p : Pricing) (s : State) : (s.placeOutcome p).expiry = s.expiry := rfl
@[simp] theorem State.placeOutcome_pool (p : Pricing) (s : State) : (s.placeOutcome p).pool = s.pool := rfl
@[simp] theorem State.placeOutcome_fu (p : Pricing) (s : State) : (s.placeOutcome p).fu = s.fu := rfl
@[simp] theorem State.placeOutcome_rt (p : Pricing) (s : State) : (s.placeOutcome p).rt = s.rt := rfl
@[simp] theorem State.placeOutcome_roll (p : Pricing) (s : State) : (s.placeOutcome p).roll = s.roll := rfl
@[simp] theorem State.placeOutcome_pending (p : Pricing) (s : State) : (s.placeOutcome p).pending = s.pending := rfl

end Sys2Proof.Machine
end

