-- ==== Sys2Proof/Laws/Counters.lean ====
section
/-! SUPPORT. The device counters have places of their own: raising one changes its value and no other. -/

namespace Sys2Proof.Machine

/-- Every counter of a gate port. -/
def PortCounter.all : List PortCounter :=
  [.badFrames, .unexpectedFrames, .overCreditTaps, .lostTaps, .malformedItems, .discardedAnswers, .badDayBeacons,
    .badTimeBeacons]

/-- Every divert reason, in the order of its counters. -/
def DivertReason.all : List DivertReason := Condition.all.map .condition ++ [.referredProduct]

/-- Every TAP_NOTICE reason, in the order of its counters. -/
def NoticeReason.all : List NoticeReason :=
  [.malformed, .notReady, .wrongDay, .stationMismatch, .lateDay, .tableFull, .productInvalid]

/-- The counters of the gate ports, port by port. -/
def CounterId.ofPorts : List CounterId :=
  (List.finRange 8).flatMap fun p => PortCounter.all.map fun k => CounterId.port p k

/-- The counters of the line link, the journey table and the Pairing Unit, but for those by reason. -/
def CounterId.ofLinkAndPairing : List CounterId :=
  [.foreignFrames, .lineBadFrames, .lineUnexpectedFrames, .receiveOverruns, .carrierLosses, .chainLimitRefusals,
    .poolEmptyRefusals, .pendingSaturations, .duplicates, .displacements, .journeyLimitExpiries, .holdExpiries]

/-- The counters of the Work Pool and the count of JOURNEY frames. -/
def CounterId.ofWork : List CounterId := [.agingGrants, .stalls, .slotWaits, .journeyFrames]

/-- The counters of the Referral Table and the Roll Sweep. -/
def CounterId.ofReferralsAndRoll : List CounterId :=
  [.referralRequests, .referralUnavailable, .answersTaken, .lateAnswers, .alreadyAnswered, .refusedAnswers, .timeouts,
    .recordGone, .closures, .daySummaries, .rollsCompleted]

/-- Every device counter, in the order of its place. -/
def CounterId.all : List CounterId :=
  List.flatten [CounterId.ofPorts, CounterId.ofLinkAndPairing, List.map CounterId.tapNotices NoticeReason.all,
    CounterId.ofWork, List.map CounterId.conditions Condition.all, List.map CounterId.diverts DivertReason.all,
    CounterId.ofReferralsAndRoll]

theorem CounterId.all_at_index (c : CounterId) : CounterId.all[c.index.val]? = some c := by
  cases c with
  | port p k => revert p; cases k <;> decide +kernel
  | tapNotices r => cases r <;> decide +kernel
  | conditions r => cases r <;> decide +kernel
  | diverts r => rcases r with _ | r <;> (try cases r) <;> decide +kernel
  | _ => decide +kernel

theorem CounterId.index_injective {c d : CounterId} (h : c.index = d.index) : c = d := by
  have hc := c.all_at_index
  rw [h, d.all_at_index] at hc
  exact (Option.some.inj hc).symm

@[simp] theorem Counters.value_add_same (cs : Counters) (c : CounterId) (n : Nat) :
    (cs.add c n).value c = min Config.counterMax (cs.value c + n) := by simp [Counters.add, Counters.value]

theorem Counters.value_add_other (cs : Counters) {c d : CounterId} (n : Nat) (h : d ≠ c) :
    (cs.add c n).value d = cs.value d := by
  have : (c.index : Nat) ≠ d.index := fun e => h (CounterId.index_injective (Fin.ext e.symm))
  simp [Counters.add, Counters.value, Fin.getElem_fin, this]

/-- A raised counter stays a 32-bit count (R189). -/
theorem Counters.add_le (cs : Counters) (c : CounterId) (n : Nat) (h : ∀ i : Fin 117, cs[i] ≤ Config.counterMax)
    (i : Fin 117) : (cs.add c n)[i] ≤ Config.counterMax := by
  simp only [Counters.add, Fin.getElem_fin, Vector.getElem_set]
  split
  · exact Nat.min_le_left _ _
  · exact h i

end Sys2Proof.Machine
end

