-- ==== Sys2Proof/Laws/Frames.lean ====
section
/-! SUPPORT. What the shared operations leave unchanged, one lemma per field: an operation writes the fields its rule names. -/

namespace Sys2Proof.Machine


@[simp] theorem State.offerSweepIfFell_ports (n : Nat) (s : State) :
    (s.offerSweepIfFell n).ports = s.ports := by
  simp only [State.offerSweepIfFell]; (repeat' split) <;> simp

@[simp] theorem State.offerSweepIfFell_clock (n : Nat) (s : State) :
    (s.offerSweepIfFell n).clock = s.clock := by
  simp only [State.offerSweepIfFell]; (repeat' split) <;> simp

@[simp] theorem State.offerSweepIfFell_tables (n : Nat) (s : State) :
    (s.offerSweepIfFell n).tables = s.tables := by
  simp only [State.offerSweepIfFell]; (repeat' split) <;> simp

@[simp] theorem State.offerSweepIfFell_jt (n : Nat) (s : State) :
    (s.offerSweepIfFell n).jt = s.jt := by
  simp only [State.offerSweepIfFell]; (repeat' split) <;> simp

@[simp] theorem State.offerSweepIfFell_pu (n : Nat) (s : State) :
    (s.offerSweepIfFell n).pu = s.pu := by
  simp only [State.offerSweepIfFell]; (repeat' split) <;> simp

@[simp] theorem State.offerSweepIfFell_expiry (n : Nat) (s : State) :
    (s.offerSweepIfFell n).expiry = s.expiry := by
  simp only [State.offerSweepIfFell]; (repeat' split) <;> simp

@[simp] theorem State.offerSweepIfFell_pool (n : Nat) (s : State) :
    (s.offerSweepIfFell n).pool = s.pool := by
  simp only [State.offerSweepIfFell]; (repeat' split) <;> simp

@[simp] theorem State.offerSweepIfFell_fu (n : Nat) (s : State) :
    (s.offerSweepIfFell n).fu = s.fu := by
  simp only [State.offerSweepIfFell]; (repeat' split) <;> simp

@[simp] theorem State.offerSweepIfFell_rt (n : Nat) (s : State) :
    (s.offerSweepIfFell n).rt = s.rt := by
  simp only [State.offerSweepIfFell]; (repeat' split) <;> simp

@[simp] theorem State.offerSweepIfFell_lli (n : Nat) (s : State) :
    (s.offerSweepIfFell n).lli = s.lli := by
  simp only [State.offerSweepIfFell]; (repeat' split) <;> simp

@[simp] theorem State.offerSweepIfFell_counters (n : Nat) (s : State) :
    (s.offerSweepIfFell n).counters = s.counters := by
  simp only [State.offerSweepIfFell]; (repeat' split) <;> simp

@[simp] theorem State.offerSweepIfFell_pending (n : Nat) (s : State) :
    (s.offerSweepIfFell n).pending = s.pending := by
  simp only [State.offerSweepIfFell]; (repeat' split) <;> simp

@[simp] theorem State.pushFor_ports (c : AttnClass) (f : UpFrame) (s : State) :
    (s.pushFor c f).ports = s.ports := by
  cases c <;> rfl

@[simp] theorem State.pushFor_clock (c : AttnClass) (f : UpFrame) (s : State) :
    (s.pushFor c f).clock = s.clock := by
  cases c <;> rfl

@[simp] theorem State.pushFor_tables (c : AttnClass) (f : UpFrame) (s : State) :
    (s.pushFor c f).tables = s.tables := by
  cases c <;> rfl

@[simp] theorem State.pushFor_jt (c : AttnClass) (f : UpFrame) (s : State) :
    (s.pushFor c f).jt = s.jt := by
  cases c <;> rfl

@[simp] theorem State.pushFor_pu (c : AttnClass) (f : UpFrame) (s : State) :
    (s.pushFor c f).pu = s.pu := by
  cases c <;> rfl

@[simp] theorem State.pushFor_expiry (c : AttnClass) (f : UpFrame) (s : State) :
    (s.pushFor c f).expiry = s.expiry := by
  cases c <;> rfl

@[simp] theorem State.pushFor_pool (c : AttnClass) (f : UpFrame) (s : State) :
    (s.pushFor c f).pool = s.pool := by
  cases c <;> rfl

@[simp] theorem State.pushFor_fu (c : AttnClass) (f : UpFrame) (s : State) :
    (s.pushFor c f).fu = s.fu := by
  cases c <;> rfl

@[simp] theorem State.pushFor_rt (c : AttnClass) (f : UpFrame) (s : State) :
    (s.pushFor c f).rt = s.rt := by
  cases c <;> rfl

@[simp] theorem State.pushFor_roll (c : AttnClass) (f : UpFrame) (s : State) :
    (s.pushFor c f).roll = s.roll := by
  cases c <;> rfl

@[simp] theorem State.pushFor_counters (c : AttnClass) (f : UpFrame) (s : State) :
    (s.pushFor c f).counters = s.counters := by
  cases c <;> rfl

@[simp] theorem State.pushFor_pending (c : AttnClass) (f : UpFrame) (s : State) :
    (s.pushFor c f).pending = s.pending := by
  cases c <;> rfl

@[simp] theorem State.raise_clock (p : PortId) (k : AttnKind) (d : AttnDetail) (s : State) :
    (s.raise p k d).clock = s.clock := by
  simp only [State.raise]; (repeat' split) <;> simp

@[simp] theorem State.raise_tables (p : PortId) (k : AttnKind) (d : AttnDetail) (s : State) :
    (s.raise p k d).tables = s.tables := by
  simp only [State.raise]; (repeat' split) <;> simp

@[simp] theorem State.raise_jt (p : PortId) (k : AttnKind) (d : AttnDetail) (s : State) :
    (s.raise p k d).jt = s.jt := by
  simp only [State.raise]; (repeat' split) <;> simp

@[simp] theorem State.raise_pu (p : PortId) (k : AttnKind) (d : AttnDetail) (s : State) :
    (s.raise p k d).pu = s.pu := by
  simp only [State.raise]; (repeat' split) <;> simp

@[simp] theorem State.raise_expiry (p : PortId) (k : AttnKind) (d : AttnDetail) (s : State) :
    (s.raise p k d).expiry = s.expiry := by
  simp only [State.raise]; (repeat' split) <;> simp

@[simp] theorem State.raise_pool (p : PortId) (k : AttnKind) (d : AttnDetail) (s : State) :
    (s.raise p k d).pool = s.pool := by
  simp only [State.raise]; (repeat' split) <;> simp

@[simp] theorem State.raise_fu (p : PortId) (k : AttnKind) (d : AttnDetail) (s : State) :
    (s.raise p k d).fu = s.fu := by
  simp only [State.raise]; (repeat' split) <;> simp

@[simp] theorem State.raise_rt (p : PortId) (k : AttnKind) (d : AttnDetail) (s : State) :
    (s.raise p k d).rt = s.rt := by
  simp only [State.raise]; (repeat' split) <;> simp

@[simp] theorem State.raise_roll (p : PortId) (k : AttnKind) (d : AttnDetail) (s : State) :
    (s.raise p k d).roll = s.roll := by
  simp only [State.raise]; (repeat' split) <;> simp

@[simp] theorem State.raise_counters (p : PortId) (k : AttnKind) (d : AttnDetail) (s : State) :
    (s.raise p k d).counters = s.counters := by
  simp only [State.raise]; (repeat' split) <;> simp

@[simp] theorem State.raise_pending (p : PortId) (k : AttnKind) (d : AttnDetail) (s : State) :
    (s.raise p k d).pending = s.pending := by
  simp only [State.raise]; (repeat' split) <;> simp

@[simp] theorem State.bumpConditions_ports (cs : CondSet) (s : State) :
    (s.bumpConditions cs).ports = s.ports := by
  unfold State.bumpConditions; induction cs.members generalizing s <;> simp_all [List.foldl]

@[simp] theorem State.bumpConditions_clock (cs : CondSet) (s : State) :
    (s.bumpConditions cs).clock = s.clock := by
  unfold State.bumpConditions; induction cs.members generalizing s <;> simp_all [List.foldl]

@[simp] theorem State.bumpConditions_tables (cs : CondSet) (s : State) :
    (s.bumpConditions cs).tables = s.tables := by
  unfold State.bumpConditions; induction cs.members generalizing s <;> simp_all [List.foldl]

@[simp] theorem State.bumpConditions_jt (cs : CondSet) (s : State) :
    (s.bumpConditions cs).jt = s.jt := by
  unfold State.bumpConditions; induction cs.members generalizing s <;> simp_all [List.foldl]

@[simp] theorem State.bumpConditions_pu (cs : CondSet) (s : State) :
    (s.bumpConditions cs).pu = s.pu := by
  unfold State.bumpConditions; induction cs.members generalizing s <;> simp_all [List.foldl]

@[simp] theorem State.bumpConditions_expiry (cs : CondSet) (s : State) :
    (s.bumpConditions cs).expiry = s.expiry := by
  unfold State.bumpConditions; induction cs.members generalizing s <;> simp_all [List.foldl]

@[simp] theorem State.bumpConditions_pool (cs : CondSet) (s : State) :
    (s.bumpConditions cs).pool = s.pool := by
  unfold State.bumpConditions; induction cs.members generalizing s <;> simp_all [List.foldl]

@[simp] theorem State.bumpConditions_fu (cs : CondSet) (s : State) :
    (s.bumpConditions cs).fu = s.fu := by
  unfold State.bumpConditions; induction cs.members generalizing s <;> simp_all [List.foldl]

@[simp] theorem State.bumpConditions_rt (cs : CondSet) (s : State) :
    (s.bumpConditions cs).rt = s.rt := by
  unfold State.bumpConditions; induction cs.members generalizing s <;> simp_all [List.foldl]

@[simp] theorem State.bumpConditions_roll (cs : CondSet) (s : State) :
    (s.bumpConditions cs).roll = s.roll := by
  unfold State.bumpConditions; induction cs.members generalizing s <;> simp_all [List.foldl]

@[simp] theorem State.bumpConditions_lli (cs : CondSet) (s : State) :
    (s.bumpConditions cs).lli = s.lli := by
  unfold State.bumpConditions; induction cs.members generalizing s <;> simp_all [List.foldl]

@[simp] theorem State.bumpConditions_pending (cs : CondSet) (s : State) :
    (s.bumpConditions cs).pending = s.pending := by
  unfold State.bumpConditions; induction cs.members generalizing s <;> simp_all [List.foldl]

@[simp] theorem State.copyReply_ports (st : Status) (s : State) :
    (s.copyReply st).ports = s.ports := by
  simp only [State.copyReply]; (repeat' split) <;> simp

@[simp] theorem State.copyReply_clock (st : Status) (s : State) :
    (s.copyReply st).clock = s.clock := by
  simp only [State.copyReply]; (repeat' split) <;> simp

@[simp] theorem State.copyReply_tables (st : Status) (s : State) :
    (s.copyReply st).tables = s.tables := by
  simp only [State.copyReply]; (repeat' split) <;> simp

@[simp] theorem State.copyReply_jt (st : Status) (s : State) :
    (s.copyReply st).jt = s.jt := by
  simp only [State.copyReply]; (repeat' split) <;> simp

@[simp] theorem State.copyReply_pu (st : Status) (s : State) :
    (s.copyReply st).pu = s.pu := by
  simp only [State.copyReply]; (repeat' split) <;> simp

@[simp] theorem State.copyReply_expiry (st : Status) (s : State) :
    (s.copyReply st).expiry = s.expiry := by
  simp only [State.copyReply]; (repeat' split) <;> simp

@[simp] theorem State.copyReply_pool (st : Status) (s : State) :
    (s.copyReply st).pool = s.pool := by
  simp only [State.copyReply]; (repeat' split) <;> simp

@[simp] theorem State.copyReply_fu (st : Status) (s : State) :
    (s.copyReply st).fu = s.fu := by
  simp only [State.copyReply]; (repeat' split) <;> simp

@[simp] theorem State.copyReply_rt (st : Status) (s : State) :
    (s.copyReply st).rt = s.rt := by
  simp only [State.copyReply]; (repeat' split) <;> simp

@[simp] theorem State.copyReply_roll (st : Status) (s : State) :
    (s.copyReply st).roll = s.roll := by
  simp only [State.copyReply]; (repeat' split) <;> simp

@[simp] theorem State.copyReply_counters (st : Status) (s : State) :
    (s.copyReply st).counters = s.counters := by
  simp only [State.copyReply]; (repeat' split) <;> simp

@[simp] theorem State.copyReply_pending (st : Status) (s : State) :
    (s.copyReply st).pending = s.pending := by
  simp only [State.copyReply]; (repeat' split) <;> simp

@[simp] theorem State.countSaturation_ports (r : Record) (s : State) :
    (s.countSaturation r).ports = s.ports := by
  simp only [State.countSaturation]; (repeat' split) <;> simp

@[simp] theorem State.countSaturation_clock (r : Record) (s : State) :
    (s.countSaturation r).clock = s.clock := by
  simp only [State.countSaturation]; (repeat' split) <;> simp

@[simp] theorem State.countSaturation_tables (r : Record) (s : State) :
    (s.countSaturation r).tables = s.tables := by
  simp only [State.countSaturation]; (repeat' split) <;> simp

@[simp] theorem State.countSaturation_jt (r : Record) (s : State) :
    (s.countSaturation r).jt = s.jt := by
  simp only [State.countSaturation]; (repeat' split) <;> simp

@[simp] theorem State.countSaturation_pu (r : Record) (s : State) :
    (s.countSaturation r).pu = s.pu := by
  simp only [State.countSaturation]; (repeat' split) <;> simp

@[simp] theorem State.countSaturation_expiry (r : Record) (s : State) :
    (s.countSaturation r).expiry = s.expiry := by
  simp only [State.countSaturation]; (repeat' split) <;> simp

@[simp] theorem State.countSaturation_pool (r : Record) (s : State) :
    (s.countSaturation r).pool = s.pool := by
  simp only [State.countSaturation]; (repeat' split) <;> simp

@[simp] theorem State.countSaturation_fu (r : Record) (s : State) :
    (s.countSaturation r).fu = s.fu := by
  simp only [State.countSaturation]; (repeat' split) <;> simp

@[simp] theorem State.countSaturation_rt (r : Record) (s : State) :
    (s.countSaturation r).rt = s.rt := by
  simp only [State.countSaturation]; (repeat' split) <;> simp

@[simp] theorem State.countSaturation_roll (r : Record) (s : State) :
    (s.countSaturation r).roll = s.roll := by
  simp only [State.countSaturation]; (repeat' split) <;> simp

@[simp] theorem State.countSaturation_lli (r : Record) (s : State) :
    (s.countSaturation r).lli = s.lli := by
  simp only [State.countSaturation]; (repeat' split) <;> simp

@[simp] theorem State.countSaturation_pending (r : Record) (s : State) :
    (s.countSaturation r).pending = s.pending := by
  simp only [State.countSaturation]; (repeat' split) <;> simp

@[simp] theorem State.writeRecordWithWork_ports (r : Record) (s : State) :
    (s.writeRecordWithWork r).ports = s.ports := by
  simp [State.writeRecordWithWork]

@[simp] theorem State.writeRecordWithWork_clock (r : Record) (s : State) :
    (s.writeRecordWithWork r).clock = s.clock := by
  simp [State.writeRecordWithWork]

@[simp] theorem State.writeRecordWithWork_tables (r : Record) (s : State) :
    (s.writeRecordWithWork r).tables = s.tables := by
  simp [State.writeRecordWithWork]

@[simp] theorem State.writeRecordWithWork_pu (r : Record) (s : State) :
    (s.writeRecordWithWork r).pu = s.pu := by
  simp [State.writeRecordWithWork]

@[simp] theorem State.writeRecordWithWork_expiry (r : Record) (s : State) :
    (s.writeRecordWithWork r).expiry = s.expiry := by
  simp [State.writeRecordWithWork]

@[simp] theorem State.writeRecordWithWork_pool (r : Record) (s : State) :
    (s.writeRecordWithWork r).pool = s.pool := by
  simp [State.writeRecordWithWork]

@[simp] theorem State.writeRecordWithWork_fu (r : Record) (s : State) :
    (s.writeRecordWithWork r).fu = s.fu := by
  simp [State.writeRecordWithWork]

@[simp] theorem State.writeRecordWithWork_rt (r : Record) (s : State) :
    (s.writeRecordWithWork r).rt = s.rt := by
  simp [State.writeRecordWithWork]

@[simp] theorem State.writeRecordWithWork_roll (r : Record) (s : State) :
    (s.writeRecordWithWork r).roll = s.roll := by
  simp [State.writeRecordWithWork]

@[simp] theorem State.writeRecordWithWork_lli (r : Record) (s : State) :
    (s.writeRecordWithWork r).lli = s.lli := by
  simp [State.writeRecordWithWork]

@[simp] theorem State.writeRecordWithWork_pending (r : Record) (s : State) :
    (s.writeRecordWithWork r).pending = s.pending := by
  simp [State.writeRecordWithWork]

@[simp] theorem State.reportIfReady_ports (r : Record) (s : State) :
    (s.reportIfReady r).ports = s.ports := by
  simp only [State.reportIfReady]; (repeat' split) <;> simp

@[simp] theorem State.reportIfReady_clock (r : Record) (s : State) :
    (s.reportIfReady r).clock = s.clock := by
  simp only [State.reportIfReady]; (repeat' split) <;> simp

@[simp] theorem State.reportIfReady_tables (r : Record) (s : State) :
    (s.reportIfReady r).tables = s.tables := by
  simp only [State.reportIfReady]; (repeat' split) <;> simp

@[simp] theorem State.reportIfReady_jt (r : Record) (s : State) :
    (s.reportIfReady r).jt = s.jt := by
  simp only [State.reportIfReady]; (repeat' split) <;> simp

@[simp] theorem State.reportIfReady_pu (r : Record) (s : State) :
    (s.reportIfReady r).pu = s.pu := by
  simp only [State.reportIfReady]; (repeat' split) <;> simp

@[simp] theorem State.reportIfReady_expiry (r : Record) (s : State) :
    (s.reportIfReady r).expiry = s.expiry := by
  simp only [State.reportIfReady]; (repeat' split) <;> simp

@[simp] theorem State.reportIfReady_pool (r : Record) (s : State) :
    (s.reportIfReady r).pool = s.pool := by
  simp only [State.reportIfReady]; (repeat' split) <;> simp

@[simp] theorem State.reportIfReady_fu (r : Record) (s : State) :
    (s.reportIfReady r).fu = s.fu := by
  simp only [State.reportIfReady]; (repeat' split) <;> simp

@[simp] theorem State.reportIfReady_rt (r : Record) (s : State) :
    (s.reportIfReady r).rt = s.rt := by
  simp only [State.reportIfReady]; (repeat' split) <;> simp

@[simp] theorem State.reportIfReady_lli (r : Record) (s : State) :
    (s.reportIfReady r).lli = s.lli := by
  simp only [State.reportIfReady]; (repeat' split) <;> simp

@[simp] theorem State.reportIfReady_counters (r : Record) (s : State) :
    (s.reportIfReady r).counters = s.counters := by
  simp only [State.reportIfReady]; (repeat' split) <;> simp

@[simp] theorem State.reportIfReady_pending (r : Record) (s : State) :
    (s.reportIfReady r).pending = s.pending := by
  simp only [State.reportIfReady]; (repeat' split) <;> simp

@[simp] theorem State.makeOverrun_ports (s : State) :
    (s.makeOverrun).ports = s.ports := by
  simp only [State.makeOverrun]; (repeat' split) <;> simp

@[simp] theorem State.makeOverrun_tables (s : State) :
    (s.makeOverrun).tables = s.tables := by
  simp only [State.makeOverrun]; (repeat' split) <;> simp

@[simp] theorem State.makeOverrun_jt (s : State) :
    (s.makeOverrun).jt = s.jt := by
  simp only [State.makeOverrun]; (repeat' split) <;> simp

@[simp] theorem State.makeOverrun_pu (s : State) :
    (s.makeOverrun).pu = s.pu := by
  simp only [State.makeOverrun]; (repeat' split) <;> simp

@[simp] theorem State.makeOverrun_expiry (s : State) :
    (s.makeOverrun).expiry = s.expiry := by
  simp only [State.makeOverrun]; (repeat' split) <;> simp

@[simp] theorem State.makeOverrun_pool (s : State) :
    (s.makeOverrun).pool = s.pool := by
  simp only [State.makeOverrun]; (repeat' split) <;> simp

@[simp] theorem State.makeOverrun_fu (s : State) :
    (s.makeOverrun).fu = s.fu := by
  simp only [State.makeOverrun]; (repeat' split) <;> simp

@[simp] theorem State.makeOverrun_rt (s : State) :
    (s.makeOverrun).rt = s.rt := by
  simp only [State.makeOverrun]; (repeat' split) <;> simp

@[simp] theorem State.makeOverrun_roll (s : State) :
    (s.makeOverrun).roll = s.roll := by
  simp only [State.makeOverrun]; (repeat' split) <;> simp

@[simp] theorem State.makeOverrun_counters (s : State) :
    (s.makeOverrun).counters = s.counters := by
  simp only [State.makeOverrun]; (repeat' split) <;> simp

@[simp] theorem State.makeOverrun_pending (s : State) :
    (s.makeOverrun).pending = s.pending := by
  simp only [State.makeOverrun]; (repeat' split) <;> simp

@[simp] theorem State.checkOverrun_ports (s : State) :
    (s.checkOverrun).ports = s.ports := by
  simp only [State.checkOverrun]; (repeat' split) <;> simp

@[simp] theorem State.checkOverrun_tables (s : State) :
    (s.checkOverrun).tables = s.tables := by
  simp only [State.checkOverrun]; (repeat' split) <;> simp

@[simp] theorem State.checkOverrun_jt (s : State) :
    (s.checkOverrun).jt = s.jt := by
  simp only [State.checkOverrun]; (repeat' split) <;> simp

@[simp] theorem State.checkOverrun_pu (s : State) :
    (s.checkOverrun).pu = s.pu := by
  simp only [State.checkOverrun]; (repeat' split) <;> simp

@[simp] theorem State.checkOverrun_expiry (s : State) :
    (s.checkOverrun).expiry = s.expiry := by
  simp only [State.checkOverrun]; (repeat' split) <;> simp

@[simp] theorem State.checkOverrun_pool (s : State) :
    (s.checkOverrun).pool = s.pool := by
  simp only [State.checkOverrun]; (repeat' split) <;> simp

@[simp] theorem State.checkOverrun_fu (s : State) :
    (s.checkOverrun).fu = s.fu := by
  simp only [State.checkOverrun]; (repeat' split) <;> simp

@[simp] theorem State.checkOverrun_rt (s : State) :
    (s.checkOverrun).rt = s.rt := by
  simp only [State.checkOverrun]; (repeat' split) <;> simp

@[simp] theorem State.checkOverrun_roll (s : State) :
    (s.checkOverrun).roll = s.roll := by
  simp only [State.checkOverrun]; (repeat' split) <;> simp

@[simp] theorem State.checkOverrun_counters (s : State) :
    (s.checkOverrun).counters = s.counters := by
  simp only [State.checkOverrun]; (repeat' split) <;> simp

@[simp] theorem State.checkOverrun_pending (s : State) :
    (s.checkOverrun).pending = s.pending := by
  simp only [State.checkOverrun]; (repeat' split) <;> simp

@[simp] theorem State.setLineTime_tables (t : Nat) (s : State) :
    (s.setLineTime t).tables = s.tables := by
  simp [State.setLineTime]

@[simp] theorem State.setLineTime_jt (t : Nat) (s : State) :
    (s.setLineTime t).jt = s.jt := by
  simp [State.setLineTime]

@[simp] theorem State.setLineTime_pu (t : Nat) (s : State) :
    (s.setLineTime t).pu = s.pu := by
  simp [State.setLineTime]

@[simp] theorem State.setLineTime_pool (t : Nat) (s : State) :
    (s.setLineTime t).pool = s.pool := by
  simp [State.setLineTime]

@[simp] theorem State.setLineTime_fu (t : Nat) (s : State) :
    (s.setLineTime t).fu = s.fu := by
  simp [State.setLineTime]

@[simp] theorem State.setLineTime_roll (t : Nat) (s : State) :
    (s.setLineTime t).roll = s.roll := by
  simp [State.setLineTime]

@[simp] theorem State.setLineTime_counters (t : Nat) (s : State) :
    (s.setLineTime t).counters = s.counters := by
  simp [State.setLineTime]

@[simp] theorem State.setLineTime_pending (t : Nat) (s : State) :
    (s.setLineTime t).pending = s.pending := by
  simp [State.setLineTime]

@[simp] theorem State.release_clock (p : PortId) (st : PortState) (s : State) :
    (s.release p st).clock = s.clock := by
  simp [State.release]

@[simp] theorem State.release_tables (p : PortId) (st : PortState) (s : State) :
    (s.release p st).tables = s.tables := by
  simp [State.release]

@[simp] theorem State.release_jt (p : PortId) (st : PortState) (s : State) :
    (s.release p st).jt = s.jt := by
  simp [State.release]

@[simp] theorem State.release_pu (p : PortId) (st : PortState) (s : State) :
    (s.release p st).pu = s.pu := by
  simp [State.release]

@[simp] theorem State.release_expiry (p : PortId) (st : PortState) (s : State) :
    (s.release p st).expiry = s.expiry := by
  simp [State.release]

@[simp] theorem State.release_fu (p : PortId) (st : PortState) (s : State) :
    (s.release p st).fu = s.fu := by
  simp [State.release]

@[simp] theorem State.release_rt (p : PortId) (st : PortState) (s : State) :
    (s.release p st).rt = s.rt := by
  simp [State.release]

@[simp] theorem State.release_lli (p : PortId) (st : PortState) (s : State) :
    (s.release p st).lli = s.lli := by
  simp [State.release]

@[simp] theorem State.release_counters (p : PortId) (st : PortState) (s : State) :
    (s.release p st).counters = s.counters := by
  simp [State.release]

@[simp] theorem State.release_pending (p : PortId) (st : PortState) (s : State) :
    (s.release p st).pending = s.pending := by
  simp [State.release]

@[simp] theorem State.completeDetach_clock (p : PortId) (s : State) :
    (s.completeDetach p).clock = s.clock := by
  simp [State.completeDetach]

@[simp] theorem State.completeDetach_tables (p : PortId) (s : State) :
    (s.completeDetach p).tables = s.tables := by
  simp [State.completeDetach]

@[simp] theorem State.completeDetach_jt (p : PortId) (s : State) :
    (s.completeDetach p).jt = s.jt := by
  simp [State.completeDetach]

@[simp] theorem State.completeDetach_pu (p : PortId) (s : State) :
    (s.completeDetach p).pu = s.pu := by
  simp [State.completeDetach]

@[simp] theorem State.completeDetach_expiry (p : PortId) (s : State) :
    (s.completeDetach p).expiry = s.expiry := by
  simp [State.completeDetach]

@[simp] theorem State.completeDetach_pool (p : PortId) (s : State) :
    (s.completeDetach p).pool = s.pool := by
  simp [State.completeDetach]

@[simp] theorem State.completeDetach_fu (p : PortId) (s : State) :
    (s.completeDetach p).fu = s.fu := by
  simp [State.completeDetach]

@[simp] theorem State.completeDetach_rt (p : PortId) (s : State) :
    (s.completeDetach p).rt = s.rt := by
  simp [State.completeDetach]

@[simp] theorem State.completeDetach_counters (p : PortId) (s : State) :
    (s.completeDetach p).counters = s.counters := by
  simp [State.completeDetach]

@[simp] theorem State.completeDetach_pending (p : PortId) (s : State) :
    (s.completeDetach p).pending = s.pending := by
  simp [State.completeDetach]

@[simp] theorem State.completeDetachIfDone_clock (p : PortId) (s : State) :
    (s.completeDetachIfDone p).clock = s.clock := by
  simp only [State.completeDetachIfDone]; (repeat' split) <;> simp

@[simp] theorem State.completeDetachIfDone_tables (p : PortId) (s : State) :
    (s.completeDetachIfDone p).tables = s.tables := by
  simp only [State.completeDetachIfDone]; (repeat' split) <;> simp

@[simp] theorem State.completeDetachIfDone_jt (p : PortId) (s : State) :
    (s.completeDetachIfDone p).jt = s.jt := by
  simp only [State.completeDetachIfDone]; (repeat' split) <;> simp

@[simp] theorem State.completeDetachIfDone_pu (p : PortId) (s : State) :
    (s.completeDetachIfDone p).pu = s.pu := by
  simp only [State.completeDetachIfDone]; (repeat' split) <;> simp

@[simp] theorem State.completeDetachIfDone_expiry (p : PortId) (s : State) :
    (s.completeDetachIfDone p).expiry = s.expiry := by
  simp only [State.completeDetachIfDone]; (repeat' split) <;> simp

@[simp] theorem State.completeDetachIfDone_pool (p : PortId) (s : State) :
    (s.completeDetachIfDone p).pool = s.pool := by
  simp only [State.completeDetachIfDone]; (repeat' split) <;> simp

@[simp] theorem State.completeDetachIfDone_fu (p : PortId) (s : State) :
    (s.completeDetachIfDone p).fu = s.fu := by
  simp only [State.completeDetachIfDone]; (repeat' split) <;> simp

@[simp] theorem State.completeDetachIfDone_rt (p : PortId) (s : State) :
    (s.completeDetachIfDone p).rt = s.rt := by
  simp only [State.completeDetachIfDone]; (repeat' split) <;> simp

@[simp] theorem State.completeDetachIfDone_counters (p : PortId) (s : State) :
    (s.completeDetachIfDone p).counters = s.counters := by
  simp only [State.completeDetachIfDone]; (repeat' split) <;> simp

@[simp] theorem State.completeDetachIfDone_pending (p : PortId) (s : State) :
    (s.completeDetachIfDone p).pending = s.pending := by
  simp only [State.completeDetachIfDone]; (repeat' split) <;> simp

@[simp] theorem State.takeTap_clock (p : PortId) (f : TapFrame) (n : Nat) (s : State) :
    (s.takeTap p f n).clock = s.clock := by
  simp only [State.takeTap]; (repeat' split) <;> simp

@[simp] theorem State.takeTap_tables (p : PortId) (f : TapFrame) (n : Nat) (s : State) :
    (s.takeTap p f n).tables = s.tables := by
  simp only [State.takeTap]; (repeat' split) <;> simp

@[simp] theorem State.takeTap_jt (p : PortId) (f : TapFrame) (n : Nat) (s : State) :
    (s.takeTap p f n).jt = s.jt := by
  simp only [State.takeTap]; (repeat' split) <;> simp

@[simp] theorem State.takeTap_pu (p : PortId) (f : TapFrame) (n : Nat) (s : State) :
    (s.takeTap p f n).pu = s.pu := by
  simp only [State.takeTap]; (repeat' split) <;> simp

@[simp] theorem State.takeTap_expiry (p : PortId) (f : TapFrame) (n : Nat) (s : State) :
    (s.takeTap p f n).expiry = s.expiry := by
  simp only [State.takeTap]; (repeat' split) <;> simp

@[simp] theorem State.takeTap_pool (p : PortId) (f : TapFrame) (n : Nat) (s : State) :
    (s.takeTap p f n).pool = s.pool := by
  simp only [State.takeTap]; (repeat' split) <;> simp

@[simp] theorem State.takeTap_fu (p : PortId) (f : TapFrame) (n : Nat) (s : State) :
    (s.takeTap p f n).fu = s.fu := by
  simp only [State.takeTap]; (repeat' split) <;> simp

@[simp] theorem State.takeTap_rt (p : PortId) (f : TapFrame) (n : Nat) (s : State) :
    (s.takeTap p f n).rt = s.rt := by
  simp only [State.takeTap]; (repeat' split) <;> simp

@[simp] theorem State.takeTap_roll (p : PortId) (f : TapFrame) (n : Nat) (s : State) :
    (s.takeTap p f n).roll = s.roll := by
  simp only [State.takeTap]; (repeat' split) <;> simp

@[simp] theorem State.takeTap_pending (p : PortId) (f : TapFrame) (n : Nat) (s : State) :
    (s.takeTap p f n).pending = s.pending := by
  simp only [State.takeTap]; (repeat' split) <;> simp

@[simp] theorem State.measureTap_clock (p : PortId) (f : TapFrame) (s : State) :
    (s.measureTap p f).clock = s.clock := by
  simp only [State.measureTap]; (repeat' split) <;> simp

@[simp] theorem State.measureTap_tables (p : PortId) (f : TapFrame) (s : State) :
    (s.measureTap p f).tables = s.tables := by
  simp only [State.measureTap]; (repeat' split) <;> simp

@[simp] theorem State.measureTap_jt (p : PortId) (f : TapFrame) (s : State) :
    (s.measureTap p f).jt = s.jt := by
  simp only [State.measureTap]; (repeat' split) <;> simp

@[simp] theorem State.measureTap_pu (p : PortId) (f : TapFrame) (s : State) :
    (s.measureTap p f).pu = s.pu := by
  simp only [State.measureTap]; (repeat' split) <;> simp

@[simp] theorem State.measureTap_expiry (p : PortId) (f : TapFrame) (s : State) :
    (s.measureTap p f).expiry = s.expiry := by
  simp only [State.measureTap]; (repeat' split) <;> simp

@[simp] theorem State.measureTap_pool (p : PortId) (f : TapFrame) (s : State) :
    (s.measureTap p f).pool = s.pool := by
  simp only [State.measureTap]; (repeat' split) <;> simp

@[simp] theorem State.measureTap_fu (p : PortId) (f : TapFrame) (s : State) :
    (s.measureTap p f).fu = s.fu := by
  simp only [State.measureTap]; (repeat' split) <;> simp

@[simp] theorem State.measureTap_rt (p : PortId) (f : TapFrame) (s : State) :
    (s.measureTap p f).rt = s.rt := by
  simp only [State.measureTap]; (repeat' split) <;> simp

@[simp] theorem State.measureTap_roll (p : PortId) (f : TapFrame) (s : State) :
    (s.measureTap p f).roll = s.roll := by
  simp only [State.measureTap]; (repeat' split) <;> simp

@[simp] theorem State.measureTap_pending (p : PortId) (f : TapFrame) (s : State) :
    (s.measureTap p f).pending = s.pending := by
  simp only [State.measureTap]; (repeat' split) <;> simp

@[simp] theorem State.applyBeacon_clock (p : PortId) (h : Nat) (d : Day) (s : State) :
    (s.applyBeacon p h d).clock = s.clock := by
  simp only [State.applyBeacon]; (repeat' split) <;> simp

@[simp] theorem State.applyBeacon_tables (p : PortId) (h : Nat) (d : Day) (s : State) :
    (s.applyBeacon p h d).tables = s.tables := by
  simp only [State.applyBeacon]; (repeat' split) <;> simp

@[simp] theorem State.applyBeacon_jt (p : PortId) (h : Nat) (d : Day) (s : State) :
    (s.applyBeacon p h d).jt = s.jt := by
  simp only [State.applyBeacon]; (repeat' split) <;> simp

@[simp] theorem State.applyBeacon_pu (p : PortId) (h : Nat) (d : Day) (s : State) :
    (s.applyBeacon p h d).pu = s.pu := by
  simp only [State.applyBeacon]; (repeat' split) <;> simp

@[simp] theorem State.applyBeacon_expiry (p : PortId) (h : Nat) (d : Day) (s : State) :
    (s.applyBeacon p h d).expiry = s.expiry := by
  simp only [State.applyBeacon]; (repeat' split) <;> simp

@[simp] theorem State.applyBeacon_pool (p : PortId) (h : Nat) (d : Day) (s : State) :
    (s.applyBeacon p h d).pool = s.pool := by
  simp only [State.applyBeacon]; (repeat' split) <;> simp

@[simp] theorem State.applyBeacon_fu (p : PortId) (h : Nat) (d : Day) (s : State) :
    (s.applyBeacon p h d).fu = s.fu := by
  simp only [State.applyBeacon]; (repeat' split) <;> simp

@[simp] theorem State.applyBeacon_rt (p : PortId) (h : Nat) (d : Day) (s : State) :
    (s.applyBeacon p h d).rt = s.rt := by
  simp only [State.applyBeacon]; (repeat' split) <;> simp

@[simp] theorem State.applyBeacon_roll (p : PortId) (h : Nat) (d : Day) (s : State) :
    (s.applyBeacon p h d).roll = s.roll := by
  simp only [State.applyBeacon]; (repeat' split) <;> simp

@[simp] theorem State.applyBeacon_pending (p : PortId) (h : Nat) (d : Day) (s : State) :
    (s.applyBeacon p h d).pending = s.pending := by
  simp only [State.applyBeacon]; (repeat' split) <;> simp

@[simp] theorem State.failAttach_clock (p : PortId) (c : AttachCause) (s : State) :
    (s.failAttach p c).clock = s.clock := by
  simp [State.failAttach]

@[simp] theorem State.failAttach_tables (p : PortId) (c : AttachCause) (s : State) :
    (s.failAttach p c).tables = s.tables := by
  simp [State.failAttach]

@[simp] theorem State.failAttach_jt (p : PortId) (c : AttachCause) (s : State) :
    (s.failAttach p c).jt = s.jt := by
  simp [State.failAttach]

@[simp] theorem State.failAttach_pu (p : PortId) (c : AttachCause) (s : State) :
    (s.failAttach p c).pu = s.pu := by
  simp [State.failAttach]

@[simp] theorem State.failAttach_expiry (p : PortId) (c : AttachCause) (s : State) :
    (s.failAttach p c).expiry = s.expiry := by
  simp [State.failAttach]

@[simp] theorem State.failAttach_pool (p : PortId) (c : AttachCause) (s : State) :
    (s.failAttach p c).pool = s.pool := by
  simp [State.failAttach]

@[simp] theorem State.failAttach_fu (p : PortId) (c : AttachCause) (s : State) :
    (s.failAttach p c).fu = s.fu := by
  simp [State.failAttach]

@[simp] theorem State.failAttach_rt (p : PortId) (c : AttachCause) (s : State) :
    (s.failAttach p c).rt = s.rt := by
  simp [State.failAttach]

@[simp] theorem State.failAttach_roll (p : PortId) (c : AttachCause) (s : State) :
    (s.failAttach p c).roll = s.roll := by
  simp [State.failAttach]

@[simp] theorem State.failAttach_counters (p : PortId) (c : AttachCause) (s : State) :
    (s.failAttach p c).counters = s.counters := by
  simp [State.failAttach]

@[simp] theorem State.failAttach_pending (p : PortId) (c : AttachCause) (s : State) :
    (s.failAttach p c).pending = s.pending := by
  simp [State.failAttach]

@[simp] theorem State.beginAttach_clock (p : PortId) (n : Nat) (s : State) :
    (s.beginAttach p n).clock = s.clock := by
  simp only [State.beginAttach]; (repeat' split) <;> simp

@[simp] theorem State.beginAttach_tables (p : PortId) (n : Nat) (s : State) :
    (s.beginAttach p n).tables = s.tables := by
  simp only [State.beginAttach]; (repeat' split) <;> simp

@[simp] theorem State.beginAttach_jt (p : PortId) (n : Nat) (s : State) :
    (s.beginAttach p n).jt = s.jt := by
  simp only [State.beginAttach]; (repeat' split) <;> simp

@[simp] theorem State.beginAttach_pu (p : PortId) (n : Nat) (s : State) :
    (s.beginAttach p n).pu = s.pu := by
  simp only [State.beginAttach]; (repeat' split) <;> simp

@[simp] theorem State.beginAttach_expiry (p : PortId) (n : Nat) (s : State) :
    (s.beginAttach p n).expiry = s.expiry := by
  simp only [State.beginAttach]; (repeat' split) <;> simp

@[simp] theorem State.beginAttach_pool (p : PortId) (n : Nat) (s : State) :
    (s.beginAttach p n).pool = s.pool := by
  simp only [State.beginAttach]; (repeat' split) <;> simp

@[simp] theorem State.beginAttach_fu (p : PortId) (n : Nat) (s : State) :
    (s.beginAttach p n).fu = s.fu := by
  simp only [State.beginAttach]; (repeat' split) <;> simp

@[simp] theorem State.beginAttach_rt (p : PortId) (n : Nat) (s : State) :
    (s.beginAttach p n).rt = s.rt := by
  simp only [State.beginAttach]; (repeat' split) <;> simp

@[simp] theorem State.beginAttach_roll (p : PortId) (n : Nat) (s : State) :
    (s.beginAttach p n).roll = s.roll := by
  simp only [State.beginAttach]; (repeat' split) <;> simp

@[simp] theorem State.beginAttach_counters (p : PortId) (n : Nat) (s : State) :
    (s.beginAttach p n).counters = s.counters := by
  simp only [State.beginAttach]; (repeat' split) <;> simp

@[simp] theorem State.beginAttach_pending (p : PortId) (n : Nat) (s : State) :
    (s.beginAttach p n).pending = s.pending := by
  simp only [State.beginAttach]; (repeat' split) <;> simp

@[simp] theorem State.advanceRun_clock (p : PortId) (s : State) :
    (s.advanceRun p).clock = s.clock := by
  simp only [State.advanceRun]; (repeat' split) <;> simp

@[simp] theorem State.advanceRun_tables (p : PortId) (s : State) :
    (s.advanceRun p).tables = s.tables := by
  simp only [State.advanceRun]; (repeat' split) <;> simp

@[simp] theorem State.advanceRun_jt (p : PortId) (s : State) :
    (s.advanceRun p).jt = s.jt := by
  simp only [State.advanceRun]; (repeat' split) <;> simp

@[simp] theorem State.advanceRun_pu (p : PortId) (s : State) :
    (s.advanceRun p).pu = s.pu := by
  simp only [State.advanceRun]; (repeat' split) <;> simp

@[simp] theorem State.advanceRun_expiry (p : PortId) (s : State) :
    (s.advanceRun p).expiry = s.expiry := by
  simp only [State.advanceRun]; (repeat' split) <;> simp

@[simp] theorem State.advanceRun_fu (p : PortId) (s : State) :
    (s.advanceRun p).fu = s.fu := by
  simp only [State.advanceRun]; (repeat' split) <;> simp

@[simp] theorem State.advanceRun_rt (p : PortId) (s : State) :
    (s.advanceRun p).rt = s.rt := by
  simp only [State.advanceRun]; (repeat' split) <;> simp

@[simp] theorem State.advanceRun_counters (p : PortId) (s : State) :
    (s.advanceRun p).counters = s.counters := by
  simp only [State.advanceRun]; (repeat' split) <;> simp

@[simp] theorem State.advanceRun_pending (p : PortId) (s : State) :
    (s.advanceRun p).pending = s.pending := by
  simp only [State.advanceRun]; (repeat' split) <;> simp

@[simp] theorem State.endTap_clock (p : PortId) (n : BitVec 16) (s : State) :
    (s.endTap p n).clock = s.clock := by
  simp only [State.endTap]; (repeat' split) <;> simp

@[simp] theorem State.endTap_tables (p : PortId) (n : BitVec 16) (s : State) :
    (s.endTap p n).tables = s.tables := by
  simp only [State.endTap]; (repeat' split) <;> simp

@[simp] theorem State.endTap_jt (p : PortId) (n : BitVec 16) (s : State) :
    (s.endTap p n).jt = s.jt := by
  simp only [State.endTap]; (repeat' split) <;> simp

@[simp] theorem State.endTap_pu (p : PortId) (n : BitVec 16) (s : State) :
    (s.endTap p n).pu = s.pu := by
  simp only [State.endTap]; (repeat' split) <;> simp

@[simp] theorem State.endTap_expiry (p : PortId) (n : BitVec 16) (s : State) :
    (s.endTap p n).expiry = s.expiry := by
  simp only [State.endTap]; (repeat' split) <;> simp

@[simp] theorem State.endTap_fu (p : PortId) (n : BitVec 16) (s : State) :
    (s.endTap p n).fu = s.fu := by
  simp only [State.endTap]; (repeat' split) <;> simp

@[simp] theorem State.endTap_rt (p : PortId) (n : BitVec 16) (s : State) :
    (s.endTap p n).rt = s.rt := by
  simp only [State.endTap]; (repeat' split) <;> simp

@[simp] theorem State.endTap_counters (p : PortId) (n : BitVec 16) (s : State) :
    (s.endTap p n).counters = s.counters := by
  simp only [State.endTap]; (repeat' split) <;> simp

@[simp] theorem State.endTap_pending (p : PortId) (n : BitVec 16) (s : State) :
    (s.endTap p n).pending = s.pending := by
  simp only [State.endTap]; (repeat' split) <;> simp

@[simp] theorem State.handAnswer_clock (p : PortId) (n : BitVec 16) (k : TapNo) (a : Answer) (s : State) :
    (s.handAnswer p n k a).clock = s.clock := by
  simp only [State.handAnswer]; (repeat' split) <;> simp

@[simp] theorem State.handAnswer_tables (p : PortId) (n : BitVec 16) (k : TapNo) (a : Answer) (s : State) :
    (s.handAnswer p n k a).tables = s.tables := by
  simp only [State.handAnswer]; (repeat' split) <;> simp

@[simp] theorem State.handAnswer_jt (p : PortId) (n : BitVec 16) (k : TapNo) (a : Answer) (s : State) :
    (s.handAnswer p n k a).jt = s.jt := by
  simp only [State.handAnswer]; (repeat' split) <;> simp

@[simp] theorem State.handAnswer_pu (p : PortId) (n : BitVec 16) (k : TapNo) (a : Answer) (s : State) :
    (s.handAnswer p n k a).pu = s.pu := by
  simp only [State.handAnswer]; (repeat' split) <;> simp

@[simp] theorem State.handAnswer_expiry (p : PortId) (n : BitVec 16) (k : TapNo) (a : Answer) (s : State) :
    (s.handAnswer p n k a).expiry = s.expiry := by
  simp only [State.handAnswer]; (repeat' split) <;> simp

@[simp] theorem State.handAnswer_pool (p : PortId) (n : BitVec 16) (k : TapNo) (a : Answer) (s : State) :
    (s.handAnswer p n k a).pool = s.pool := by
  simp only [State.handAnswer]; (repeat' split) <;> simp

@[simp] theorem State.handAnswer_fu (p : PortId) (n : BitVec 16) (k : TapNo) (a : Answer) (s : State) :
    (s.handAnswer p n k a).fu = s.fu := by
  simp only [State.handAnswer]; (repeat' split) <;> simp

@[simp] theorem State.handAnswer_rt (p : PortId) (n : BitVec 16) (k : TapNo) (a : Answer) (s : State) :
    (s.handAnswer p n k a).rt = s.rt := by
  simp only [State.handAnswer]; (repeat' split) <;> simp

@[simp] theorem State.handAnswer_roll (p : PortId) (n : BitVec 16) (k : TapNo) (a : Answer) (s : State) :
    (s.handAnswer p n k a).roll = s.roll := by
  simp only [State.handAnswer]; (repeat' split) <;> simp

@[simp] theorem State.handAnswer_lli (p : PortId) (n : BitVec 16) (k : TapNo) (a : Answer) (s : State) :
    (s.handAnswer p n k a).lli = s.lli := by
  simp only [State.handAnswer]; (repeat' split) <;> simp

@[simp] theorem State.handAnswer_pending (p : PortId) (n : BitVec 16) (k : TapNo) (a : Answer) (s : State) :
    (s.handAnswer p n k a).pending = s.pending := by
  simp only [State.handAnswer]; (repeat' split) <;> simp

@[simp] theorem State.setOptions_clock (p : PortId) (b : Bool) (m : AttnSet) (c : AttnClass) (s : State) :
    (s.setOptions p b m c).clock = s.clock := by
  simp only [State.setOptions]; (repeat' split) <;> simp

@[simp] theorem State.setOptions_tables (p : PortId) (b : Bool) (m : AttnSet) (c : AttnClass) (s : State) :
    (s.setOptions p b m c).tables = s.tables := by
  simp only [State.setOptions]; (repeat' split) <;> simp

@[simp] theorem State.setOptions_jt (p : PortId) (b : Bool) (m : AttnSet) (c : AttnClass) (s : State) :
    (s.setOptions p b m c).jt = s.jt := by
  simp only [State.setOptions]; (repeat' split) <;> simp

@[simp] theorem State.setOptions_pu (p : PortId) (b : Bool) (m : AttnSet) (c : AttnClass) (s : State) :
    (s.setOptions p b m c).pu = s.pu := by
  simp only [State.setOptions]; (repeat' split) <;> simp

@[simp] theorem State.setOptions_expiry (p : PortId) (b : Bool) (m : AttnSet) (c : AttnClass) (s : State) :
    (s.setOptions p b m c).expiry = s.expiry := by
  simp only [State.setOptions]; (repeat' split) <;> simp

@[simp] theorem State.setOptions_fu (p : PortId) (b : Bool) (m : AttnSet) (c : AttnClass) (s : State) :
    (s.setOptions p b m c).fu = s.fu := by
  simp only [State.setOptions]; (repeat' split) <;> simp

@[simp] theorem State.setOptions_rt (p : PortId) (b : Bool) (m : AttnSet) (c : AttnClass) (s : State) :
    (s.setOptions p b m c).rt = s.rt := by
  simp only [State.setOptions]; (repeat' split) <;> simp

@[simp] theorem State.setOptions_lli (p : PortId) (b : Bool) (m : AttnSet) (c : AttnClass) (s : State) :
    (s.setOptions p b m c).lli = s.lli := by
  simp only [State.setOptions]; (repeat' split) <;> simp

@[simp] theorem State.setOptions_counters (p : PortId) (b : Bool) (m : AttnSet) (c : AttnClass) (s : State) :
    (s.setOptions p b m c).counters = s.counters := by
  simp only [State.setOptions]; (repeat' split) <;> simp

@[simp] theorem State.setOptions_pending (p : PortId) (b : Bool) (m : AttnSet) (c : AttnClass) (s : State) :
    (s.setOptions p b m c).pending = s.pending := by
  simp only [State.setOptions]; (repeat' split) <;> simp

@[simp] theorem State.afterReset_clock (p : PortId) (s : State) :
    (s.afterReset p).clock = s.clock := by
  simp only [State.afterReset]; (repeat' split) <;> simp

@[simp] theorem State.afterReset_tables (p : PortId) (s : State) :
    (s.afterReset p).tables = s.tables := by
  simp only [State.afterReset]; (repeat' split) <;> simp

@[simp] theorem State.afterReset_jt (p : PortId) (s : State) :
    (s.afterReset p).jt = s.jt := by
  simp only [State.afterReset]; (repeat' split) <;> simp

@[simp] theorem State.afterReset_pu (p : PortId) (s : State) :
    (s.afterReset p).pu = s.pu := by
  simp only [State.afterReset]; (repeat' split) <;> simp

@[simp] theorem State.afterReset_expiry (p : PortId) (s : State) :
    (s.afterReset p).expiry = s.expiry := by
  simp only [State.afterReset]; (repeat' split) <;> simp

@[simp] theorem State.afterReset_pool (p : PortId) (s : State) :
    (s.afterReset p).pool = s.pool := by
  simp only [State.afterReset]; (repeat' split) <;> simp

@[simp] theorem State.afterReset_fu (p : PortId) (s : State) :
    (s.afterReset p).fu = s.fu := by
  simp only [State.afterReset]; (repeat' split) <;> simp

@[simp] theorem State.afterReset_rt (p : PortId) (s : State) :
    (s.afterReset p).rt = s.rt := by
  simp only [State.afterReset]; (repeat' split) <;> simp

@[simp] theorem State.afterReset_counters (p : PortId) (s : State) :
    (s.afterReset p).counters = s.counters := by
  simp only [State.afterReset]; (repeat' split) <;> simp

@[simp] theorem State.afterReset_pending (p : PortId) (s : State) :
    (s.afterReset p).pending = s.pending := by
  simp only [State.afterReset]; (repeat' split) <;> simp

@[simp] theorem State.handToWaiting_clock (w : Option WaitingTap) (a : Option Answer) (s : State) :
    (s.handToWaiting w a).clock = s.clock := by
  simp only [State.handToWaiting]; (repeat' split) <;> simp

@[simp] theorem State.handToWaiting_tables (w : Option WaitingTap) (a : Option Answer) (s : State) :
    (s.handToWaiting w a).tables = s.tables := by
  simp only [State.handToWaiting]; (repeat' split) <;> simp

@[simp] theorem State.handToWaiting_jt (w : Option WaitingTap) (a : Option Answer) (s : State) :
    (s.handToWaiting w a).jt = s.jt := by
  simp only [State.handToWaiting]; (repeat' split) <;> simp

@[simp] theorem State.handToWaiting_pu (w : Option WaitingTap) (a : Option Answer) (s : State) :
    (s.handToWaiting w a).pu = s.pu := by
  simp only [State.handToWaiting]; (repeat' split) <;> simp

@[simp] theorem State.handToWaiting_expiry (w : Option WaitingTap) (a : Option Answer) (s : State) :
    (s.handToWaiting w a).expiry = s.expiry := by
  simp only [State.handToWaiting]; (repeat' split) <;> simp

@[simp] theorem State.handToWaiting_pool (w : Option WaitingTap) (a : Option Answer) (s : State) :
    (s.handToWaiting w a).pool = s.pool := by
  simp only [State.handToWaiting]; (repeat' split) <;> simp

@[simp] theorem State.handToWaiting_fu (w : Option WaitingTap) (a : Option Answer) (s : State) :
    (s.handToWaiting w a).fu = s.fu := by
  simp only [State.handToWaiting]; (repeat' split) <;> simp

@[simp] theorem State.handToWaiting_rt (w : Option WaitingTap) (a : Option Answer) (s : State) :
    (s.handToWaiting w a).rt = s.rt := by
  simp only [State.handToWaiting]; (repeat' split) <;> simp

@[simp] theorem State.handToWaiting_roll (w : Option WaitingTap) (a : Option Answer) (s : State) :
    (s.handToWaiting w a).roll = s.roll := by
  simp only [State.handToWaiting]; (repeat' split) <;> simp

@[simp] theorem State.handToWaiting_lli (w : Option WaitingTap) (a : Option Answer) (s : State) :
    (s.handToWaiting w a).lli = s.lli := by
  simp only [State.handToWaiting]; (repeat' split) <;> simp

@[simp] theorem State.handToWaiting_pending (w : Option WaitingTap) (a : Option Answer) (s : State) :
    (s.handToWaiting w a).pending = s.pending := by
  simp only [State.handToWaiting]; (repeat' split) <;> simp

@[simp] theorem State.createTapWork_clock (e : WorkEntry) (a : Option Answer) (s : State) :
    (s.createTapWork e a).clock = s.clock := by
  simp only [State.createTapWork]; (repeat' split) <;> simp

@[simp] theorem State.createTapWork_tables (e : WorkEntry) (a : Option Answer) (s : State) :
    (s.createTapWork e a).tables = s.tables := by
  simp only [State.createTapWork]; (repeat' split) <;> simp

@[simp] theorem State.createTapWork_jt (e : WorkEntry) (a : Option Answer) (s : State) :
    (s.createTapWork e a).jt = s.jt := by
  simp only [State.createTapWork]; (repeat' split) <;> simp

@[simp] theorem State.createTapWork_expiry (e : WorkEntry) (a : Option Answer) (s : State) :
    (s.createTapWork e a).expiry = s.expiry := by
  simp only [State.createTapWork]; (repeat' split) <;> simp

@[simp] theorem State.createTapWork_fu (e : WorkEntry) (a : Option Answer) (s : State) :
    (s.createTapWork e a).fu = s.fu := by
  simp only [State.createTapWork]; (repeat' split) <;> simp

@[simp] theorem State.createTapWork_rt (e : WorkEntry) (a : Option Answer) (s : State) :
    (s.createTapWork e a).rt = s.rt := by
  simp only [State.createTapWork]; (repeat' split) <;> simp

@[simp] theorem State.createTapWork_roll (e : WorkEntry) (a : Option Answer) (s : State) :
    (s.createTapWork e a).roll = s.roll := by
  simp only [State.createTapWork]; (repeat' split) <;> simp

@[simp] theorem State.createTapWork_lli (e : WorkEntry) (a : Option Answer) (s : State) :
    (s.createTapWork e a).lli = s.lli := by
  simp only [State.createTapWork]; (repeat' split) <;> simp

@[simp] theorem State.createTapWork_pending (e : WorkEntry) (a : Option Answer) (s : State) :
    (s.createTapWork e a).pending = s.pending := by
  simp only [State.createTapWork]; (repeat' split) <;> simp

@[simp] theorem State.joinAll_ports (es : List WorkEntry) (s : State) :
    (s.joinAll es).ports = s.ports := by
  unfold State.joinAll; induction es generalizing s <;> simp_all [List.foldl]

@[simp] theorem State.joinAll_clock (es : List WorkEntry) (s : State) :
    (s.joinAll es).clock = s.clock := by
  unfold State.joinAll; induction es generalizing s <;> simp_all [List.foldl]

@[simp] theorem State.joinAll_tables (es : List WorkEntry) (s : State) :
    (s.joinAll es).tables = s.tables := by
  unfold State.joinAll; induction es generalizing s <;> simp_all [List.foldl]

@[simp] theorem State.joinAll_jt (es : List WorkEntry) (s : State) :
    (s.joinAll es).jt = s.jt := by
  unfold State.joinAll; induction es generalizing s <;> simp_all [List.foldl]

@[simp] theorem State.joinAll_pu (es : List WorkEntry) (s : State) :
    (s.joinAll es).pu = s.pu := by
  unfold State.joinAll; induction es generalizing s <;> simp_all [List.foldl]

@[simp] theorem State.joinAll_expiry (es : List WorkEntry) (s : State) :
    (s.joinAll es).expiry = s.expiry := by
  unfold State.joinAll; induction es generalizing s <;> simp_all [List.foldl]

@[simp] theorem State.joinAll_fu (es : List WorkEntry) (s : State) :
    (s.joinAll es).fu = s.fu := by
  unfold State.joinAll; induction es generalizing s <;> simp_all [List.foldl]

@[simp] theorem State.joinAll_rt (es : List WorkEntry) (s : State) :
    (s.joinAll es).rt = s.rt := by
  unfold State.joinAll; induction es generalizing s <;> simp_all [List.foldl]

@[simp] theorem State.joinAll_roll (es : List WorkEntry) (s : State) :
    (s.joinAll es).roll = s.roll := by
  unfold State.joinAll; induction es generalizing s <;> simp_all [List.foldl]

@[simp] theorem State.joinAll_lli (es : List WorkEntry) (s : State) :
    (s.joinAll es).lli = s.lli := by
  unfold State.joinAll; induction es generalizing s <;> simp_all [List.foldl]

@[simp] theorem State.joinAll_counters (es : List WorkEntry) (s : State) :
    (s.joinAll es).counters = s.counters := by
  unfold State.joinAll; induction es generalizing s <;> simp_all [List.foldl]

@[simp] theorem State.joinAll_pending (es : List WorkEntry) (s : State) :
    (s.joinAll es).pending = s.pending := by
  unfold State.joinAll; induction es generalizing s <;> simp_all [List.foldl]

@[simp] theorem State.freeSlot_ports (c : SourceClass) (s : State) :
    (s.freeSlot c).ports = s.ports := by
  simp only [State.freeSlot]; (repeat' split) <;> simp

@[simp] theorem State.freeSlot_clock (c : SourceClass) (s : State) :
    (s.freeSlot c).clock = s.clock := by
  simp only [State.freeSlot]; (repeat' split) <;> simp

@[simp] theorem State.freeSlot_tables (c : SourceClass) (s : State) :
    (s.freeSlot c).tables = s.tables := by
  simp only [State.freeSlot]; (repeat' split) <;> simp

@[simp] theorem State.freeSlot_jt (c : SourceClass) (s : State) :
    (s.freeSlot c).jt = s.jt := by
  simp only [State.freeSlot]; (repeat' split) <;> simp

@[simp] theorem State.freeSlot_pu (c : SourceClass) (s : State) :
    (s.freeSlot c).pu = s.pu := by
  simp only [State.freeSlot]; (repeat' split) <;> simp

@[simp] theorem State.freeSlot_expiry (c : SourceClass) (s : State) :
    (s.freeSlot c).expiry = s.expiry := by
  simp only [State.freeSlot]; (repeat' split) <;> simp

@[simp] theorem State.freeSlot_fu (c : SourceClass) (s : State) :
    (s.freeSlot c).fu = s.fu := by
  simp only [State.freeSlot]; (repeat' split) <;> simp

@[simp] theorem State.freeSlot_rt (c : SourceClass) (s : State) :
    (s.freeSlot c).rt = s.rt := by
  simp only [State.freeSlot]; (repeat' split) <;> simp

@[simp] theorem State.freeSlot_lli (c : SourceClass) (s : State) :
    (s.freeSlot c).lli = s.lli := by
  simp only [State.freeSlot]; (repeat' split) <;> simp

@[simp] theorem State.freeSlot_counters (c : SourceClass) (s : State) :
    (s.freeSlot c).counters = s.counters := by
  simp only [State.freeSlot]; (repeat' split) <;> simp

@[simp] theorem State.freeSlot_pending (c : SourceClass) (s : State) :
    (s.freeSlot c).pending = s.pending := by
  simp only [State.freeSlot]; (repeat' split) <;> simp

theorem State.foldl_cancelHold {α : Type} (get : State → α) (r : Record)
    (hg : ∀ (s : State) (h : HeldTap), get (s.cancelHold r h) = get s) (l : List HeldTap) (s : State) :
    get (l.foldl (fun s h => s.cancelHold r h) s) = get s := by
  induction l generalizing s with
  | nil => rfl
  | cons h l ih => rw [List.foldl_cons, ih, hg]

@[simp] theorem State.cancelAll_ports (r : Record) (s : State) :
    (s.cancelAll r).ports = s.ports := by
  unfold State.cancelAll; rw [State.foldl_cancelHold (State.ports) r (fun _ _ => rfl)]; split <;> rfl

@[simp] theorem State.cancelAll_clock (r : Record) (s : State) :
    (s.cancelAll r).clock = s.clock := by
  unfold State.cancelAll; rw [State.foldl_cancelHold (State.clock) r (fun _ _ => rfl)]; split <;> rfl

@[simp] theorem State.cancelAll_tables (r : Record) (s : State) :
    (s.cancelAll r).tables = s.tables := by
  unfold State.cancelAll; rw [State.foldl_cancelHold (State.tables) r (fun _ _ => rfl)]; split <;> rfl

@[simp] theorem State.cancelAll_jt (r : Record) (s : State) :
    (s.cancelAll r).jt = s.jt := by
  unfold State.cancelAll; rw [State.foldl_cancelHold (State.jt) r (fun _ _ => rfl)]; split <;> rfl

@[simp] theorem State.cancelAll_pu (r : Record) (s : State) :
    (s.cancelAll r).pu = s.pu := by
  unfold State.cancelAll; rw [State.foldl_cancelHold (State.pu) r (fun _ _ => rfl)]; split <;> rfl

@[simp] theorem State.cancelAll_pool (r : Record) (s : State) :
    (s.cancelAll r).pool = s.pool := by
  unfold State.cancelAll; rw [State.foldl_cancelHold (State.pool) r (fun _ _ => rfl)]; split <;> rfl

@[simp] theorem State.cancelAll_fu (r : Record) (s : State) :
    (s.cancelAll r).fu = s.fu := by
  unfold State.cancelAll; rw [State.foldl_cancelHold (State.fu) r (fun _ _ => rfl)]; split <;> rfl

@[simp] theorem State.cancelAll_rt (r : Record) (s : State) :
    (s.cancelAll r).rt = s.rt := by
  unfold State.cancelAll; rw [State.foldl_cancelHold (State.rt) r (fun _ _ => rfl)]; split <;> rfl

@[simp] theorem State.cancelAll_roll (r : Record) (s : State) :
    (s.cancelAll r).roll = s.roll := by
  unfold State.cancelAll; rw [State.foldl_cancelHold (State.roll) r (fun _ _ => rfl)]; split <;> rfl

@[simp] theorem State.cancelAll_lli (r : Record) (s : State) :
    (s.cancelAll r).lli = s.lli := by
  unfold State.cancelAll; rw [State.foldl_cancelHold (State.lli) r (fun _ _ => rfl)]; split <;> rfl

@[simp] theorem State.cancelAll_counters (r : Record) (s : State) :
    (s.cancelAll r).counters = s.counters := by
  unfold State.cancelAll; rw [State.foldl_cancelHold (State.counters) r (fun _ _ => rfl)]; split <;> rfl

@[simp] theorem State.cancelAll_pending (r : Record) (s : State) :
    (s.cancelAll r).pending = s.pending := by
  unfold State.cancelAll; rw [State.foldl_cancelHold (State.pending) r (fun _ _ => rfl)]; split <;> rfl

@[simp] theorem State.closeRecord_ports (r : Record) (s : State) :
    (s.closeRecord r).ports = s.ports := by
  simp [State.closeRecord]

@[simp] theorem State.closeRecord_clock (r : Record) (s : State) :
    (s.closeRecord r).clock = s.clock := by
  simp [State.closeRecord]

@[simp] theorem State.closeRecord_tables (r : Record) (s : State) :
    (s.closeRecord r).tables = s.tables := by
  simp [State.closeRecord]

@[simp] theorem State.closeRecord_pu (r : Record) (s : State) :
    (s.closeRecord r).pu = s.pu := by
  simp [State.closeRecord]

@[simp] theorem State.closeRecord_fu (r : Record) (s : State) :
    (s.closeRecord r).fu = s.fu := by
  simp [State.closeRecord]

@[simp] theorem State.closeRecord_rt (r : Record) (s : State) :
    (s.closeRecord r).rt = s.rt := by
  simp [State.closeRecord]

@[simp] theorem State.closeRecord_lli (r : Record) (s : State) :
    (s.closeRecord r).lli = s.lli := by
  simp [State.closeRecord]

@[simp] theorem State.closeRecord_pending (r : Record) (s : State) :
    (s.closeRecord r).pending = s.pending := by
  simp [State.closeRecord]

@[simp] theorem State.answerTap_clock (t : Tap) (a : Option Answer) (s : State) :
    (s.answerTap t a).clock = s.clock := by
  simp only [State.answerTap]; (repeat' split) <;> simp

@[simp] theorem State.answerTap_tables (t : Tap) (a : Option Answer) (s : State) :
    (s.answerTap t a).tables = s.tables := by
  simp only [State.answerTap]; (repeat' split) <;> simp

@[simp] theorem State.answerTap_jt (t : Tap) (a : Option Answer) (s : State) :
    (s.answerTap t a).jt = s.jt := by
  simp only [State.answerTap]; (repeat' split) <;> simp

@[simp] theorem State.answerTap_pu (t : Tap) (a : Option Answer) (s : State) :
    (s.answerTap t a).pu = s.pu := by
  simp only [State.answerTap]; (repeat' split) <;> simp

@[simp] theorem State.answerTap_expiry (t : Tap) (a : Option Answer) (s : State) :
    (s.answerTap t a).expiry = s.expiry := by
  simp only [State.answerTap]; (repeat' split) <;> simp

@[simp] theorem State.answerTap_pool (t : Tap) (a : Option Answer) (s : State) :
    (s.answerTap t a).pool = s.pool := by
  simp only [State.answerTap]; (repeat' split) <;> simp

@[simp] theorem State.answerTap_fu (t : Tap) (a : Option Answer) (s : State) :
    (s.answerTap t a).fu = s.fu := by
  simp only [State.answerTap]; (repeat' split) <;> simp

@[simp] theorem State.answerTap_rt (t : Tap) (a : Option Answer) (s : State) :
    (s.answerTap t a).rt = s.rt := by
  simp only [State.answerTap]; (repeat' split) <;> simp

@[simp] theorem State.answerTap_roll (t : Tap) (a : Option Answer) (s : State) :
    (s.answerTap t a).roll = s.roll := by
  simp only [State.answerTap]; (repeat' split) <;> simp

@[simp] theorem State.answerTap_lli (t : Tap) (a : Option Answer) (s : State) :
    (s.answerTap t a).lli = s.lli := by
  simp only [State.answerTap]; (repeat' split) <;> simp

@[simp] theorem State.answerTap_pending (t : Tap) (a : Option Answer) (s : State) :
    (s.answerTap t a).pending = s.pending := by
  simp only [State.answerTap]; (repeat' split) <;> simp

@[simp] theorem State.noticeTap_clock (t : Tap) (r : NoticeReason) (a : Answer) (s : State) :
    (s.noticeTap t r a).clock = s.clock := by
  simp only [State.noticeTap]; (repeat' split) <;> simp

@[simp] theorem State.noticeTap_tables (t : Tap) (r : NoticeReason) (a : Answer) (s : State) :
    (s.noticeTap t r a).tables = s.tables := by
  simp only [State.noticeTap]; (repeat' split) <;> simp

@[simp] theorem State.noticeTap_jt (t : Tap) (r : NoticeReason) (a : Answer) (s : State) :
    (s.noticeTap t r a).jt = s.jt := by
  simp only [State.noticeTap]; (repeat' split) <;> simp

@[simp] theorem State.noticeTap_expiry (t : Tap) (r : NoticeReason) (a : Answer) (s : State) :
    (s.noticeTap t r a).expiry = s.expiry := by
  simp only [State.noticeTap]; (repeat' split) <;> simp

@[simp] theorem State.noticeTap_fu (t : Tap) (r : NoticeReason) (a : Answer) (s : State) :
    (s.noticeTap t r a).fu = s.fu := by
  simp only [State.noticeTap]; (repeat' split) <;> simp

@[simp] theorem State.noticeTap_rt (t : Tap) (r : NoticeReason) (a : Answer) (s : State) :
    (s.noticeTap t r a).rt = s.rt := by
  simp only [State.noticeTap]; (repeat' split) <;> simp

@[simp] theorem State.noticeTap_pending (t : Tap) (r : NoticeReason) (a : Answer) (s : State) :
    (s.noticeTap t r a).pending = s.pending := by
  simp only [State.noticeTap]; (repeat' split) <;> simp

@[simp] theorem State.pairWithHeld_clock (r : Record) (t : Tap) (h : HeldTap) (s : State) :
    (s.pairWithHeld r t h).clock = s.clock := by
  simp [State.pairWithHeld]

@[simp] theorem State.pairWithHeld_tables (r : Record) (t : Tap) (h : HeldTap) (s : State) :
    (s.pairWithHeld r t h).tables = s.tables := by
  simp [State.pairWithHeld]

@[simp] theorem State.pairWithHeld_fu (r : Record) (t : Tap) (h : HeldTap) (s : State) :
    (s.pairWithHeld r t h).fu = s.fu := by
  simp [State.pairWithHeld]

@[simp] theorem State.pairWithHeld_rt (r : Record) (t : Tap) (h : HeldTap) (s : State) :
    (s.pairWithHeld r t h).rt = s.rt := by
  simp [State.pairWithHeld]

@[simp] theorem State.pairWithHeld_roll (r : Record) (t : Tap) (h : HeldTap) (s : State) :
    (s.pairWithHeld r t h).roll = s.roll := by
  simp [State.pairWithHeld]

@[simp] theorem State.pairWithHeld_lli (r : Record) (t : Tap) (h : HeldTap) (s : State) :
    (s.pairWithHeld r t h).lli = s.lli := by
  simp [State.pairWithHeld]

@[simp] theorem State.pairWithHeld_pending (r : Record) (t : Tap) (h : HeldTap) (s : State) :
    (s.pairWithHeld r t h).pending = s.pending := by
  simp [State.pairWithHeld]

@[simp] theorem State.replaceOpen_clock (r : Record) (t : Tap) (o : OpenJourney) (s : State) :
    (s.replaceOpen r t o).clock = s.clock := by
  simp [State.replaceOpen]

@[simp] theorem State.replaceOpen_tables (r : Record) (t : Tap) (o : OpenJourney) (s : State) :
    (s.replaceOpen r t o).tables = s.tables := by
  simp [State.replaceOpen]

@[simp] theorem State.replaceOpen_fu (r : Record) (t : Tap) (o : OpenJourney) (s : State) :
    (s.replaceOpen r t o).fu = s.fu := by
  simp [State.replaceOpen]

@[simp] theorem State.replaceOpen_rt (r : Record) (t : Tap) (o : OpenJourney) (s : State) :
    (s.replaceOpen r t o).rt = s.rt := by
  simp [State.replaceOpen]

@[simp] theorem State.replaceOpen_roll (r : Record) (t : Tap) (o : OpenJourney) (s : State) :
    (s.replaceOpen r t o).roll = s.roll := by
  simp [State.replaceOpen]

@[simp] theorem State.replaceOpen_lli (r : Record) (t : Tap) (o : OpenJourney) (s : State) :
    (s.replaceOpen r t o).lli = s.lli := by
  simp [State.replaceOpen]

@[simp] theorem State.replaceOpen_pending (r : Record) (t : Tap) (o : OpenJourney) (s : State) :
    (s.replaceOpen r t o).pending = s.pending := by
  simp [State.replaceOpen]

@[simp] theorem State.closeOlder_clock (r : Record) (t : Tap) (s : State) :
    (s.closeOlder r t).clock = s.clock := by
  simp [State.closeOlder]

@[simp] theorem State.closeOlder_tables (r : Record) (t : Tap) (s : State) :
    (s.closeOlder r t).tables = s.tables := by
  simp [State.closeOlder]

@[simp] theorem State.closeOlder_expiry (r : Record) (t : Tap) (s : State) :
    (s.closeOlder r t).expiry = s.expiry := by
  simp [State.closeOlder]

@[simp] theorem State.closeOlder_fu (r : Record) (t : Tap) (s : State) :
    (s.closeOlder r t).fu = s.fu := by
  simp [State.closeOlder]

@[simp] theorem State.closeOlder_rt (r : Record) (t : Tap) (s : State) :
    (s.closeOlder r t).rt = s.rt := by
  simp [State.closeOlder]

@[simp] theorem State.closeOlder_roll (r : Record) (t : Tap) (s : State) :
    (s.closeOlder r t).roll = s.roll := by
  simp [State.closeOlder]

@[simp] theorem State.closeOlder_lli (r : Record) (t : Tap) (s : State) :
    (s.closeOlder r t).lli = s.lli := by
  simp [State.closeOlder]

@[simp] theorem State.closeOlder_pending (r : Record) (t : Tap) (s : State) :
    (s.closeOlder r t).pending = s.pending := by
  simp [State.closeOlder]

@[simp] theorem State.openWith_clock (r : Record) (t : Tap) (s : State) :
    (s.openWith r t).clock = s.clock := by
  simp [State.openWith]

@[simp] theorem State.openWith_tables (r : Record) (t : Tap) (s : State) :
    (s.openWith r t).tables = s.tables := by
  simp [State.openWith]

@[simp] theorem State.openWith_pu (r : Record) (t : Tap) (s : State) :
    (s.openWith r t).pu = s.pu := by
  simp [State.openWith]

@[simp] theorem State.openWith_fu (r : Record) (t : Tap) (s : State) :
    (s.openWith r t).fu = s.fu := by
  simp [State.openWith]

@[simp] theorem State.openWith_rt (r : Record) (t : Tap) (s : State) :
    (s.openWith r t).rt = s.rt := by
  simp [State.openWith]

@[simp] theorem State.openWith_pending (r : Record) (t : Tap) (s : State) :
    (s.openWith r t).pending = s.pending := by
  simp [State.openWith]

@[simp] theorem State.pairWithOpen_clock (r : Record) (t : Tap) (o : OpenJourney) (s : State) :
    (s.pairWithOpen r t o).clock = s.clock := by
  simp only [State.pairWithOpen]; (repeat' split) <;> simp

@[simp] theorem State.pairWithOpen_tables (r : Record) (t : Tap) (o : OpenJourney) (s : State) :
    (s.pairWithOpen r t o).tables = s.tables := by
  simp only [State.pairWithOpen]; (repeat' split) <;> simp

@[simp] theorem State.pairWithOpen_fu (r : Record) (t : Tap) (o : OpenJourney) (s : State) :
    (s.pairWithOpen r t o).fu = s.fu := by
  simp only [State.pairWithOpen]; (repeat' split) <;> simp

@[simp] theorem State.pairWithOpen_rt (r : Record) (t : Tap) (o : OpenJourney) (s : State) :
    (s.pairWithOpen r t o).rt = s.rt := by
  simp only [State.pairWithOpen]; (repeat' split) <;> simp

@[simp] theorem State.pairWithOpen_roll (r : Record) (t : Tap) (o : OpenJourney) (s : State) :
    (s.pairWithOpen r t o).roll = s.roll := by
  simp only [State.pairWithOpen]; (repeat' split) <;> simp

@[simp] theorem State.pairWithOpen_lli (r : Record) (t : Tap) (o : OpenJourney) (s : State) :
    (s.pairWithOpen r t o).lli = s.lli := by
  simp only [State.pairWithOpen]; (repeat' split) <;> simp

@[simp] theorem State.pairWithOpen_pending (r : Record) (t : Tap) (o : OpenJourney) (s : State) :
    (s.pairWithOpen r t o).pending = s.pending := by
  simp only [State.pairWithOpen]; (repeat' split) <;> simp

@[simp] theorem State.holdTap_clock (r : Record) (t : Tap) (s : State) :
    (s.holdTap r t).clock = s.clock := by
  simp [State.holdTap]

@[simp] theorem State.holdTap_tables (r : Record) (t : Tap) (s : State) :
    (s.holdTap r t).tables = s.tables := by
  simp [State.holdTap]

@[simp] theorem State.holdTap_pu (r : Record) (t : Tap) (s : State) :
    (s.holdTap r t).pu = s.pu := by
  simp [State.holdTap]

@[simp] theorem State.holdTap_fu (r : Record) (t : Tap) (s : State) :
    (s.holdTap r t).fu = s.fu := by
  simp [State.holdTap]

@[simp] theorem State.holdTap_rt (r : Record) (t : Tap) (s : State) :
    (s.holdTap r t).rt = s.rt := by
  simp [State.holdTap]

@[simp] theorem State.holdTap_pending (r : Record) (t : Tap) (s : State) :
    (s.holdTap r t).pending = s.pending := by
  simp [State.holdTap]

@[simp] theorem State.displaceAndHold_clock (r : Record) (t : Tap) (h : HeldTap) (l : List HeldTap) (s : State) :
    (s.displaceAndHold r t h l).clock = s.clock := by
  simp [State.displaceAndHold]

@[simp] theorem State.displaceAndHold_tables (r : Record) (t : Tap) (h : HeldTap) (l : List HeldTap) (s : State) :
    (s.displaceAndHold r t h l).tables = s.tables := by
  simp [State.displaceAndHold]

@[simp] theorem State.displaceAndHold_fu (r : Record) (t : Tap) (h : HeldTap) (l : List HeldTap) (s : State) :
    (s.displaceAndHold r t h l).fu = s.fu := by
  simp [State.displaceAndHold]

@[simp] theorem State.displaceAndHold_rt (r : Record) (t : Tap) (h : HeldTap) (l : List HeldTap) (s : State) :
    (s.displaceAndHold r t h l).rt = s.rt := by
  simp [State.displaceAndHold]

@[simp] theorem State.displaceAndHold_roll (r : Record) (t : Tap) (h : HeldTap) (l : List HeldTap) (s : State) :
    (s.displaceAndHold r t h l).roll = s.roll := by
  simp [State.displaceAndHold]

@[simp] theorem State.displaceAndHold_lli (r : Record) (t : Tap) (h : HeldTap) (l : List HeldTap) (s : State) :
    (s.displaceAndHold r t h l).lli = s.lli := by
  simp [State.displaceAndHold]

@[simp] theorem State.displaceAndHold_pending (r : Record) (t : Tap) (h : HeldTap) (l : List HeldTap) (s : State) :
    (s.displaceAndHold r t h l).pending = s.pending := by
  simp [State.displaceAndHold]

@[simp] theorem State.dropDuplicate_clock (t : Tap) (s : State) :
    (s.dropDuplicate t).clock = s.clock := by
  simp [State.dropDuplicate]

@[simp] theorem State.dropDuplicate_tables (t : Tap) (s : State) :
    (s.dropDuplicate t).tables = s.tables := by
  simp [State.dropDuplicate]

@[simp] theorem State.dropDuplicate_jt (t : Tap) (s : State) :
    (s.dropDuplicate t).jt = s.jt := by
  simp [State.dropDuplicate]

@[simp] theorem State.dropDuplicate_pu (t : Tap) (s : State) :
    (s.dropDuplicate t).pu = s.pu := by
  simp [State.dropDuplicate]

@[simp] theorem State.dropDuplicate_expiry (t : Tap) (s : State) :
    (s.dropDuplicate t).expiry = s.expiry := by
  simp [State.dropDuplicate]

@[simp] theorem State.dropDuplicate_fu (t : Tap) (s : State) :
    (s.dropDuplicate t).fu = s.fu := by
  simp [State.dropDuplicate]

@[simp] theorem State.dropDuplicate_rt (t : Tap) (s : State) :
    (s.dropDuplicate t).rt = s.rt := by
  simp [State.dropDuplicate]

@[simp] theorem State.dropDuplicate_pending (t : Tap) (s : State) :
    (s.dropDuplicate t).pending = s.pending := by
  simp [State.dropDuplicate]

@[simp] theorem State.expireOpen_ports (r : Record) (o : OpenJourney) (s : State) :
    (s.expireOpen r o).ports = s.ports := by
  simp [State.expireOpen]

@[simp] theorem State.expireOpen_clock (r : Record) (o : OpenJourney) (s : State) :
    (s.expireOpen r o).clock = s.clock := by
  simp [State.expireOpen]

@[simp] theorem State.expireOpen_tables (r : Record) (o : OpenJourney) (s : State) :
    (s.expireOpen r o).tables = s.tables := by
  simp [State.expireOpen]

@[simp] theorem State.expireOpen_pu (r : Record) (o : OpenJourney) (s : State) :
    (s.expireOpen r o).pu = s.pu := by
  simp [State.expireOpen]

@[simp] theorem State.expireOpen_expiry (r : Record) (o : OpenJourney) (s : State) :
    (s.expireOpen r o).expiry = s.expiry := by
  simp [State.expireOpen]

@[simp] theorem State.expireOpen_fu (r : Record) (o : OpenJourney) (s : State) :
    (s.expireOpen r o).fu = s.fu := by
  simp [State.expireOpen]

@[simp] theorem State.expireOpen_rt (r : Record) (o : OpenJourney) (s : State) :
    (s.expireOpen r o).rt = s.rt := by
  simp [State.expireOpen]

@[simp] theorem State.expireOpen_roll (r : Record) (o : OpenJourney) (s : State) :
    (s.expireOpen r o).roll = s.roll := by
  simp [State.expireOpen]

@[simp] theorem State.expireOpen_lli (r : Record) (o : OpenJourney) (s : State) :
    (s.expireOpen r o).lli = s.lli := by
  simp [State.expireOpen]

@[simp] theorem State.expireOpen_pending (r : Record) (o : OpenJourney) (s : State) :
    (s.expireOpen r o).pending = s.pending := by
  simp [State.expireOpen]

@[simp] theorem State.expireHeld_ports (r : Record) (h : HeldTap) (s : State) :
    (s.expireHeld r h).ports = s.ports := by
  simp [State.expireHeld]

@[simp] theorem State.expireHeld_clock (r : Record) (h : HeldTap) (s : State) :
    (s.expireHeld r h).clock = s.clock := by
  simp [State.expireHeld]

@[simp] theorem State.expireHeld_tables (r : Record) (h : HeldTap) (s : State) :
    (s.expireHeld r h).tables = s.tables := by
  simp [State.expireHeld]

@[simp] theorem State.expireHeld_pu (r : Record) (h : HeldTap) (s : State) :
    (s.expireHeld r h).pu = s.pu := by
  simp [State.expireHeld]

@[simp] theorem State.expireHeld_expiry (r : Record) (h : HeldTap) (s : State) :
    (s.expireHeld r h).expiry = s.expiry := by
  simp [State.expireHeld]

@[simp] theorem State.expireHeld_fu (r : Record) (h : HeldTap) (s : State) :
    (s.expireHeld r h).fu = s.fu := by
  simp [State.expireHeld]

@[simp] theorem State.expireHeld_rt (r : Record) (h : HeldTap) (s : State) :
    (s.expireHeld r h).rt = s.rt := by
  simp [State.expireHeld]

@[simp] theorem State.expireHeld_roll (r : Record) (h : HeldTap) (s : State) :
    (s.expireHeld r h).roll = s.roll := by
  simp [State.expireHeld]

@[simp] theorem State.expireHeld_lli (r : Record) (h : HeldTap) (s : State) :
    (s.expireHeld r h).lli = s.lli := by
  simp [State.expireHeld]

@[simp] theorem State.expireHeld_pending (r : Record) (h : HeldTap) (s : State) :
    (s.expireHeld r h).pending = s.pending := by
  simp [State.expireHeld]

@[simp] theorem State.expire_ports (e : ExpiryEntry) (s : State) :
    (s.expire e).ports = s.ports := by
  simp only [State.expire]; (repeat' split) <;> simp

@[simp] theorem State.expire_clock (e : ExpiryEntry) (s : State) :
    (s.expire e).clock = s.clock := by
  simp only [State.expire]; (repeat' split) <;> simp

@[simp] theorem State.expire_tables (e : ExpiryEntry) (s : State) :
    (s.expire e).tables = s.tables := by
  simp only [State.expire]; (repeat' split) <;> simp

@[simp] theorem State.expire_pu (e : ExpiryEntry) (s : State) :
    (s.expire e).pu = s.pu := by
  simp only [State.expire]; (repeat' split) <;> simp

@[simp] theorem State.expire_expiry (e : ExpiryEntry) (s : State) :
    (s.expire e).expiry = s.expiry := by
  simp only [State.expire]; (repeat' split) <;> simp

@[simp] theorem State.expire_fu (e : ExpiryEntry) (s : State) :
    (s.expire e).fu = s.fu := by
  simp only [State.expire]; (repeat' split) <;> simp

@[simp] theorem State.expire_rt (e : ExpiryEntry) (s : State) :
    (s.expire e).rt = s.rt := by
  simp only [State.expire]; (repeat' split) <;> simp

@[simp] theorem State.expire_roll (e : ExpiryEntry) (s : State) :
    (s.expire e).roll = s.roll := by
  simp only [State.expire]; (repeat' split) <;> simp

@[simp] theorem State.expire_lli (e : ExpiryEntry) (s : State) :
    (s.expire e).lli = s.lli := by
  simp only [State.expire]; (repeat' split) <;> simp

@[simp] theorem State.expire_pending (e : ExpiryEntry) (s : State) :
    (s.expire e).pending = s.pending := by
  simp only [State.expire]; (repeat' split) <;> simp

@[simp] theorem State.makeRollDone_ports (b : Bool) (s : State) :
    (s.makeRollDone b).ports = s.ports := by
  simp only [State.makeRollDone]; (repeat' split) <;> simp

@[simp] theorem State.makeRollDone_clock (b : Bool) (s : State) :
    (s.makeRollDone b).clock = s.clock := by
  simp only [State.makeRollDone]; (repeat' split) <;> simp

@[simp] theorem State.makeRollDone_tables (b : Bool) (s : State) :
    (s.makeRollDone b).tables = s.tables := by
  simp only [State.makeRollDone]; (repeat' split) <;> simp

@[simp] theorem State.makeRollDone_jt (b : Bool) (s : State) :
    (s.makeRollDone b).jt = s.jt := by
  simp only [State.makeRollDone]; (repeat' split) <;> simp

@[simp] theorem State.makeRollDone_pu (b : Bool) (s : State) :
    (s.makeRollDone b).pu = s.pu := by
  simp only [State.makeRollDone]; (repeat' split) <;> simp

@[simp] theorem State.makeRollDone_expiry (b : Bool) (s : State) :
    (s.makeRollDone b).expiry = s.expiry := by
  simp only [State.makeRollDone]; (repeat' split) <;> simp

@[simp] theorem State.makeRollDone_pool (b : Bool) (s : State) :
    (s.makeRollDone b).pool = s.pool := by
  simp only [State.makeRollDone]; (repeat' split) <;> simp

@[simp] theorem State.makeRollDone_fu (b : Bool) (s : State) :
    (s.makeRollDone b).fu = s.fu := by
  simp only [State.makeRollDone]; (repeat' split) <;> simp

@[simp] theorem State.makeRollDone_rt (b : Bool) (s : State) :
    (s.makeRollDone b).rt = s.rt := by
  simp only [State.makeRollDone]; (repeat' split) <;> simp

@[simp] theorem State.makeRollDone_counters (b : Bool) (s : State) :
    (s.makeRollDone b).counters = s.counters := by
  simp only [State.makeRollDone]; (repeat' split) <;> simp

@[simp] theorem State.makeRollDone_pending (b : Bool) (s : State) :
    (s.makeRollDone b).pending = s.pending := by
  simp only [State.makeRollDone]; (repeat' split) <;> simp

@[simp] theorem State.endRoll_ports (s : State) :
    (s.endRoll).ports = s.ports := by
  simp only [State.endRoll]; (repeat' split) <;> simp

@[simp] theorem State.endRoll_clock (s : State) :
    (s.endRoll).clock = s.clock := by
  simp only [State.endRoll]; (repeat' split) <;> simp

@[simp] theorem State.endRoll_jt (s : State) :
    (s.endRoll).jt = s.jt := by
  simp only [State.endRoll]; (repeat' split) <;> simp

@[simp] theorem State.endRoll_pu (s : State) :
    (s.endRoll).pu = s.pu := by
  simp only [State.endRoll]; (repeat' split) <;> simp

@[simp] theorem State.endRoll_expiry (s : State) :
    (s.endRoll).expiry = s.expiry := by
  simp only [State.endRoll]; (repeat' split) <;> simp

@[simp] theorem State.endRoll_pool (s : State) :
    (s.endRoll).pool = s.pool := by
  simp only [State.endRoll]; (repeat' split) <;> simp

@[simp] theorem State.endRoll_fu (s : State) :
    (s.endRoll).fu = s.fu := by
  simp only [State.endRoll]; (repeat' split) <;> simp

@[simp] theorem State.endRoll_rt (s : State) :
    (s.endRoll).rt = s.rt := by
  simp only [State.endRoll]; (repeat' split) <;> simp

@[simp] theorem State.endRoll_pending (s : State) :
    (s.endRoll).pending = s.pending := by
  simp only [State.endRoll]; (repeat' split) <;> simp

@[simp] theorem State.checkRoll_ports (s : State) :
    (s.checkRoll).ports = s.ports := by
  simp only [State.checkRoll]; (repeat' split) <;> simp

@[simp] theorem State.checkRoll_clock (s : State) :
    (s.checkRoll).clock = s.clock := by
  simp only [State.checkRoll]; (repeat' split) <;> simp

@[simp] theorem State.checkRoll_jt (s : State) :
    (s.checkRoll).jt = s.jt := by
  simp only [State.checkRoll]; (repeat' split) <;> simp

@[simp] theorem State.checkRoll_pu (s : State) :
    (s.checkRoll).pu = s.pu := by
  simp only [State.checkRoll]; (repeat' split) <;> simp

@[simp] theorem State.checkRoll_expiry (s : State) :
    (s.checkRoll).expiry = s.expiry := by
  simp only [State.checkRoll]; (repeat' split) <;> simp

@[simp] theorem State.checkRoll_pool (s : State) :
    (s.checkRoll).pool = s.pool := by
  simp only [State.checkRoll]; (repeat' split) <;> simp

@[simp] theorem State.checkRoll_fu (s : State) :
    (s.checkRoll).fu = s.fu := by
  simp only [State.checkRoll]; (repeat' split) <;> simp

@[simp] theorem State.checkRoll_rt (s : State) :
    (s.checkRoll).rt = s.rt := by
  simp only [State.checkRoll]; (repeat' split) <;> simp

@[simp] theorem State.checkRoll_pending (s : State) :
    (s.checkRoll).pending = s.pending := by
  simp only [State.checkRoll]; (repeat' split) <;> simp

@[simp] theorem State.endWaiting_clock (w : Option WaitingTap) (s : State) :
    (s.endWaiting w).clock = s.clock := by
  simp only [State.endWaiting]; (repeat' split) <;> simp

@[simp] theorem State.endWaiting_tables (w : Option WaitingTap) (s : State) :
    (s.endWaiting w).tables = s.tables := by
  simp only [State.endWaiting]; (repeat' split) <;> simp

@[simp] theorem State.endWaiting_jt (w : Option WaitingTap) (s : State) :
    (s.endWaiting w).jt = s.jt := by
  simp only [State.endWaiting]; (repeat' split) <;> simp

@[simp] theorem State.endWaiting_pu (w : Option WaitingTap) (s : State) :
    (s.endWaiting w).pu = s.pu := by
  simp only [State.endWaiting]; (repeat' split) <;> simp

@[simp] theorem State.endWaiting_expiry (w : Option WaitingTap) (s : State) :
    (s.endWaiting w).expiry = s.expiry := by
  simp only [State.endWaiting]; (repeat' split) <;> simp

@[simp] theorem State.endWaiting_fu (w : Option WaitingTap) (s : State) :
    (s.endWaiting w).fu = s.fu := by
  simp only [State.endWaiting]; (repeat' split) <;> simp

@[simp] theorem State.endWaiting_rt (w : Option WaitingTap) (s : State) :
    (s.endWaiting w).rt = s.rt := by
  simp only [State.endWaiting]; (repeat' split) <;> simp

@[simp] theorem State.endWaiting_counters (w : Option WaitingTap) (s : State) :
    (s.endWaiting w).counters = s.counters := by
  simp only [State.endWaiting]; (repeat' split) <;> simp

@[simp] theorem State.endWaiting_pending (w : Option WaitingTap) (s : State) :
    (s.endWaiting w).pending = s.pending := by
  simp only [State.endWaiting]; (repeat' split) <;> simp

@[simp] theorem State.endTicket_ports (t : Option (BitVec 16)) (s : State) :
    (s.endTicket t).ports = s.ports := by
  simp only [State.endTicket]; (repeat' split) <;> simp

@[simp] theorem State.endTicket_clock (t : Option (BitVec 16)) (s : State) :
    (s.endTicket t).clock = s.clock := by
  simp only [State.endTicket]; (repeat' split) <;> simp

@[simp] theorem State.endTicket_tables (t : Option (BitVec 16)) (s : State) :
    (s.endTicket t).tables = s.tables := by
  simp only [State.endTicket]; (repeat' split) <;> simp

@[simp] theorem State.endTicket_jt (t : Option (BitVec 16)) (s : State) :
    (s.endTicket t).jt = s.jt := by
  simp only [State.endTicket]; (repeat' split) <;> simp

@[simp] theorem State.endTicket_pu (t : Option (BitVec 16)) (s : State) :
    (s.endTicket t).pu = s.pu := by
  simp only [State.endTicket]; (repeat' split) <;> simp

@[simp] theorem State.endTicket_expiry (t : Option (BitVec 16)) (s : State) :
    (s.endTicket t).expiry = s.expiry := by
  simp only [State.endTicket]; (repeat' split) <;> simp

@[simp] theorem State.endTicket_pool (t : Option (BitVec 16)) (s : State) :
    (s.endTicket t).pool = s.pool := by
  simp only [State.endTicket]; (repeat' split) <;> simp

@[simp] theorem State.endTicket_fu (t : Option (BitVec 16)) (s : State) :
    (s.endTicket t).fu = s.fu := by
  simp only [State.endTicket]; (repeat' split) <;> simp

@[simp] theorem State.endTicket_roll (t : Option (BitVec 16)) (s : State) :
    (s.endTicket t).roll = s.roll := by
  simp only [State.endTicket]; (repeat' split) <;> simp

@[simp] theorem State.endTicket_lli (t : Option (BitVec 16)) (s : State) :
    (s.endTicket t).lli = s.lli := by
  simp only [State.endTicket]; (repeat' split) <;> simp

@[simp] theorem State.endTicket_counters (t : Option (BitVec 16)) (s : State) :
    (s.endTicket t).counters = s.counters := by
  simp only [State.endTicket]; (repeat' split) <;> simp

@[simp] theorem State.endTicket_pending (t : Option (BitVec 16)) (s : State) :
    (s.endTicket t).pending = s.pending := by
  simp only [State.endTicket]; (repeat' split) <;> simp

@[simp] theorem State.finishPricing_clock (p : Pricing) (s : State) :
    (s.finishPricing p).clock = s.clock := by
  simp [State.finishPricing]

@[simp] theorem State.finishPricing_tables (p : Pricing) (s : State) :
    (s.finishPricing p).tables = s.tables := by
  simp [State.finishPricing]

@[simp] theorem State.finishPricing_jt (p : Pricing) (s : State) :
    (s.finishPricing p).jt = s.jt := by
  simp [State.finishPricing]

@[simp] theorem State.finishPricing_pu (p : Pricing) (s : State) :
    (s.finishPricing p).pu = s.pu := by
  simp [State.finishPricing]

@[simp] theorem State.finishPricing_expiry (p : Pricing) (s : State) :
    (s.finishPricing p).expiry = s.expiry := by
  simp [State.finishPricing]

@[simp] theorem State.finishPricing_counters (p : Pricing) (s : State) :
    (s.finishPricing p).counters = s.counters := by
  simp [State.finishPricing]

@[simp] theorem State.finishPricing_pending (p : Pricing) (s : State) :
    (s.finishPricing p).pending = s.pending := by
  simp [State.finishPricing]

@[simp] theorem State.placeAndFinish_clock (p : Pricing) (s : State) :
    (s.placeAndFinish p).clock = s.clock := by
  simp only [State.placeAndFinish]; (repeat' split) <;> simp

@[simp] theorem State.placeAndFinish_tables (p : Pricing) (s : State) :
    (s.placeAndFinish p).tables = s.tables := by
  simp only [State.placeAndFinish]; (repeat' split) <;> simp

@[simp] theorem State.placeAndFinish_jt (p : Pricing) (s : State) :
    (s.placeAndFinish p).jt = s.jt := by
  simp only [State.placeAndFinish]; (repeat' split) <;> simp

@[simp] theorem State.placeAndFinish_pu (p : Pricing) (s : State) :
    (s.placeAndFinish p).pu = s.pu := by
  simp only [State.placeAndFinish]; (repeat' split) <;> simp

@[simp] theorem State.placeAndFinish_expiry (p : Pricing) (s : State) :
    (s.placeAndFinish p).expiry = s.expiry := by
  simp only [State.placeAndFinish]; (repeat' split) <;> simp

@[simp] theorem State.placeAndFinish_pending (p : Pricing) (s : State) :
    (s.placeAndFinish p).pending = s.pending := by
  simp only [State.placeAndFinish]; (repeat' split) <;> simp

@[simp] theorem State.answerGate_clock (p : Pricing) (s : State) :
    (s.answerGate p).clock = s.clock := by
  simp only [State.answerGate]; (repeat' split) <;> simp

@[simp] theorem State.answerGate_tables (p : Pricing) (s : State) :
    (s.answerGate p).tables = s.tables := by
  simp only [State.answerGate]; (repeat' split) <;> simp

@[simp] theorem State.answerGate_jt (p : Pricing) (s : State) :
    (s.answerGate p).jt = s.jt := by
  simp only [State.answerGate]; (repeat' split) <;> simp

@[simp] theorem State.answerGate_pu (p : Pricing) (s : State) :
    (s.answerGate p).pu = s.pu := by
  simp only [State.answerGate]; (repeat' split) <;> simp

@[simp] theorem State.answerGate_expiry (p : Pricing) (s : State) :
    (s.answerGate p).expiry = s.expiry := by
  simp only [State.answerGate]; (repeat' split) <;> simp

@[simp] theorem State.answerGate_pool (p : Pricing) (s : State) :
    (s.answerGate p).pool = s.pool := by
  simp only [State.answerGate]; (repeat' split) <;> simp

@[simp] theorem State.answerGate_fu (p : Pricing) (s : State) :
    (s.answerGate p).fu = s.fu := by
  simp only [State.answerGate]; (repeat' split) <;> simp

@[simp] theorem State.answerGate_rt (p : Pricing) (s : State) :
    (s.answerGate p).rt = s.rt := by
  simp only [State.answerGate]; (repeat' split) <;> simp

@[simp] theorem State.answerGate_roll (p : Pricing) (s : State) :
    (s.answerGate p).roll = s.roll := by
  simp only [State.answerGate]; (repeat' split) <;> simp

@[simp] theorem State.answerGate_lli (p : Pricing) (s : State) :
    (s.answerGate p).lli = s.lli := by
  simp only [State.answerGate]; (repeat' split) <;> simp

@[simp] theorem State.answerGate_pending (p : Pricing) (s : State) :
    (s.answerGate p).pending = s.pending := by
  simp only [State.answerGate]; (repeat' split) <;> simp

@[simp] theorem State.raiseRecord_ports (x : RefEntry) (s : State) :
    (s.raiseRecord x).ports = s.ports := by
  simp only [State.raiseRecord]; (repeat' split) <;> simp

@[simp] theorem State.raiseRecord_clock (x : RefEntry) (s : State) :
    (s.raiseRecord x).clock = s.clock := by
  simp only [State.raiseRecord]; (repeat' split) <;> simp

@[simp] theorem State.raiseRecord_tables (x : RefEntry) (s : State) :
    (s.raiseRecord x).tables = s.tables := by
  simp only [State.raiseRecord]; (repeat' split) <;> simp

@[simp] theorem State.raiseRecord_pu (x : RefEntry) (s : State) :
    (s.raiseRecord x).pu = s.pu := by
  simp only [State.raiseRecord]; (repeat' split) <;> simp

@[simp] theorem State.raiseRecord_expiry (x : RefEntry) (s : State) :
    (s.raiseRecord x).expiry = s.expiry := by
  simp only [State.raiseRecord]; (repeat' split) <;> simp

@[simp] theorem State.raiseRecord_pool (x : RefEntry) (s : State) :
    (s.raiseRecord x).pool = s.pool := by
  simp only [State.raiseRecord]; (repeat' split) <;> simp

@[simp] theorem State.raiseRecord_fu (x : RefEntry) (s : State) :
    (s.raiseRecord x).fu = s.fu := by
  simp only [State.raiseRecord]; (repeat' split) <;> simp

@[simp] theorem State.raiseRecord_rt (x : RefEntry) (s : State) :
    (s.raiseRecord x).rt = s.rt := by
  simp only [State.raiseRecord]; (repeat' split) <;> simp

@[simp] theorem State.raiseRecord_roll (x : RefEntry) (s : State) :
    (s.raiseRecord x).roll = s.roll := by
  simp only [State.raiseRecord]; (repeat' split) <;> simp

@[simp] theorem State.raiseRecord_lli (x : RefEntry) (s : State) :
    (s.raiseRecord x).lli = s.lli := by
  simp only [State.raiseRecord]; (repeat' split) <;> simp

@[simp] theorem State.raiseRecord_pending (x : RefEntry) (s : State) :
    (s.raiseRecord x).pending = s.pending := by
  simp only [State.raiseRecord]; (repeat' split) <;> simp

end Sys2Proof.Machine
end

