-- ==== Sys2Proof/Laws/JourneyTable.lean ====
section
/-! SUPPORT. The buckets of the journey table: a bucket reads back as written and no other changes; every operation on the
table keeps its canonical form. -/

namespace Sys2Proof.Machine

/-! ## One list of buckets -/

theorem Bucket.isEmpty_iff (b : Bucket) : b.isEmpty = true ↔ b = Bucket.empty := by
  constructor
  · intro h
    obtain ⟨slots, ext⟩ := b
    simp only [Bucket.isEmpty, Bool.and_eq_true, List.all_eq_true, Option.isNone_iff_eq_none] at h
    obtain ⟨h1, rfl⟩ := h
    simp only [Bucket.empty, Bucket.mk.injEq, and_true]
    apply Vector.ext
    intro i hi
    rw [Vector.getElem_replicate]
    exact h1 _ (by simp [Vector.mem_toList_iff])
  · rintro rfl; rfl

/-- The canonical form, member by member: numbers rising, no bucket as reset left it. -/
theorem bucketsWf_cons (j : Nat) (c : Bucket) (l : List (Nat × Bucket)) :
    bucketsWf ((j, c) :: l) = true ↔ (∀ e ∈ l, j < e.1) ∧ c.isEmpty = false ∧ bucketsWf l = true := by
  simp only [bucketsWf, List.map_cons, List.pairwise_cons, List.all_cons, Bool.and_eq_true, decide_eq_true_iff,
    Bool.not_eq_true', List.mem_map, forall_exists_index, and_imp, forall_apply_eq_imp_iff₂]
  tauto

theorem bucketSet_mem {k : Nat} {b : Bucket} {l : List (Nat × Bucket)} {e : Nat × Bucket} (h : e ∈ bucketSet k b l) :
    e = (k, b) ∨ e ∈ l := by
  induction l with
  | nil =>
    simp only [bucketSet] at h
    split at h <;> simp_all
  | cons a l ih =>
    obtain ⟨j, c⟩ := a
    simp only [bucketSet] at h
    split at h
    · split at h
      · exact .inr h
      · simpa using h
    · split at h
      · split at h
        · exact .inr (List.mem_cons_of_mem _ h)
        · rcases List.mem_cons.1 h with h | h
          · exact .inl h
          · exact .inr (List.mem_cons_of_mem _ h)
      · rcases List.mem_cons.1 h with h | h
        · exact .inr (by simp [h])
        · rcases ih h with h | h
          · exact .inl h
          · exact .inr (List.mem_cons_of_mem _ h)

/-- Writing a bucket keeps the canonical form. -/
theorem bucketsWf_bucketSet (k : Nat) (b : Bucket) {l : List (Nat × Bucket)} (h : bucketsWf l = true) :
    bucketsWf (bucketSet k b l) = true := by
  induction l with
  | nil =>
    simp only [bucketSet]
    split
    · exact h
    · rename_i hb; rw [bucketsWf_cons]; exact ⟨by simp, by simpa using hb, rfl⟩
  | cons a l ih =>
    obtain ⟨j, c⟩ := a
    obtain ⟨h1, h2, h3⟩ := (bucketsWf_cons j c l).1 h
    simp only [bucketSet]
    split
    · rename_i hk
      split
      · exact h
      · rename_i hb
        rw [bucketsWf_cons]
        refine ⟨fun e he => ?_, by simpa using hb, h⟩
        rcases List.mem_cons.1 he with rfl | he
        · exact hk
        · exact hk.trans (h1 e he)
    · split
      · rename_i hk
        split
        · exact h3
        · rename_i hb; rw [bucketsWf_cons]; exact ⟨hk ▸ h1, by simpa using hb, h3⟩
      · rw [bucketsWf_cons]
        refine ⟨fun e he => ?_, h2, ih h3⟩
        rcases bucketSet_mem he with rfl | he
        · show j < k; omega
        · exact h1 e he

theorem bucketGet_of_lt {k : Nat} {l : List (Nat × Bucket)} (h : ∀ e ∈ l, k < e.1) : bucketGet k l = Bucket.empty := by
  induction l with
  | nil => rfl
  | cons a l ih =>
    obtain ⟨j, c⟩ := a
    have : j ≠ k := (h (j, c) (by simp)).ne'
    simp only [bucketGet, this, if_false]
    exact ih fun e he => h e (by simp [he])

/-- A bucket reads back as written. -/
theorem bucketGet_bucketSet_same (k : Nat) (b : Bucket) {l : List (Nat × Bucket)} (h : bucketsWf l = true) :
    bucketGet k (bucketSet k b l) = b := by
  induction l with
  | nil =>
    simp only [bucketSet]
    split
    · rename_i hb; exact ((Bucket.isEmpty_iff b).1 hb).symm
    · simp [bucketGet]
  | cons a l ih =>
    obtain ⟨j, c⟩ := a
    obtain ⟨h1, _, h3⟩ := (bucketsWf_cons j c l).1 h
    simp only [bucketSet]
    split
    · rename_i hk
      split
      · rename_i hb
        rw [(Bucket.isEmpty_iff b).1 hb]
        apply bucketGet_of_lt
        intro e he
        rcases List.mem_cons.1 he with rfl | he
        · exact hk
        · exact hk.trans (h1 e he)
      · simp [bucketGet]
    · split
      · rename_i hk
        split
        · rename_i hb
          rw [(Bucket.isEmpty_iff b).1 hb]
          exact bucketGet_of_lt (hk ▸ h1)
        · simp [bucketGet]
      · rename_i hk
        have : j ≠ k := fun e => hk e.symm
        simp only [bucketGet, this, if_false]
        exact ih h3

/-- Every other bucket reads as before. -/
theorem bucketGet_bucketSet_other {k n : Nat} (b : Bucket) {l : List (Nat × Bucket)} (h : bucketsWf l = true) (hn : n ≠ k) :
    bucketGet n (bucketSet k b l) = bucketGet n l := by
  induction l with
  | nil =>
    simp only [bucketSet]
    split
    · rfl
    · simp [bucketGet, hn.symm]
  | cons a l ih =>
    obtain ⟨j, c⟩ := a
    obtain ⟨h1, _, h3⟩ := (bucketsWf_cons j c l).1 h
    simp only [bucketSet]
    split
    · split
      · rfl
      · simp [bucketGet, hn.symm]
    · split
      · rename_i hk
        have : j ≠ n := fun e => hn (e.symm.trans hk.symm)
        split
        · simp [bucketGet, this]
        · simp [bucketGet, this, hn.symm]
      · simp only [bucketGet]
        split
        · rfl
        · exact ih h3

/-! ## The table -/

theorem JourneyTable.wf_iff (jt : JourneyTable) : jt.wf = true ↔ bucketsWf jt.home = true ∧ bucketsWf jt.exts = true := by
  simp [JourneyTable.wf]

theorem JourneyTable.reset_wf : JourneyTable.reset.wf = true := rfl

theorem JourneyTable.setBucket_wf {jt : JourneyTable} (h : jt.wf = true) (r : BucketRef) (b : Bucket) :
    (jt.setBucket r b).wf = true := by
  rw [JourneyTable.wf_iff] at h ⊢
  cases r with
  | home n => exact ⟨bucketsWf_bucketSet n b h.1, h.2⟩
  | ext n => exact ⟨h.1, bucketsWf_bucketSet n b h.2⟩

theorem JourneyTable.bucket_setBucket_same {jt : JourneyTable} (h : jt.wf = true) (r : BucketRef) (b : Bucket) :
    (jt.setBucket r b).bucket r = b := by
  rw [JourneyTable.wf_iff] at h
  cases r with
  | home n => exact bucketGet_bucketSet_same n b h.1
  | ext n => exact bucketGet_bucketSet_same n b h.2

theorem JourneyTable.bucket_setBucket_other {jt : JourneyTable} (h : jt.wf = true) {r q : BucketRef} (b : Bucket)
    (hq : q ≠ r) : (jt.setBucket r b).bucket q = jt.bucket q := by
  rw [JourneyTable.wf_iff] at h
  cases r <;> cases q
  · exact bucketGet_bucketSet_other b h.1 (fun e => hq (e ▸ rfl))
  · rfl
  · rfl
  · exact bucketGet_bucketSet_other b h.2 (fun e => hq (e ▸ rfl))

theorem JourneyTable.setSlot_wf {jt : JourneyTable} (h : jt.wf = true) (r : SlotRef) (v : Option Record) :
    (jt.setSlot r v).wf = true := JourneyTable.setBucket_wf h _ _

/-- Writing a slot changes what that slot holds, no other slot and no extension pointer. -/
theorem JourneyTable.slot_setSlot {jt : JourneyTable} (h : jt.wf = true) (r q : SlotRef) (v : Option Record) :
    (jt.setSlot r v).slot q = if q = r then v else jt.slot q := by
  obtain ⟨rb, ri⟩ := r
  obtain ⟨qb, qi⟩ := q
  by_cases hb : qb = rb
  · subst hb
    simp only [JourneyTable.slot, JourneyTable.setSlot, JourneyTable.bucket_setBucket_same h]
    by_cases hi : qi = ri
    · subst hi; simp
    · have : (ri : Nat) ≠ qi := fun e => hi (Fin.ext e.symm)
      simp [Fin.getElem_fin, this, hi]
  · simp only [JourneyTable.slot, JourneyTable.setSlot, JourneyTable.bucket_setBucket_other h _ hb]
    simp [hb]

theorem JourneyTable.ext_setSlot {jt : JourneyTable} (h : jt.wf = true) (r : SlotRef) (q : BucketRef) (v : Option Record) :
    ((jt.setSlot r v).bucket q).ext = (jt.bucket q).ext := by
  obtain ⟨rb, ri⟩ := r
  by_cases hb : q = rb
  · subst hb; simp [JourneyTable.setSlot, JourneyTable.bucket_setBucket_same h]
  · simp [JourneyTable.setSlot, JourneyTable.bucket_setBucket_other h _ hb]

/-- Writing a slot leaves every chain as it is. -/
theorem JourneyTable.slots_setSlot {jt : JourneyTable} (h : jt.wf = true) (r : SlotRef) (v : Option Record) (n : Nat) :
    (jt.setSlot r v).slots n = jt.slots n := by
  have ext : ∀ (fuel : Nat) (p : Option Nat), (jt.setSlot r v).extensions fuel p = jt.extensions fuel p := by
    intro fuel
    induction fuel with
    | zero => intro p; rfl
    | succ fuel ih =>
      intro p
      cases p with
      | none => rfl
      | some m => simp only [JourneyTable.extensions, ih, JourneyTable.ext_setSlot h]
  simp only [JourneyTable.slots, JourneyTable.chain, ext, JourneyTable.ext_setSlot h]

theorem JourneyTable.write_wf {jt : JourneyTable} (h : jt.wf = true) (v : Record) : (jt.write v).wf = true := by
  unfold JourneyTable.write
  split
  · exact JourneyTable.setSlot_wf h _ _
  · exact h

theorem JourneyTable.linkExtension_wf {jt : JourneyTable} (h : jt.wf = true) (i n : Nat) (rest : List Nat) (v : Record) :
    (jt.linkExtension i n rest v).wf = true :=
  JourneyTable.setBucket_wf (JourneyTable.setBucket_wf h _ _) (.ext n) _

theorem JourneyTable.findOrInsert_wf {jt u : JourneyTable} (h : jt.wf = true) {c : Card} {d : Day} {v : Record}
    (hi : jt.findOrInsert c d = .inserted u v) : u.wf = true := by
  unfold JourneyTable.findOrInsert at hi
  split at hi
  · cases hi
  · simp only [JourneyTable.insert] at hi
    split at hi
    · cases hi; exact JourneyTable.setSlot_wf h _ _
    · split at hi
      · cases hi
      · split at hi
        · cases hi; exact JourneyTable.linkExtension_wf h _ _ _ _
        · cases hi

theorem JourneyTable.unlink_wf {jt : JourneyTable} (h : jt.wf = true) (i n : Nat) : (jt.unlink i n).wf = true := by
  unfold JourneyTable.unlink
  split
  · exact JourneyTable.setBucket_wf (JourneyTable.setBucket_wf h _ _) (.ext n) _
  · exact h

theorem JourneyTable.remove_wf {jt : JourneyTable} (h : jt.wf = true) (c : Card) (d : Day) : (jt.remove c d).wf = true := by
  unfold JourneyTable.remove
  split
  · dsimp only
    have hs : ∀ (r : SlotRef) (m : Nat), ({ jt.setSlot r none with inUse := m } : JourneyTable).wf = true :=
      fun r _ => JourneyTable.setSlot_wf h r none
    split
    · split
      · exact JourneyTable.unlink_wf (hs _ _) _ _
      · exact hs _ _
    · exact hs _ _
  · exact h

/-! ## Records found and put in -/

/-- A lookup finds the record of its card and day. -/
theorem JourneyTable.lookup_key {jt : JourneyTable} {c : Card} {d : Day} {r : Record} (h : jt.lookup c d = some r) :
    r.card = c ∧ r.day = d := by
  simp only [JourneyTable.lookup] at h
  split at h
  · rename_i x hx
    have := List.find?_some hx
    simp only [JourneyTable.holds, h] at this
    simpa using this
  · cases h

theorem JourneyTable.insert_key {jt u : JourneyTable} {c : Card} {d : Day} {r : Record} (h : jt.insert c d = .inserted u r) :
    r.card = c ∧ r.day = d := by
  simp only [JourneyTable.insert] at h
  split at h
  · cases h; exact ⟨rfl, rfl⟩
  · split at h
    · cases h
    · split at h
      · cases h; exact ⟨rfl, rfl⟩
      · cases h

end Sys2Proof.Machine
end

