-- ==== Sys2Proof/Laws/Ops.lean ====
section
/-! SUPPORT. What each shared operation does, said once: ports, attention, releases, the upstream queues, the taking of a
downstream frame, due times, work. -/

namespace Sys2Proof.Machine

/-! ## Ports -/

@[simp] theorem State.setPort_port (s : State) (p : PortId) (q : Port) : (s.setPort p q).port p = q := by
  simp [State.setPort, State.port]

theorem State.setPort_port_ne (s : State) (q : Port) {p r : PortId} (h : r ≠ p) : (s.setPort p q).port r = s.port r := by
  have : (p : Nat) ≠ r := fun e => h (Fin.ext e.symm)
  simp [State.setPort, State.port, Fin.getElem_fin, this]

theorem State.setPort_setPort (s : State) (p : PortId) (q r : Port) : (s.setPort p q).setPort p r = s.setPort p r := by
  simp [State.setPort]

theorem State.setPort_self (s : State) (p : PortId) : s.setPort p (s.port p) = s := by
  have : s.ports.set p (s.port p) = s.ports := by simp [State.port, Fin.getElem_fin]
  simp [State.setPort, this]

@[simp] theorem State.modPort_port (s : State) (p : PortId) (f : Port → Port) : (s.modPort p f).port p = f (s.port p) :=
  s.setPort_port p _

@[simp] theorem State.otherPortsKept_refl (p : PortId) (s : State) : s.OtherPortsKept p s := fun _ _ => rfl

theorem State.OtherPortsKept.setPort {p : PortId} {s u : State} (h : s.OtherPortsKept p u) (q : Port) :
    s.OtherPortsKept p (u.setPort p q) := fun r hr => by rw [u.setPort_port_ne q hr]; exact h r hr

theorem State.OtherPortsKept.modPort {p : PortId} {s u : State} (h : s.OtherPortsKept p u) (f : Port → Port) :
    s.OtherPortsKept p (u.modPort p f) := h.setPort _

@[simp] theorem State.offerSweepIfFell_port (n : Nat) (s : State) (r : PortId) :
    (s.offerSweepIfFell n).port r = s.port r := by simp [State.port]

/-- Offering the sweep again touches its pause alone. -/
theorem State.offerSweepIfFell_roll (n : Nat) (s : State) : ∃ b, (s.offerSweepIfFell n).roll = { s.roll with paused := b } := by
  unfold State.offerSweepIfFell
  split
  · exact ⟨false, rfl⟩
  · exact ⟨s.roll.paused, rfl⟩

/-! ## Attention -/

/-- Latching a kind that is latched changes nothing. -/
theorem AttnSet.or_only {a : AttnSet} {k : AttnKind} (h : a.has k = true) : a ||| k.only = a := by
  revert a; cases k <;> decide

theorem State.pushFor_port (c : AttnClass) (f : UpFrame) (s : State) (r : PortId) : (s.pushFor c f).port r = s.port r := by
  simp [State.port]

/-- An attention event latches its kind on its port. -/
theorem State.raise_port (p : PortId) (k : AttnKind) (d : AttnDetail) (s : State) :
    (s.raise p k d).port p = { s.port p with attention := (s.port p).attention ||| k.only } := by
  simp only [State.raise]
  split
  · rename_i h; rw [AttnSet.or_only h]
  · split
    · simp
    · split
      · rw [State.pushFor_port]; simp
      · exact s.setPort_port p _

/-- No other port notices it. -/
theorem State.raise_others (p : PortId) (k : AttnKind) (d : AttnDetail) (s : State) : s.OtherPortsKept p (s.raise p k d) := by
  intro r hr
  simp only [State.raise]
  split
  · rfl
  · split
    · exact s.setPort_port_ne _ hr
    · split
      · rw [State.pushFor_port]; exact s.setPort_port_ne _ hr
      · exact s.setPort_port_ne _ hr

theorem State.OtherPortsKept.raise {p : PortId} {s u : State} (h : s.OtherPortsKept p u) (k : AttnKind) (d : AttnDetail) :
    s.OtherPortsKept p (u.raise p k d) := fun r hr => by rw [u.raise_others p k d r hr]; exact h r hr

/-- What an attention event does to the line link depends on the port's attention set, mask and class alone. -/
theorem State.raise_lli_congr {p : PortId} (k : AttnKind) (d : AttnDetail) {s t : State}
    (ha : (t.port p).attention = (s.port p).attention) (hm : (t.port p).mask = (s.port p).mask)
    (hc : (t.port p).cls = (s.port p).cls) (hl : t.lli = s.lli) : (t.raise p k d).lli = (s.raise p k d).lli := by
  by_cases h1 : (s.port p).attention.has k = true
  · simp [State.raise, ha, h1, hl]
  · by_cases h2 : (s.port p).mask.has k = true
    · simp [State.raise, ha, hm, h1, h2, hl]
    · by_cases h3 : s.lli.hasPlaceFor (s.port p).cls = true
      · cases hcls : (s.port p).cls <;> rw [hcls] at h3 hc <;>
          simp [State.raise, ha, hm, hc, hcls, hl, h1, h2, h3, State.pushFor, State.pushUrgent, State.pushBulk]
      · simp [State.raise, ha, hm, hc, hl, h1, h2, h3]

/-! ## Releases and detaches (R25, R36) -/

@[simp] theorem State.release_port (p : PortId) (st : PortState) (s : State) : (s.release p st).port p = { s.port p with
    st := st, attachment := (s.port p).attachment + 1, outstanding := 0, transmit := []
    tracker := (s.port p).tracker.stop } := by
  unfold State.release
  simp only [State.offerSweepIfFell_port]
  exact s.setPort_port p _

@[simp] theorem State.release_pool (p : PortId) (st : PortState) (s : State) :
    (s.release p st).pool = { s.pool with releasedTaps := s.pool.releasedTaps + (s.port p).outstanding } := by
  simp [State.release]

theorem State.OtherPortsKept.release {p : PortId} {s u : State} (h : s.OtherPortsKept p u) (st : PortState) :
    s.OtherPortsKept p (u.release p st) := fun r hr => by
  unfold State.release
  simp only [State.offerSweepIfFell_port]
  exact (u.setPort_port_ne _ hr).trans (h r hr)

theorem State.completeDetach_port (p : PortId) (s : State) : (s.completeDetach p).port p = { s.port p with
    transmit := (s.port p).transmit ++ [.detach p], st := .present, tracker := (s.port p).tracker.stop
    attention := (s.port p).attention ||| AttnKind.detachDone.only } := by
  unfold State.completeDetach
  simp [State.raise_port, Port.place]

theorem State.completeDetach_lli (p : PortId) (s : State) :
    (s.completeDetach p).lli = (s.raise p .detachDone .nothing).lli := by
  unfold State.completeDetach
  apply State.raise_lli_congr <;> simp [Port.place]

theorem State.OtherPortsKept.completeDetach {p : PortId} {s u : State} (h : s.OtherPortsKept p u) :
    s.OtherPortsKept p (u.completeDetach p) := by
  unfold State.completeDetach
  apply State.OtherPortsKept.raise
  intro r hr
  rw [State.offerSweepIfFell_port]
  exact h.setPort _ r hr

/-! ## The upstream queues (R177, R182) -/

/-- Starting to send touches the transmitter alone. -/
theorem LineLink.startSending_eq (l : LineLink) : l.startSending =
    { l with
      transmitting := l.startSending.transmitting, urgentTo := l.startSending.urgentTo, bulkTo := l.startSending.bulkTo } := by
  simp only [LineLink.startSending, LineLink.begin]
  split
  · split <;> rfl
  · rfl

@[simp] theorem LineLink.startSending_urgent (l : LineLink) : l.startSending.urgent = l.urgent := by rw [l.startSending_eq]
@[simp] theorem LineLink.startSending_bulk (l : LineLink) : l.startSending.bulk = l.bulk := by rw [l.startSending_eq]
@[simp] theorem LineLink.startSending_receive (l : LineLink) : l.startSending.receive = l.receive := by rw [l.startSending_eq]
@[simp] theorem LineLink.startSending_owed (l : LineLink) : l.startSending.owed = l.owed := by rw [l.startSending_eq]
@[simp] theorem LineLink.startSending_reserve (l : LineLink) : l.startSending.copyReserve = l.copyReserve := by
  rw [l.startSending_eq]
@[simp] theorem LineLink.startSending_held (l : LineLink) : l.startSending.replyHeld = l.replyHeld := by
  rw [l.startSending_eq]
@[simp] theorem LineLink.startSending_carrier (l : LineLink) : l.startSending.carrier = l.carrier := by rw [l.startSending_eq]
@[simp] theorem LineLink.startSending_server (l : LineLink) : l.startSending.server = l.server := by rw [l.startSending_eq]
@[simp] theorem LineLink.startSending_selected (l : LineLink) : l.startSending.selected = l.selected := by
  rw [l.startSending_eq]
@[simp] theorem LineLink.startSending_snapshot (l : LineLink) : l.startSending.snapshot = l.snapshot := by
  rw [l.startSending_eq]
@[simp] theorem LineLink.startSending_disposition (l : LineLink) : l.startSending.disposition = l.disposition := by
  rw [l.startSending_eq]
@[simp] theorem LineLink.startSending_offers (l : LineLink) : l.startSending.owedOffers = l.owedOffers := by
  rw [l.startSending_eq]

/-- Urgent frames placed behind one that a transmitter has looked at change nothing of what it sends. -/
theorem LineLink.startSending_urgent_more (l : LineLink) (more : List UpFrame) (held : Bool) (h : l.urgent ≠ []) :
    LineLink.startSending { l.startSending with urgent := l.urgent ++ more, replyHeld := held } =
      LineLink.startSending { l with urgent := l.urgent ++ more, replyHeld := held } := by
  have h' : l.urgent.isEmpty = false := by simpa using h
  have h'' : (l.urgent ++ more).isEmpty = false := by simp [h]
  simp only [LineLink.startSending, LineLink.nextToSend, LineLink.begin, LineLink.destination, h', h'', Bool.false_eq_true,
    if_false]
  by_cases hc : (l.carrier && l.transmitting.isNone) = true
  · simp [hc]
  · simp [hc]

/-! ## Line time set (R45 to R47) -/

/-- All that setting line time does: the clock, the deadlines reached, and the DAY_OVERRUN of an arrival at 129,599, placed or
owed. -/
theorem State.setLineTime_eq (t : Nat) (s : State) (h : t ≤ Config.lineTimeMax) :
    s.setLineTime t =
      { s with
        clock := { time := t, day := s.clock.day, overrun := decide (t = Config.lineTimeMax)
                   owedOverrun := s.clock.owedOverrun ||
                     decide ((t = Config.lineTimeMax ∧ s.clock.overrun = false) ∧ s.lli.urgentHasPlace = false) }
        ports := s.ports.map (Port.compareDeadlines t)
        expiry := s.expiry.map (ExpiryEntry.compareDeadline t)
        rt := { s.rt with entries := s.rt.entries.map (RefEntry.compareDeadline t) }
        lli := if (t = Config.lineTimeMax ∧ s.clock.overrun = false) ∧ s.lli.urgentHasPlace = true then
            LineLink.startSending { s.lli with urgent := s.lli.urgent ++ [.dayOverrun s.clock.day t] }
          else s.lli } := by
  by_cases ht : t = Config.lineTimeMax
  · subst ht
    cases ho : s.clock.overrun <;> cases hp : s.lli.urgentHasPlace <;>
      simp [State.setLineTime, State.checkOverrun, State.makeOverrun, State.compareDeadlines, State.pushUrgent, ho, hp]
  · simp [State.setLineTime, State.checkOverrun, State.compareDeadlines, ht]

/-! ## Taking a downstream frame (R179, R193) -/

theorem State.Takes.takeKind {s : State} {f : DownFrame} {rest : List DownFrame} (h : s.Takes f rest) {k : DownKind}
    (hk : f.kind = k) : s.takeKind k = some (f, s.taking rest) := by
  subst hk
  simp [State.takeKind, h.head, h.place, State.taking]

@[simp] theorem commandOf_code (c : CommandCode) : commandOf c.code = some c := by cases c <;> rfl

theorem State.Takes.takeCommand {s : State} {f : DownFrame} {rest : List DownFrame} (h : s.Takes f rest) {c : CommandCode}
    {args : List Byte} (hc : f.IsCommand c args) : s.takeCommand c = some (f, s.taking rest) := by
  have : f.command = some c := by
    simp [DownFrame.command, hc.kind, DownFrame.commandByte, DownFrame.args, hc.body, hc.length]
  simp [State.takeCommand, h.takeKind hc.kind, this]

/-- What a taking has found where it answers. -/
theorem State.takeKind_some {s t : State} {k : DownKind} {f : DownFrame} (h : s.takeKind k = some (f, t)) :
    ∃ rest, s.lli.receive = f :: rest ∧ s.lli.urgentHasPlace = true ∧ f.kind = k ∧ t = s.taking rest := by
  unfold State.takeKind at h
  split at h
  · split at h
    · rename_i g rest h1 h2
      simp only [Bool.and_eq_true, beq_iff_eq] at h2
      simp only [Option.some.injEq, Prod.mk.injEq] at h
      obtain ⟨rfl, rfl⟩ := h
      exact ⟨rest, h1, h2.1, h2.2, rfl⟩
    · cases h
  · cases h

theorem State.takeCommand_some {s t : State} {c : CommandCode} {f : DownFrame} (h : s.takeCommand c = some (f, t)) :
    ∃ rest, s.lli.receive = f :: rest ∧ s.lli.urgentHasPlace = true ∧ f.command = some c ∧ t = s.taking rest := by
  unfold State.takeCommand at h
  split at h
  · split at h
    · rename_i h1 h2
      simp only [Option.some.injEq, Prod.mk.injEq] at h
      obtain ⟨rfl, rfl⟩ := h
      obtain ⟨rest, a, b, _, d⟩ := State.takeKind_some h1
      exact ⟨rest, a, b, h2, d⟩
    · cases h
  · cases h

theorem State.taking_replyFull {s : State} {f : DownFrame} {rest : List DownFrame} (h : s.lli.replyHeld = false) (st : Status)
    (a : Option (TableId × Nat)) (b : Option ViewContents) :
    (s.taking rest).replyFull f st a b = s.answeredFull f rest st a b := by
  simp only [State.replyFull, State.pushUrgent, State.taking, State.answeredFull]
  rw [h]

theorem State.taking_reply {s : State} {f : DownFrame} {rest : List DownFrame} (h : s.lli.replyHeld = false) (st : Status) :
    (s.taking rest).reply f st = s.answered f rest st := State.taking_replyFull h st none none

theorem DownFrame.IsCommand.args_eq {f : DownFrame} {c : CommandCode} {args : List Byte} (h : f.IsCommand c args) :
    f.args = args := by simp [DownFrame.args, h.body]

theorem DownFrame.IsCommand.requestKind_eq {f : DownFrame} {c : CommandCode} {args : List Byte} (h : f.IsCommand c args) :
    f.requestKind = .command c.code := by simp [DownFrame.requestKind, h.kind, DownFrame.commandByte, h.body]

theorem portOf_val (p : PortId) : portOf p.val = some p := by simp [portOf]

theorem portOf_eq_none {n : Nat} (h : 8 ≤ n) : portOf n = none := by simp [portOf]; omega

@[simp] theorem tableOf_code (t : TableId) : tableOf t.code = some t := by cases t <;> rfl

theorem beBytes_length (n x : Nat) : (beBytes n x).length = n := by
  induction n with
  | zero => rfl
  | succ n ih => simp [beBytes, ih]

/-! ## Lists and the expiry queue (R66, R93, R94) -/

theorem insertBefore_eq {α : Type} (f : α → Bool) (a : α) (l : List α) :
    insertBefore f a l = l.takeWhile (fun x => !f x) ++ a :: l.dropWhile (fun x => !f x) := by
  induction l with
  | nil => rfl
  | cons b l ih => cases h : f b <;> simp [insertBefore, h, ih]

theorem insertBefore_length {α : Type} (f : α → Bool) (a : α) (l : List α) :
    (insertBefore f a l).length = l.length + 1 := by
  induction l with
  | nil => rfl
  | cons b l ih => cases h : f b <;> simp [insertBefore, h, ih]

theorem State.enterExpiry_eq (r : Record) (k : ExpiryKind) (n : Nat) (s : State) :
    s.enterExpiry r.card r.day k n = { s with expiry := queueWith r k s.clock.time n s.expiry } := by
  have e : ∀ m : Nat, (fun x : ExpiryEntry => !decide (m < x.dueTime)) = fun x => decide (x.dueTime ≤ m) := by
    intro m; funext x; rw [Bool.eq_iff_iff]; simp
  simp only [State.enterExpiry, insertBefore_eq]
  rw [e]; rfl

theorem State.cancelExpiry_eq (r : Record) (k : ExpiryKind) (s : State) :
    s.cancelExpiry r.card r.day k = { s with expiry := queueWithout r k s.expiry } := by
  have : ExpiryEntry.isFor r.card r.day k = fun e => decide (e.card = r.card ∧ e.day = r.day ∧ e.kind = k) := by
    funext e; rw [Bool.eq_iff_iff]; simp [ExpiryEntry.isFor]; tauto
  rw [State.cancelExpiry, this]; rfl

/-- A gate answer is the same whatever the Pairing Unit holds. -/
theorem State.handAnswer_withPu (p : PortId) (n : BitVec 16) (k : TapNo) (a : Answer) (s : State) (x : PairingUnit) :
    State.handAnswer p n k a { s with pu := x } = { s.handAnswer p n k a with pu := x } := by
  by_cases h : (s.port p).st = .attached ∧ (s.port p).carrier = true ∧ (s.port p).attachment = n
  · exact (if_pos (by exact h)).trans (by rw [State.handAnswer, if_pos h]; rfl)
  · exact (if_neg (by exact h)).trans (by rw [State.handAnswer, if_neg h]; rfl)

/-- Each held tap-out's HOLD entry leaves the expiry queue, in the order of the list. -/
theorem State.cancelHolds_eq (r : Record) (l : List HeldTap) (s : State) : l.foldl (fun s h => s.cancelHold r h) s =
    { s with expiry := l.foldl (fun q h => queueWithout r (.hold h.port h.hubSeq) q) s.expiry } := by
  induction l generalizing s with
  | nil => rfl
  | cons h l ih => rw [List.foldl_cons, ih, List.foldl_cons, State.cancelHold, State.cancelExpiry_eq]

/-- The entries that a closure cancels (R169). -/
theorem State.cancelAll_eq (r : Record) (s : State) : s.cancelAll r = { s with
    expiry := r.held.foldl (fun q h => queueWithout r (.hold h.port h.hubSeq) q)
      (if r.openJourney.isSome = true then queueWithout r .journeyLimit s.expiry else s.expiry) } := by
  simp only [State.cancelAll]
  rw [State.cancelHolds_eq]
  by_cases ho : r.openJourney.isSome = true
  · simp only [ho, if_true, State.cancelLimit]
    rw [State.cancelExpiry_eq]
  · simp only [ho, Bool.false_eq_true, if_false]

/-- What a tap that ends in a TAP_NOTICE comes to, with and without a bulk place (R79, R81). -/
theorem State.noticeTap_cases (t : Tap) (r : NoticeReason) (a : Answer) (s : State) :
    (s.lli.bulk.length < 512 → s.noticeTap t r a = s.noticed t r a) ∧
      (512 ≤ s.lli.bulk.length → s.noticeTap t r a = s.noticeHeld t r a) := by
  constructor
  · intro h
    have hp : ((s.bump (.tapNotices r)).answerTap t (t.ifLive a)).lli.bulkHasPlace = true := by
      simp [LineLink.bulkHasPlace, h]
    exact if_pos hp
  · intro h
    have hp : ¬((s.bump (.tapNotices r)).answerTap t (t.ifLive a)).lli.bulkHasPlace = true := by
      simp [LineLink.bulkHasPlace, h]
    refine (if_neg hp).trans ?_
    simp only [Tap.ifLive, State.noticeHeld]
    cases t.live
    · rfl
    · simp only [State.answerTap_pu, State.bump_pu]
      exact (State.handAnswer_withPu _ _ _ _ _ _).symm

theorem State.takeHead_eq {s : State} {p : PortId} {t : Tap} {rest : List Tap} (h : (s.port p).intake = t :: rest) :
    s.takeHead p = some (t, s.tapTaken p rest) := by
  simp only [State.takeHead, h]; rfl

/-! ## Work (R101 to R110, R169) -/

/-- Non-tap entries of L3 put into the pool in order. -/
theorem State.joinAll_eq (es : List WorkEntry) (s : State) (h : ∀ e ∈ es, e.level = .l3 ∧ e.cls = .nonTap) :
    s.joinAll es =
      { s with pool := { s.pool with l3 := s.pool.l3 ++ es, nonTapInUse := s.pool.nonTapInUse + es.length } } := by
  induction es generalizing s with
  | nil => simp [State.joinAll]
  | cons e es ih =>
    have he := h e (by simp)
    have ih := ih (s.joinPool e) fun x hx => h x (by simp [hx])
    simp only [State.joinAll] at ih
    simp only [State.joinAll, List.foldl_cons]
    rw [ih]
    simp only [State.joinPool, WorkPool.join, he.1, he.2, WorkPool.setList, WorkPool.list]
    simp [Nat.add_comm, Nat.add_left_comm]

theorem Record.closureWork_mem (r : Record) : ∀ e ∈ r.closureWork, e.level = .l3 ∧ e.cls = .nonTap := by
  intro e he
  simp only [Record.closureWork, List.mem_append, List.mem_map] at he
  rcases he with ⟨o, _, rfl⟩ | ⟨o, _, rfl⟩ <;> exact ⟨rfl, rfl⟩

theorem Record.closureWork_length (r : Record) : r.closureWork.length = r.openJourney.toList.length + r.held.length := by
  simp [Record.closureWork]

/-- A grant leaves the uses of the slots as they are: the entry stays in its slot (R109). -/
theorem WorkPool.grant_uses {w v : WorkPool} {e : WorkEntry} {a : Bool} (h : w.grant = some (e, a, v)) :
    v.tapInUse = w.tapInUse ∧ v.nonTapInUse = w.nonTapInUse := by
  have set : ∀ (x : WorkPool) (l : Level) (es : List WorkEntry),
      (x.setList l es).tapInUse = x.tapInUse ∧ (x.setList l es).nonTapInUse = x.nonTapInUse := by
    intro x l es; cases l <;> exact ⟨rfl, rfl⟩
  have after : ∀ (x : WorkPool) (l : Level) (b : Bool),
      (x.afterGrant l b).tapInUse = x.tapInUse ∧ (x.afterGrant l b).nonTapInUse = x.nonTapInUse := by
    intro x l b; unfold WorkPool.afterGrant; (repeat' split) <;> exact ⟨rfl, rfl⟩
  unfold WorkPool.grant at h
  split at h
  · split at h
    · cases h; simp [set, after]
    · cases h
  · cases h

/-! ## Condition sets (R137 to R144) -/

theorem CondSet.has_or (a b : CondSet) (c : Condition) : CondSet.has (a ||| b) c = (a.has c || b.has c) := by
  simp [CondSet.has]

theorem CondSet.has_and (a b : CondSet) (c : Condition) : CondSet.has (a &&& b) c = (a.has c && b.has c) := by
  simp [CondSet.has]

theorem Condition.has_onlyIf (c d : Condition) (b : Bool) : (c.onlyIf b).has d = (b && decide (c = d)) := by
  cases b
  · simp [Condition.onlyIf, CondSet.has]
  · simp only [Condition.onlyIf]; cases c <;> cases d <;> decide

end Sys2Proof.Machine
end

