-- ==== Sys2Proof/Laws/Pricing.lean ====
section
/-! SUPPORT. What the steps of a pricing do, said once: which counters rise, the gate answer, the placing of the frame with the
endings and the release; and that the counters are read by none of them. -/

namespace Sys2Proof.Machine

/-! ## Counters that rise -/

theorem State.counted_none (s : State) : s.Counted (fun _ => false) s := by intro c; simp

/-- Two groups of counters raised one after the other, with none in both. -/
theorem State.Counted.then {f g : CounterId → Bool} {s t u : State} (hf : s.Counted f t) (hg : t.Counted g u)
    (h : ∀ c, f c = true → g c = true → False) : s.Counted (fun c => f c || g c) u := by
  intro c
  have a := hf c
  have b := hg c
  have d := h c
  cases hf : f c <;> cases hg : g c <;> simp_all

theorem State.counted_bump (c : CounterId) (s : State) : s.Counted (fun x => decide (x = c)) (s.bump c) := by
  intro x
  by_cases h : x = c
  · subst h; simp [State.bump, State.count]
  · simp [State.bump, State.count, h, Counters.value_add_other _ _ h]

/-- Counting looks at the counters alone, and at a group by its members. -/
theorem State.Counted.congr {f g : CounterId → Bool} {s t u v : State} (hf : s.Counted f u) (h : ∀ c, f c = g c)
    (hs : t.counters = s.counters) (hu : v.counters = u.counters) : t.Counted g v := by
  intro c; rw [hu, hf c, h c, hs]

theorem State.counted_conditions (cs : CondSet) (s : State) :
    s.Counted (fun x => match x with | .conditions y => cs.has y | _ => false) (s.bumpConditions cs) := by
  have key : ∀ l : List Condition, l.Nodup → ∀ s : State,
      s.Counted (fun x => match x with | .conditions y => decide (y ∈ l) | _ => false)
        (l.foldl (fun s c => s.bump (.conditions c)) s) := by
    intro l
    induction l with
    | nil => intro _ s c; cases c <;> simp
    | cons a l ih =>
      intro hn s
      have hn := List.nodup_cons.1 hn
      refine ((s.counted_bump (.conditions a)).then (ih hn.2 _) ?_).congr ?_ rfl rfl
      · intro c h1 h2
        simp only [decide_eq_true_eq] at h1
        subst h1
        exact hn.1 (by simpa using h2)
      · intro c; cases c <;> simp
  refine (key cs.members (List.Nodup.filter _ (by decide)) s).congr ?_ rfl rfl
  intro c
  cases c <;> simp [CondSet.members]
  rename_i y
  cases y <;> simp [Condition.all]

theorem CondSet.has_and_not (a b : CondSet) (y : Condition) : CondSet.has (a &&& ~~~b) y = (a.has y && !b.has y) := by
  cases y <;> simp [CondSet.has, Condition.bitNo]

/-- A written charge counts its conditions, but for those that its ticket's entry already stored. -/
theorem State.counted_countConditions (e : WorkEntry) (cs stored : CondSet) (s : State)
    (h : stored = match e.ticket with | some t => (s.rt.entry (slotOfTicket t)).conds | none => 0) :
    s.Counted (fun x => match x with | .conditions y => cs.has y && !stored.has y | _ => false) (s.countConditions e cs) := by
  subst h
  unfold State.countConditions State.ticketEntry
  cases e.ticket with
  | none => refine (s.counted_conditions cs).congr ?_ rfl rfl; intro c; cases c <;> simp [CondSet.has]
  | some t => refine (s.counted_conditions _).congr ?_ rfl rfl; intro c; cases c <;> simp [CondSet.has_and_not]

/-! ## The counters are read by no ending -/

/-- The state with its counters replaced. -/
def State.withCounters (k : Counters) (s : State) : State := { s with counters := k }

theorem State.bump_eq (c : CounterId) (s : State) : s.bump c = s.withCounters (s.bump c).counters := rfl

theorem State.bumpConditions_eq (cs : CondSet) (s : State) :
    s.bumpConditions cs = s.withCounters (s.bumpConditions cs).counters := by
  unfold State.bumpConditions
  generalize cs.members = l
  induction l using List.reverseRecOn with
  | nil => rfl
  | append_singleton l a ih =>
    rw [List.foldl_append, List.foldl_cons, List.foldl_nil, State.bump_eq]
    conv_lhs => rw [ih]
    rfl

theorem State.countConditions_eq (e : WorkEntry) (cs : CondSet) (s : State) :
    s.countConditions e cs = s.withCounters (s.countConditions e cs).counters := by
  unfold State.countConditions; split <;> exact State.bumpConditions_eq _ _

theorem State.raise_withCounters (p : PortId) (k : AttnKind) (d : AttnDetail) (c : Counters) (s : State) :
    (s.withCounters c).raise p k d = (s.raise p k d).withCounters c := by
  unfold State.raise
  have e1 : (s.withCounters c).port p = s.port p := rfl
  have e3 : ∀ q, (s.withCounters c).setPort p q = (s.setPort p q).withCounters c := fun _ => rfl
  dsimp only
  simp only [e1, e3]
  by_cases h1 : (s.port p).attention.has k = true
  · rw [if_pos h1, if_pos h1]
  · rw [if_neg h1, if_neg h1]
    by_cases h2 : (s.port p).mask.has k = true
    · rw [if_pos h2, if_pos h2]
    · rw [if_neg h2, if_neg h2]
      by_cases h3 : s.lli.hasPlaceFor (s.port p).cls = true
      · rw [if_pos (by exact h3), if_pos (by exact h3)]
        cases (s.port p).cls <;> rfl
      · rw [if_neg (by exact h3), if_neg (by exact h3)]; rfl

theorem State.offerSweepIfFell_withCounters (n : Nat) (c : Counters) (s : State) :
    (s.withCounters c).offerSweepIfFell n = (s.offerSweepIfFell n).withCounters c := by
  unfold State.offerSweepIfFell
  have e : (s.withCounters c).reservation = s.reservation := rfl
  rw [e]
  split <;> rfl

theorem State.completeDetach_withCounters (p : PortId) (c : Counters) (s : State) :
    (s.withCounters c).completeDetach p = (s.completeDetach p).withCounters c := by
  unfold State.completeDetach
  dsimp only
  rw [← State.raise_withCounters, ← State.offerSweepIfFell_withCounters]; rfl

theorem State.completeDetachIfDone_withCounters (p : PortId) (c : Counters) (s : State) :
    (s.withCounters c).completeDetachIfDone p = (s.completeDetachIfDone p).withCounters c := by
  unfold State.completeDetachIfDone
  have e : (s.withCounters c).port p = s.port p := rfl
  rw [e]
  by_cases h : (s.port p).st = .detaching ∧ (s.port p).outstanding = 0
  · rw [if_pos h, if_pos h, State.completeDetach_withCounters]
  · rw [if_neg h, if_neg h]

theorem State.endTap_withCounters (p : PortId) (n : BitVec 16) (c : Counters) (s : State) :
    (s.withCounters c).endTap p n = (s.endTap p n).withCounters c := by
  unfold State.endTap
  have e : (s.withCounters c).port p = s.port p := rfl
  dsimp only
  rw [e]
  by_cases h : (s.port p).attachment = n
  · rw [if_pos h, if_pos h]
    cases (s.port p).st
    case detaching => exact State.completeDetachIfDone_withCounters p c (s.setPort p _)
    all_goals rfl
  · rw [if_neg h, if_neg h]
    exact State.offerSweepIfFell_withCounters s.reservation c
      { s with pool := { s.pool with releasedTaps := s.pool.releasedTaps - 1 } }

theorem State.pricingEnded_withCounters (e : WorkEntry) (f : UpFrame) (c : Counters) (s : State) :
    (s.withCounters c).pricingEnded e f = (s.pricingEnded e f).withCounters c := by
  unfold State.pricingEnded
  have : (s.withCounters c).pushBulk f = (s.pushBulk f).withCounters c := rfl
  simp only [this]
  cases e.waiting with
  | none => rfl
  | some w => simp only [State.endTap_withCounters]; rfl

/-! ## The steps of a pricing -/

/-- A record written with nothing pending joins the summary list where it is CLOSING, and nothing else changes. -/
theorem State.reportIfReady_eq (r : Record) (s : State) :
    s.reportIfReady r = { s with roll := { s.roll with summary := summaryWith r s.roll.summary } } := by
  unfold State.reportIfReady summaryWith joinTail
  by_cases h : r.status = .closing ∧ r.pendingCount = 0
  · rw [if_pos h]
    by_cases hm : (r.card, r.day) ∈ s.roll.summary
    · simp [hm]
    · simp [hm, h]
  · rw [if_neg h, if_neg]
    intro h'; exact h ⟨h'.1, h'.2.1⟩

/-- Steps 4 and 5 of R110: the waiting tap's ending, the ticket's entry freed, the slot released, the sweep offered again. -/
theorem State.finishPricing_eq (p : Pricing) (s : State) : s.finishPricing p =
    (let z := s.endWaiting p.entry.waiting
     { z with
       fu := .idle
       rt := s.rt.ticketFreed p.entry.ticket
       roll := { z.roll with paused := false }
       pool := match p.entry.cls with
         | .tap => { z.pool with tapInUse := z.pool.tapInUse - 1 }
         | .nonTap => { z.pool with nonTapInUse := z.pool.nonTapInUse - 1 } }) := by
  have hz : (s.endWaiting p.entry.waiting).rt = s.rt := by simp
  simp only [State.finishPricing, State.freeSlot, State.offerSweep, State.endTicket]
  cases p.entry.ticket <;> cases p.entry.cls <;> simp only [ReferralTable.ticketFreed, ← hz]
  all_goals first | done | rfl

/-- Steps 3 to 5 of R110 with a bulk place. -/
theorem State.placeOutcome_finishPricing (p : Pricing) (s : State) : (s.placeOutcome p).finishPricing p =
    (s.pricingEnded p.entry (s.frameOf p)).withCounters (s.counters.add p.outcome.counter 1) := by
  have h : s.placeOutcome p = (s.pushBulk (s.frameOf p)).withCounters (s.counters.add p.outcome.counter 1) := rfl
  have hw : ((s.pushBulk (s.frameOf p)).withCounters (s.counters.add p.outcome.counter 1)).endWaiting p.entry.waiting =
      ((s.pushBulk (s.frameOf p)).endWaiting p.entry.waiting).withCounters (s.counters.add p.outcome.counter 1) := by
    unfold State.endWaiting
    split
    · exact State.endTap_withCounters _ _ _ _
    · rfl
  rw [h, State.finishPricing_eq]
  simp only [hw]
  rfl

/-- Step 3 with and without a bulk place (R110, R111). -/
theorem State.placeAndFinish_cases (p : Pricing) (s : State) :
    (s.lli.bulk.length < 512 → s.placeAndFinish p = (s.placeOutcome p).finishPricing p) ∧
      (512 ≤ s.lli.bulk.length → s.placeAndFinish p = State.bump .stalls { s with fu := .stalled p }) := by
  refine ⟨fun h => if_pos ?_, fun h => if_neg ?_⟩
  · simpa [LineLink.bulkHasPlace] using h
  · simpa [LineLink.bulkHasPlace] using h

end Sys2Proof.Machine
end

