-- ==== Sys2Proof/Laws/TableStep.lean ====
section
/-! SUPPORT. What any command can do to the table store, said once (R1, R3, R13 to R18, R21): `exec_tables`. -/

namespace Sys2Proof.Machine

open Sys2Proof

/-- All a command other than POWER_ON_RESET can do to the table store: leave it; copy a row; end a copy; disarm; unarmed and with no
copy in flight, begin a copy, arm, or load the pending bank; armed, swap the roles. -/
def TableStore.Step (c : Instr) (ts u : TableStore) : Prop :=
  u = ts ∨ (c = .copyRow ∧ u = copyOneRow ts) ∨ u = { ts with copyPos := none } ∨ u = { ts with armedGen := none } ∨
  (ts.armed = false ∧ ts.copying = false ∧
    (u = { ts with copyPos := some 0 } ∨ (∃ g, u = { ts with armedGen := g }) ∨ ∃ b, u = { ts with prep := b })) ∨
  (ts.armed = true ∧ u = ts.swapRoles)

/-! ## The operations that leave the table store -/

theorem State.takeKind_tables {s t : State} {k : DownKind} {f : DownFrame} (h : s.takeKind k = some (f, t)) :
    t.tables = s.tables := by
  obtain ⟨r, _, _, _, rfl⟩ := State.takeKind_some h; rfl

theorem State.takeCommand_tables {s t : State} {k : CommandCode} {f : DownFrame} (h : s.takeCommand k = some (f, t)) :
    t.tables = s.tables := by
  obtain ⟨r, _, _, _, rfl⟩ := State.takeCommand_some h; rfl

theorem State.takeHead_tables {p : PortId} {t : Tap} {s u : State} (h : s.takeHead p = some (t, u)) :
    u.tables = s.tables := by
  unfold State.takeHead at h; dsimp only at h
  split at h
  · simp only [Option.some.injEq, Prod.mk.injEq] at h; rw [← h.2]; simp
  · cases h

@[simp] theorem State.onFrame_tables (p : PortId) (c : FrameCase) (act : State → State) (s : State)
    (h : (act (s.clearRun p)).tables = s.tables) : (State.onFrame p c act s).tables = s.tables := by
  cases c <;> simp [State.onFrame, h]

@[simp] theorem State.decideAnswer_tables (k : BitVec 16) (a : RefAnswer) (s : State) :
    (State.decideAnswer k a s).2.tables = s.tables := by
  unfold State.decideAnswer; dsimp only; (repeat' split) <;> simp

@[simp] theorem State.answerView_tables (f : DownFrame) (v : ViewSel) (s : State) :
    (State.answerView f v s).tables = s.tables := by
  unfold State.answerView; split <;> simp

@[simp] theorem portAttachTaken_tables (f : DownFrame) (s : State) : (portAttachTaken f s).tables = s.tables := by
  unfold portAttachTaken; dsimp only; (repeat' split) <;> simp

@[simp] theorem portDetachTaken_tables (f : DownFrame) (s : State) : (portDetachTaken f s).tables = s.tables := by
  unfold portDetachTaken; dsimp only; (repeat' split) <;> simp

@[simp] theorem setPortOptionsTaken_tables (f : DownFrame) (s : State) : (setPortOptionsTaken f s).tables = s.tables := by
  unfold setPortOptionsTaken; (repeat' split) <;> simp

@[simp] theorem clearAttentionTaken_tables (f : DownFrame) (s : State) : (clearAttentionTaken f s).tables = s.tables := by
  unfold clearAttentionTaken; (repeat' split) <;> simp

@[simp] theorem setDispositionTaken_tables (f : DownFrame) (s : State) : (setDispositionTaken f s).tables = s.tables := by
  unfold setDispositionTaken; (repeat' split) <;> simp

@[simp] theorem captureTaken_tables (f : DownFrame) (s : State) : (captureTaken f s).tables = s.tables := by
  unfold captureTaken; (repeat' split) <;> simp

@[simp] theorem State.createReferralWork_tables (i : Fin 256) (l : List (Fin 256)) (s : State) :
    (State.createReferralWork i l s).tables = s.tables := by
  unfold State.createReferralWork; dsimp only; (repeat' split) <;> simp

@[simp] theorem State.countConditions_tables (e : WorkEntry) (cs : CondSet) (s : State) :
    (State.countConditions e cs s).tables = s.tables := by
  unfold State.countConditions; split <;> simp

@[simp] theorem State.outcomeUpdate_tables (e : WorkEntry) (c : Copies) (k : Reckoning) (s : State) :
    (State.outcomeUpdate e c k s).2.tables = s.tables := by
  unfold State.outcomeUpdate State.chargeGone State.chargeRecord State.divert; dsimp only; (repeat' split) <;> simp

@[simp] theorem State.priceEntry_tables (e : WorkEntry) (s : State) : (State.priceEntry e s).tables = s.tables := by
  unfold State.priceEntry; simp

@[simp] theorem State.tapInRecord_tables (t : Tap) (r : Record) (s : State) : (State.tapInRecord t r s).tables = s.tables := by
  unfold State.tapInRecord State.pairTapIn State.pairTapOut State.holdOrDisplace; dsimp only; (repeat' split) <;> simp

@[simp] theorem State.findAndPair_tables (t : Tap) (s : State) : (State.findAndPair t s).tables = s.tables := by
  unfold State.findAndPair; (repeat' split) <;> simp

@[simp] theorem State.stepTap_tables (t : Tap) (s : State) : (State.stepTap t s).tables = s.tables := by
  unfold State.stepTap; (repeat' split) <;> simp
/-! ## The commands a downstream frame carries -/

theorem State.taken_kind {s u : State} {k : DownKind} (g : DownFrame → State → State)
    (h : (match s.takeKind k with
      | some (f, v) => (.next (g f v) : Host.Outcome State Fault Refusal)
      | none => .next s) = .next u) : (∃ f v, v.tables = s.tables ∧ u = g f v) ∨ u = s := by
  split at h <;> cases h
  · exact .inl ⟨_, _, State.takeKind_tables (by assumption), rfl⟩
  · exact .inr rfl

theorem State.taken_command {s u : State} {k : CommandCode} (g : DownFrame → State → State)
    (h : (match s.takeCommand k with
      | some (f, v) => (.next (g f v) : Host.Outcome State Fault Refusal)
      | none => .next s) = .next u) : (∃ f v, v.tables = s.tables ∧ u = g f v) ∨ u = s := by
  split at h <;> cases h
  · exact .inl ⟨_, _, State.takeCommand_tables (by assumption), rfl⟩
  · exact .inr rfl

theorem loadTaken_tables {ts : TableStore} (f : DownFrame) (s : State) (hs : s.tables = ts) :
    (loadTaken f s).tables = ts ∨
      (ts.armed = false ∧ ts.copying = false ∧ ∃ b, (loadTaken f s).tables = { ts with prep := b }) := by
  unfold loadTaken; dsimp only
  split
  · rename_i t hd
    have : s.tables.armed = false ∧ s.tables.copying = false := by
      unfold loadDecision at hd; (repeat' split at hd) <;> simp_all
    exact .inr ⟨hs ▸ this.1, hs ▸ this.2, s.tables.prep.loadRows t (loadArgsOf f.body), by simp [hs]⟩
  · exact .inl (by simp [hs])

theorem armTaken_tables {ts : TableStore} (f : DownFrame) (s : State) (hs : s.tables = ts) :
    (armTaken f s).tables = ts ∨
      (ts.armed = false ∧ ts.copying = false ∧ ∃ g, (armTaken f s).tables = { ts with armedGen := g }) := by
  unfold armTaken; dsimp only
  split
  · rename_i hd
    have : s.tables.armed = false ∧ s.tables.copying = false := by
      unfold armDecision at hd; (repeat' split at hd) <;> simp_all
    exact .inr ⟨hs ▸ this.1, hs ▸ this.2, some (fieldAt f.args 0 2), by simp [hs]⟩
  · exact .inl (by simp [hs])

theorem disarmTaken_tables (f : DownFrame) (s : State) :
    (disarmTaken f s).tables = s.tables ∨ (disarmTaken f s).tables = { s.tables with armedGen := none } := by
  unfold disarmTaken; split <;> simp

theorem copyActiveTaken_tables {ts : TableStore} (f : DownFrame) (s : State) (hs : s.tables = ts) :
    (copyActiveTaken f s).tables = ts ∨
      (ts.armed = false ∧ ts.copying = false ∧ (copyActiveTaken f s).tables = { ts with copyPos := some 0 }) := by
  subst hs; unfold copyActiveTaken; (repeat' split) <;> simp_all

theorem rollDayTaken_tables {ts : TableStore} (f : DownFrame) (s : State) (hs : s.tables = ts) :
    (rollDayTaken f s).tables = ts ∨ (ts.armed = true ∧ (rollDayTaken f s).tables = ts.swapRoles) := by
  unfold rollDayTaken; dsimp only
  split
  · exact .inl (by simp [hs])
  · rename_i hd
    have : s.tables.armed = true := by
      unfold rollDecision at hd; (repeat' split at hd) <;> simp_all
    exact .inr ⟨hs ▸ this, by simp [State.immediateRoll, State.startDay, hs]⟩
  · exact .inl (by simp [State.acceptRoll, State.startDay, hs])

@[simp] theorem engineResetTaken_tables (f : DownFrame) (s : State) :
    (engineResetTaken f s).tables = { s.tables with copyPos := none } := by
  have ports : ∀ (l : List PortId) (w : State), (l.foldl (fun s p => s.afterReset p) w).tables = w.tables := by
    intro l; induction l with
    | nil => intro w; rfl
    | cons a l ih => intro w; rw [List.foldl_cons, ih]; simp
  simp [engineResetTaken, State.resetPorts, ports, State.resetBlocks, TableStore.engineReset]

/-! ## The end of a roll -/

theorem State.checkRoll_tables (s : State) :
    s.checkRoll.tables = s.tables ∨ (s.tables.armed = true ∧ s.checkRoll.tables = s.tables.swapRoles) := by
  unfold State.checkRoll
  split
  · unfold State.endRoll; dsimp only
    cases s.tables.armed
    · left; simp
    · right; simp
  · exact .inl rfl

theorem TableStore.step_checkRoll {c : Instr} {s v : State} (h : v.tables = s.tables) :
    TableStore.Step c s.tables v.checkRoll.tables := by
  rw [← h]
  rcases v.checkRoll_tables with e | e
  · exact .inl e
  · exact .inr (.inr (.inr (.inr (.inr e))))

/-! ## Every command -/

/-- The table store an outcome leaves. -/
def outcomeTables (s : State) : Host.Outcome State Fault Refusal → TableStore
  | .next u => u.tables
  | _ => s.tables

theorem outcomeTables_next {s u : State} {o : Host.Outcome State Fault Refusal} (h : o = .next u) :
    u.tables = outcomeTables s o := by subst h; rfl

theorem exec_tables (c : Instr) (s u : State) (hc : c ≠ .powerOnReset) (h : exec c s = .next u) :
    TableStore.Step c s.tables u.tables := by
  cases c
  case powerOnReset => exact absurd rfl hc
  case copyRow => cases h; exact .inr (.inl ⟨rfl, rfl⟩)
  case load =>
    rcases State.taken_kind loadTaken h with ⟨f, v, hv, rfl⟩ | rfl
    · rcases loadTaken_tables f v hv with e | ⟨h1, h2, e⟩
      · exact .inl e
      · exact .inr (.inr (.inr (.inr (.inl ⟨h1, h2, .inr (.inr e)⟩))))
    · exact .inl rfl
  case arm =>
    rcases State.taken_command armTaken h with ⟨f, v, hv, rfl⟩ | rfl
    · rcases armTaken_tables f v hv with e | ⟨h1, h2, e⟩
      · exact .inl e
      · exact .inr (.inr (.inr (.inr (.inl ⟨h1, h2, .inr (.inl e)⟩))))
    · exact .inl rfl
  case disarm =>
    rcases State.taken_command disarmTaken h with ⟨f, v, hv, rfl⟩ | rfl
    · rw [← hv]
      rcases disarmTaken_tables f v with e | e
      · exact .inl e
      · exact .inr (.inr (.inr (.inl e)))
    · exact .inl rfl
  case copyActive =>
    rcases State.taken_command copyActiveTaken h with ⟨f, v, hv, rfl⟩ | rfl
    · rcases copyActiveTaken_tables f v hv with e | ⟨h1, h2, e⟩
      · exact .inl e
      · exact .inr (.inr (.inr (.inr (.inl ⟨h1, h2, .inl e⟩))))
    · exact .inl rfl
  case rollDay =>
    rcases State.taken_command rollDayTaken h with ⟨f, v, hv, rfl⟩ | rfl
    · rcases rollDayTaken_tables f v hv with e | e
      · exact .inl e
      · exact .inr (.inr (.inr (.inr (.inr e))))
    · exact .inl rfl
  case engineReset =>
    rcases State.taken_command engineResetTaken h with ⟨f, v, hv, rfl⟩ | rfl
    · exact .inr (.inr (.inl (by simp [hv])))
    · exact .inl rfl
  case copyComplete =>
    simp only [exec, execCopyComplete] at h
    split at h <;> cases h
    · exact .inr (.inr (.inl (by simp)))
    · exact .inl rfl
  case chainVisit =>
    simp only [exec, execChainVisit] at h
    split at h <;> cases h
    · exact TableStore.step_checkRoll rfl
    · exact .inl rfl
  case sweepItem =>
    simp only [exec, execSweepItem] at h
    split at h <;> cases h
    · unfold State.sweepCard State.leaveVisit
      (repeat' split) <;> first | exact TableStore.step_checkRoll (by simp) | exact .inl (by simp)
    · exact .inl rfl
  case daySummary =>
    simp only [exec, execDaySummary] at h
    (repeat' split at h) <;> cases h <;>
      first | exact .inl rfl | (unfold State.summarise; exact TableStore.step_checkRoll (by simp))
  case tapStep =>
    left; simp only [exec, execTapStep] at h
    (repeat' split at h) <;> cases h <;> first | rfl | simp [State.takeHead_tables (by assumption)]
  all_goals (left; simp only [exec] at h; rw [outcomeTables_next (s := s) h]; clear h)
  case hubState p alarm code =>
    unfold execHubState; simp only [outcomeTables]
    exact State.onFrame_tables _ _ _ _ (by cases alarm <;> simp)
  all_goals
    simp only [execGateCarrierLoss, execGateCarrierReturn, execTap, execBeacon, execAttachAck, execBadFrame, execGateFrameSent,
    execAttachTimeout, execBeaconTimeout, execLineTimeAdvance, execExpiryDue, execReferralDue, execLineFrameReceived,
    State.receiveGood, execLineCarrierLoss, execLineCarrierReturn, execUpstreamFrameSent, execReferralAnswer,
    referralAnswerTaken, execView, viewTaken, execPortAttach, execPortDetach, execSetPortOptions, execClearAttention,
    execSetTime, setTimeTaken, execSetDisposition, execCaptureCounters, execUnknownCommand, execTapNotice,
    execExpiryStep, execSlotWaitResume, execGrant, execStallResume, execReferralWork, execOwedPortNotice,
    execOwedDayOverrun, execOwedRollDone]
    (repeat' split) <;> (try simp only [outcomeTables]) <;>
      first
      | simp [State.takeCommand_tables (by assumption)]
      | simp [State.takeKind_tables (by assumption)]
      | simp

end Sys2Proof.Machine
end

