-- ==== Sys2Proof/Laws/Tables.lean ====
section
/-! SUPPORT. What validation examines, said once (R19, R20). -/

namespace Sys2Proof.Machine

/-- A row fails exactly where validation examines it and it does not pass. -/
theorem Bank.fails_iff (b : Bank) (t : TableId) (i : Nat) :
    b.Fails t i ↔ i < b.examined t ∧ b.rowPasses t i = false := by
  cases t
  · simp only [Bank.Fails, Bank.examined, TableId.rows, Bank.rowPasses, LineRow.passes]
    rw [Nat.lt_one_iff]
    exact and_congr Iff.rfl (by simp)
  · simp only [Bank.Fails, Bank.examined, TableId.rows, Bank.rowPasses, StationRow.passes, StationRow.isEnabled]
    by_cases h : i < 64 <;> simp [h]
  · simp only [Bank.Fails, Bank.examined, Bank.rowPasses, Bank.bandPasses]
    refine and_congr Iff.rfl ?_
    cases i <;> simp
  · simp only [Bank.Fails, Bank.examined, Bank.rowPasses, Bank.timeBandPasses]
    refine and_congr Iff.rfl ?_
    cases i <;> simp [Config.lineTimeMax]
  · simp only [Bank.Fails, Bank.examined, TableId.rows, Bank.rowPasses, ProductRow.passes, ProductRow.expected]
    by_cases h : i < 256 <;> simp [h]
  · simp only [Bank.Fails, Bank.examined, TableId.rows, Bank.rowPasses]
    by_cases h : i < 16 <;> simp [h]

/-- The first failing row of a table. -/
theorem Bank.firstFailing_eq_some (b : Bank) (t v : TableId) (i : Nat) :
    b.firstFailing t = some (v, i) ↔ t = v ∧ b.Fails t i ∧ ∀ j, j < i → ¬b.Fails t j := by
  simp only [Bank.firstFailing, Option.map_eq_some_iff, Prod.mk.injEq, List.find?_range_eq_some, Bank.fails_iff]
  constructor
  · rintro ⟨a, ⟨h1, h2, h3⟩, rfl, rfl⟩
    refine ⟨rfl, ⟨List.mem_range.1 h2, by simpa using h1⟩, fun j hj hf => ?_⟩
    have := h3 j hj
    simp [hf.2] at this
  · rintro ⟨rfl, ⟨h3, h4⟩, h2⟩
    refine ⟨i, ⟨by simp [h4], List.mem_range.2 h3, fun j hj => ?_⟩, rfl, rfl⟩
    cases hx : b.rowPasses t j
    · exact absurd ⟨by omega, hx⟩ (h2 j hj)
    · rfl

/-- No row of a table fails. -/
theorem Bank.firstFailing_eq_none (b : Bank) (t : TableId) : b.firstFailing t = none ↔ ∀ i, ¬b.Fails t i := by
  simp only [Bank.firstFailing, Option.map_eq_none_iff, List.find?_eq_none, List.mem_range, Bank.fails_iff]
  constructor
  · intro h i hi; simpa [hi.2] using h i hi.1
  · intro h i hi; simpa [hi] using h i

end Sys2Proof.Machine
end

