-- ==== Sys2Proof/Tests/Slice0.lean ====
section
/-! SUPPORT. Tests of the model against worked values of the spec, each on one operation or one step; and, for every statement
with hypotheses, a state and operands that meet them (`witness_…`), clause by clause. -/

-- One theorem at a time: each kernel evaluation waits for the theorems before it, and threads that wait hold their stacks.
set_option Elab.async false

namespace Sys2Proof.Tests

open Sys2Proof.Machine

/-! ## Small states -/

/-- A tap frame with a number and items. -/
def tapFrame (n : TapNo) (items : List TapItem) : TapFrame := ⟨n, .tapIn, true, 1234567, 12, 0, 9, 412, 36000, items⟩

/-- A concession item. -/
def item (last : Bool) : TapItem := ⟨1, false, last, 2⟩

/-- Port 3 of section 2.5's example after TAP 101: credit limit 4, last taken 101, two taps outstanding. -/
def upPort : Port :=
  { Port.reset with st := .attached, carrier := true, creditLimit := 4, lastTaken := 101, advertised := 103, outstanding := 2 }

/-- The reset state with port 3 as given. -/
def withPort (q : Port) : State := State.reset.setPort 3 q

/-- A state with one downstream frame received. -/
def got (f : DownFrame) (s : State) : State := { s with lli := { s.lli with receive := [f] } }

/-- A COMMAND frame. -/
def command (c : CommandCode) (args : List Byte) : DownFrame := ⟨.command, 7, c.code :: args⟩

/-- The reset state rolled into READY on day 412, with its roll at READY. -/
def readyState : State :=
  { State.reset with
    clock := { State.reset.clock with day := 412, time := 36000 }
    roll := { State.reset.roll with state := .ready } }

/-- A roll of day 411 into day 412. -/
def rollingState : State :=
  { readyState with roll := { readyState.roll with state := .rolling, oldDay := some 411 } }

/-! ## Well-formedness -/

/-- R190: an item count above 6 makes no TAP frame. -/
theorem test_seven_items_refused : (Instr.tap 3 (tapFrame 1 (List.replicate 7 (item false)))).wf = false := by decide
theorem test_six_items_allowed : (Instr.tap 3 (tapFrame 1 (List.replicate 6 (item false)))).wf = true := by decide

/-- The opcode table gives no row bits. -/
theorem test_no_word_decodes : decodeTableWord 8 1 = none := rfl

/-! ## Tap items (R37, its examples) -/

/-- An item by kind code, JOIN and LAST, with value 1. -/
def bare (kind : Byte) (join last : Bool) : TapItem := ⟨kind, join, last, 1⟩

theorem test_items_last : decodeItems (usedItems [bare 1 false false, bare 2 false true, bare 3 false false]) =
    ([⟨.concession, 1⟩, ⟨.companions, 1⟩], false) := by decide
theorem test_items_pair : decodeItems (usedItems [bare 4 true false, bare 4 false false, bare 1 false false]) =
    ([⟨.authRef, 65537⟩, ⟨.concession, 1⟩], false) := by decide
theorem test_items_lone_join : decodeItems (usedItems [bare 1 false false, bare 4 true false]) =
    ([⟨.concession, 1⟩], true) := by decide
theorem test_items_join_last : decodeItems (usedItems [bare 4 true true, bare 4 false false]) = ([], true) := by decide

/-! ## One port's credits (section 2.5's example) -/

/-- TAP 103: step 2 in window 2; last taken 103, outstanding 3, advertised 104, CREDIT 104, one lost tap. -/
theorem test_tap_gap : ∃ u, exec (.tap 3 (tapFrame 103 [])) (withPort upPort) = .next u ∧
    (u.port 3).lastTaken = 103 ∧ (u.port 3).outstanding = 3 ∧ (u.port 3).advertised = 104 ∧
    (u.port 3).transmit = [.credit 104] ∧ u.counters.value (.port 3 .lostTaps) = 1 := by
  refine ⟨_, rfl, ?_⟩
  decide +kernel

/-- Tap 100 ends: outstanding 2, CREDIT 105. -/
theorem test_tap_ends : ((withPort { upPort with lastTaken := 103, advertised := 104, outstanding := 3 }).endTap 3 0).port 3 =
    { upPort with lastTaken := 103, advertised := 105, outstanding := 2, transmit := [.credit 105] } := by decide +kernel

/-! ## One port's tracker (section 3.5) -/

/-- At 36,006 the first beacon seeds the estimate 7; at 36,016 it settles. -/
theorem test_beacon_seeds : Tracker.fresh.apply 7 36006 = ⟨7, true, false, some 36006, some 36126, false⟩ := by decide
theorem test_beacon_steps : (⟨7, true, true, some 36016, some 36136, false⟩ : Tracker).apply 4 36026 =
    ⟨6, true, false, some 36026, some 36146, false⟩ := by decide
theorem test_beacon_reseeds : (⟨4, true, false, some 36046, none, false⟩ : Tracker).apply 64 36240 =
    ⟨64, true, false, some 36240, some 36360, false⟩ := by decide

/-! ## Attributes (section 7.3's examples: CONCESSION, COMPANIONS, CONCESSION expected) -/

theorem test_resolve_second_row :
    resolve [1, 2, 1] [⟨.companions, 2⟩, ⟨.companions, 1⟩, ⟨.concession, 20⟩, ⟨.authRef, 0⟩] .concession = .expectedAbsent ∧
    resolve [1, 2, 1] [⟨.companions, 2⟩, ⟨.companions, 1⟩, ⟨.concession, 20⟩, ⟨.authRef, 0⟩] .companions = .filled 1 := by
  decide
theorem test_resolve_third_row :
    resolve [1, 2, 1] [⟨.concession, 4⟩, ⟨.companions, 9⟩, ⟨.concession, 2⟩] .concession = .filled 4 ∧
    resolve [1, 2, 1] [⟨.concession, 4⟩, ⟨.companions, 9⟩, ⟨.concession, 2⟩] .companions = .expectedAbsent := by decide

/-! ## Fares (section 7.12) -/

/-- The tariff of the examples, with the product and the bands of case A. -/
def tariff : Bank :=
  { Bank.zero with
    line := ⟨4, 1, 6000, 2, 18900, 31200, 60, 60, 1, 1⟩
    stations := (Bank.zero.stations.set 12 ⟨1, 0, 12350, 3, 3000⟩).set 40 ⟨1, 1, 4120, 3, 3000⟩
    bands := (((Bank.zero.bands.set 0 ⟨30, 250, 0⟩).set 1 ⟨100, 250, 40⟩).set 2 ⟨250, 530, 30⟩).set 3 ⟨3000, 980, 20⟩
    timebands := Bank.zero.timebands.set 0 ⟨0, 900⟩
    products := Bank.zero.products.set 0 ⟨1, 0, 20, 1000, 1400, 0, 1, 1, 0, 0, 0⟩
    concessions := Bank.zero.concessions.set 2 ⟨500⟩ }

/-- Case A's two halves: station 12 with (CONCESSION 2), station 40. -/
def caseA : Journey := ⟨some ⟨12, 30000, 3, 0, [⟨.concession, 2⟩], false⟩, some ⟨40, 31000, 3, 0, [], false⟩, .tap⟩

/-- Case A: 10,670 m, 107 units, fare 248, charged 220 from a day total of 1,180, conditions CAPPED and INEXACT. -/
theorem test_case_a :
    let k := (tariff.reckon caseA none).withCharge true 1180
    k.distance = some 10670 ∧ k.units = some 107 ∧ k.result.fare = some 248 ∧ k.charged = 220 ∧
      k.conds = Condition.capped.only ||| Condition.inexact.only := by decide +kernel

/-- Case C: N = 2,500 under the four rounding modes. -/
theorem test_case_c : (List.range 4).map (fun m => roundFare m 2500) = [0, 1, 0, 0] := by decide
theorem test_case_c_conditions : roundConds 0 2500 = Condition.zeroRounded.only ||| Condition.inexact.only ∧
    roundConds 1 2500 = Condition.inexact.only := by decide

/-- R118, R120, R126: under STATION_UNKNOWN S0 runs and S4 does not: COMPANIONS 7 is reported and makes no fare; a COMPANIONS
expected and absent gives 0 companions and raises nothing. -/
theorem test_companions_without_units :
    let b : Bank := { tariff with products := tariff.products.set 1 ⟨1, 0, 20, 1000, 0, 0, 1, 2, 0, 0, 0⟩ }
    let k := fun attrs => b.reckon ⟨some ⟨13, 30000, 3, 1, attrs, false⟩, some ⟨40, 31000, 3, 0, [], false⟩, .tap⟩ none
    (k [⟨.companions, 7⟩]).result.companions = 7 ∧ (k [⟨.companions, 7⟩]).fareToCharge = 0 ∧
      (k []).result.companions = 0 ∧ (k []).conds = Condition.stationUnknown.only := by decide +kernel

/-! ## The journey table (section 4.3) -/

/-- Home index 1: card 1 and card 65,536 × 65,536 both fold to 1. -/
theorem test_home_index : homeIndex 1 = 1 ∧ homeIndex 4294967296 = 1 ∧ homeIndex 1234567 = 54933 := by decide

/-- A fresh record goes into slot 0 of its empty home bucket, and is found again. -/
theorem test_insert : ({ JourneyTable.reset with pool := [7040] } : JourneyTable).findOrInsert 1 412 =
    .inserted ⟨[(1, ⟨(Vector.replicate 4 none).set 0 (some (Record.fresh 1 412)), none⟩)], [], [7040], 1⟩ (Record.fresh 1 412) := by
  decide +kernel

/-! ## Grants with aging (section 6.4) -/

/-- A work entry of a level, told apart by its card. -/
def work (v : Level) (c : Card) : WorkEntry := ⟨.priceIncomplete, v, .nonTap, c, 412, ⟨none, none, .tap⟩, none, none, false⟩

/-- Grant 13: with the count at 8, e1 of L2 is granted ahead of a12 of L1; run level none, count 0. -/
theorem test_aging_grant :
    (⟨[], [work .l1 12], [work .l2 1, work .l2 2], [work .l3 1], 0, 4, 0, some .l1, 8⟩ : WorkPool).grant =
      some (work .l2 1, true, ⟨[], [work .l1 12], [work .l2 2], [work .l3 1], 0, 4, 0, none, 0⟩) := by decide +kernel

/-! ## Byte formats -/

/-- R190: CRC-16 of "123456789". -/
theorem test_crc16 : crc16 [0x31, 0x32, 0x33, 0x34, 0x35, 0x36, 0x37, 0x38, 0x39] = 0x29B1 := by decide +kernel

/-- A delimiter and an escape byte are stuffed and come back. -/
theorem test_stuffing : stuff [0x7E, 0x01, 0x7D] = [0x7D, 0x5E, 0x01, 0x7D, 0x5D] ∧
    unstuff [0x7D, 0x5E, 0x01, 0x7D, 0x5D] = some [0x7E, 0x01, 0x7D] := by decide

/-- A TAP_IN frame written out by R190's offsets: kind 1, number 103, flags live, card 1,234,567, station 12, product 0, hub
sequence 9, day 412, time 36,000, one CONCESSION item with LAST. -/
theorem test_tap_bytes : tapBytes (tapFrame 103 [item true]) =
    [1, 0, 103, 2, 0, 0, 0, 0, 0, 0x12, 0xD6, 0x87, 12, 0, 0, 0, 0, 9, 0x01, 0x9C, 0, 0, 0x8C, 0xA0, 1, 1, 2, 0, 2] := by
  decide +kernel

/-! ## Witnesses: the whole machine -/

/-- A record at every bound of R64 to R70. -/
def fullRecord : Record :=
  { Record.fresh 1 412 with
    dayTotal := 16777215, journeys := 255, pendingCount := 1027
    held := List.replicate 3 ⟨12, 129599, 3, 9, 0, false, [], 129599⟩
    recent := List.replicate 8 (3, 9) }

/-- A journey table with one record. -/
def tableWith (r : Record) : JourneyTable :=
  ⟨[(homeIndex r.card, ⟨(Vector.replicate 4 none).set 0 (some r), none⟩)], [], List.range' 0 16384, 1⟩

theorem tableWith_all (r : Record) : (tableWith r).all = [r] := rfl

/-- A table with one record meets the structure of the journey table. -/
theorem tableWith_sound (r : Record) (h : (tableWith r).lookup r.card r.day = some r) : (tableWith r).Sound where
  extensions := by simp [tableWith, JourneyTable.linked, List.range_eq_range']
  free := fun _ _ => rfl
  used := fun n hn => by simp [tableWith, JourneyTable.linked] at hn
  short := fun i => by
    have : ((tableWith r).bucket (.home i)).ext = none := by
      simp only [tableWith, JourneyTable.bucket, bucketGet]; split <;> rfl
    simp [JourneyTable.lastBucket, JourneyTable.chain, this, JourneyTable.extensions]
  found := fun x hx => by rw [tableWith_all, List.mem_singleton] at hx; rw [hx, h]
  once := by rw [tableWith_all]; simp
  counted := by rw [tableWith_all]; rfl

/-- Five cards of home index 1. -/
def sameHome (k : Nat) : Card := BitVec.ofNat 64 (k * 65536 + (1 ^^^ k))

/-- A home bucket full of the records of four of them. -/
def fullHome (ext : Option Nat) : Bucket :=
  ⟨#v[some (Record.fresh (sameHome 0) 412), some (Record.fresh (sameHome 1) 412), some (Record.fresh (sameHome 2) 412),
    some (Record.fresh (sameHome 3) 412)], ext⟩

/-- The table with that bucket alone, and with the fifth card's record in an extension bucket behind it. -/
def fullTable : JourneyTable := ⟨[(1, fullHome none)], [], List.range' 0 16384, 4⟩
def linkedTable : JourneyTable :=
  ⟨[(1, fullHome (some 0))], [(0, ⟨(Vector.replicate 4 none).set 0 (some (Record.fresh (sameHome 4) 412)), none⟩)],
    List.range' 1 16383, 5⟩

theorem fullTable_sound : fullTable.Sound where
  extensions := by simp [fullTable, fullHome, JourneyTable.linked, List.range_eq_range']
  free := fun _ _ => rfl
  used := fun n hn => by simp [fullTable, fullHome, JourneyTable.linked] at hn
  short := fun i => by
    have : (fullTable.bucket (.home i)).ext = none := by
      simp only [fullTable, JourneyTable.bucket, bucketGet]; split <;> rfl
    simp [JourneyTable.lastBucket, JourneyTable.chain, this, JourneyTable.extensions]
  found := by decide +kernel
  once := by decide +kernel
  counted := by decide +kernel

theorem linkedTable_sound : linkedTable.Sound where
  extensions := by
    have h : linkedTable.linked = [0] := by decide +kernel
    rw [h, List.range_eq_range']
    exact List.perm_append_comm.trans (List.Perm.of_eq rfl)
  free := fun n hn => by
    have h : 0 ≠ n := by simp only [linkedTable, List.mem_range'_1] at hn; omega
    simp [linkedTable, JourneyTable.bucket, bucketGet, h]
  used := by
    have h : linkedTable.linked = [0] := by decide +kernel
    rw [h]; decide +kernel
  short := fun i => by
    by_cases h : i = 1
    · subst h; decide +kernel
    · have : (linkedTable.bucket (.home i)).ext = none := by
        simp [linkedTable, JourneyTable.bucket, bucketGet, Ne.symm h, Bucket.empty]
      simp [JourneyTable.lastBucket, JourneyTable.chain, this, JourneyTable.extensions]
  found := by decide +kernel
  once := by decide +kernel
  counted := by decide +kernel

theorem witness_StepRunsFrontCommand :
    ({ State.reset with pending := [.grant] } : State).pending = .grant :: [] ∧ State.reset.pending = [] := ⟨rfl, rfl⟩

theorem witness_LineTimeStaysInRange :
    ∃ s u : State, s.TimeInRange ∧ s.clock.time = 129599 ∧ s.pending = [.lineTimeAdvance] ∧ step s = .next u :=
  ⟨{ State.reset with clock := { State.reset.clock with time := 129599 }, pending := [.lineTimeAdvance] }, _,
    by unfold State.TimeInRange; decide, rfl, rfl, rfl⟩

theorem witness_QueueBoundsKept : ∃ s u : State, s.QueuesInBounds ∧ s.lli.receive.length = 16 ∧ s.lli.urgentUsed = 32 ∧
    s.lli.bulk.length = 512 ∧ step s = .next u :=
  ⟨{ State.reset with
      pending := [.owedDayOverrun]
      lli := { State.reset.lli with
        receive := List.replicate 16 (command .disarm []), urgent := List.replicate 31 (.dayOverrun 0 0)
        bulk := List.replicate 512 (.dayOverrun 0 0), copyReserve := some 1 } }, _,
    by unfold State.QueuesInBounds; decide +kernel, by decide +kernel, by decide +kernel, by decide +kernel, rfl⟩

/-- A work entry that waits with a tap of port 3. -/
def heldWork : WorkEntry := { work .l1 1 with cls := .tap, waiting := some ⟨3, 0, 102, true⟩ }

/-- One tap-caused entry and one other in the pool, of two taps outstanding. -/
def slotState : State :=
  { withPort upPort with
    pool := { WorkPool.reset with l1 := [heldWork], l2 := [work .l2 1], tapInUse := 1, nonTapInUse := 1 }
    pending := [.grant] }

theorem slotState_law : slotState.SlotLaw where
  within := by decide
  taps := by decide +kernel
  nonTaps := by decide +kernel
  waiting := by decide +kernel
  heldWork := fun e a h => by simp [slotState, withPort, State.setPort, State.reset] at h
  inside := by decide +kernel

theorem creditLaw_withPort (s : State) (h : s.ports = (withPort upPort).ports) : s.CreditLaw := fun p => by
  have e : s.port p = (withPort upPort).port p := by simp only [State.port, h]
  rw [e]
  clear e h
  unfold Port.CreditLaw
  revert p; decide +kernel

theorem witness_CountersStayInRange :
    (∃ s u : State, s.CountersInRange ∧ s.counters.value (.port 3 .badFrames) = 4294967295 ∧ step s = .next u) ∧
    ∃ u : State, slotState.CreditLaw ∧ slotState.SlotLaw ∧ step slotState = .next u :=
  ⟨⟨{ withPort upPort with counters := Vector.replicate 117 4294967295, pending := [.badFrame 3] }, _,
    fun i => by simp, by decide +kernel, rfl⟩, _, creditLaw_withPort _ rfl, slotState_law, rfl⟩

theorem witness_TableFormKept : ∃ s u : State, s.TableCanonical ∧ s.jt.Sound ∧ s.jt.linked = [0] ∧ step s = .next u :=
  ⟨{ State.reset with jt := linkedTable, pending := [.tapStep] }, _, by unfold State.TableCanonical; decide +kernel,
    linkedTable_sound, by decide +kernel, rfl⟩

theorem witness_CreditLawKept : ∃ s u : State, s.CreditLaw ∧ (s.port 3).outstanding + (s.port 3).window = 4 ∧
    step s = .next u :=
  ⟨{ withPort upPort with pending := [.tap 3 (tapFrame 103 [])] }, _, creditLaw_withPort _ rfl, by decide +kernel, rfl⟩

theorem witness_RecordsStayInRange : ∃ s u : State, s.RecordsInRange ∧ s.jt.lookup 1 412 = some fullRecord ∧
    step s = .next u := by
  refine ⟨{ State.reset with jt := tableWith fullRecord, pending := [.tapStep] }, _, ⟨?_, ?_⟩, by decide +kernel, rfl⟩
  · intro e he i r hr
    simp only [tableWith, List.mem_singleton] at he
    subst he
    have h : r = fullRecord := by
      fin_cases i
      · simpa using hr.symm
      all_goals simp at hr
    subst h
    unfold Record.InRange
    decide +kernel
  · intro e he; simp [tableWith] at he

/-- A roll of day 411 with one CLOSING record, and one of the new day with a journey open. -/
def lawTable : JourneyTable :=
  ⟨[(1, ⟨((Vector.replicate 4 none).set 0 (some { Record.fresh 1 411 with status := .closing })).set 1
    (some { Record.fresh 1 412 with openJourney := some ⟨12, 1, 3, 101, 0, false, []⟩ }), none⟩)], [], List.range' 0 16384, 2⟩

def lawState : State :=
  { rollingState with
    jt := lawTable
    roll := { rollingState.roll with closingCount := 1 }
    expiry := [⟨3601, false, false, 1, 412, .journeyLimit⟩]
    pending := [.tapStep] }

theorem lawTable_sound : lawTable.Sound where
  extensions := by
    have h : lawTable.linked = [] := by decide +kernel
    rw [h, List.range_eq_range', List.append_nil]
    exact List.Perm.of_eq rfl
  free := fun _ _ => rfl
  used := by
    have h : lawTable.linked = [] := by decide +kernel
    rw [h]; decide
  short := fun i => by
    have : (lawTable.bucket (.home i)).ext = none := by
      simp only [lawTable, JourneyTable.bucket, bucketGet]; split <;> rfl
    simp [JourneyTable.lastBucket, JourneyTable.chain, this, JourneyTable.extensions]
  found := by decide +kernel
  once := by decide +kernel
  counted := by decide +kernel

theorem witness_RecordsStayInRange_laws : ∃ u : State, lawState.TableCanonical ∧ lawState.jt.Sound ∧ lawState.ClosingLaw ∧
    lawState.ExpiryLaw ∧ step lawState = .next u :=
  ⟨_, by unfold State.TableCanonical; decide +kernel, lawTable_sound,
    ⟨by decide +kernel, by decide +kernel, by decide +kernel, fun _ => ⟨411, rfl, by decide⟩, fun h => absurd rfl h⟩,
    by unfold State.ExpiryLaw; decide +kernel, rfl⟩

/-- The Table Store as reset with a copy position and an armed generation. -/
def storeWith (pos : Option Nat) (armed : Option Nat) (b : Bank) : TableStore :=
  { State.reset.tables with copyPos := pos, armedGen := armed, prep := b }

/-- Armed with no copy in flight; a copy in flight and unarmed; neither. -/
theorem witness_BanksChangeOnlyByRole :
    let store := fun (pos armed : Option Nat) => ({ State.reset with tables := storeWith pos armed tariff } : State)
    Instr.copyComplete ≠ .powerOnReset ∧ Instr.copyComplete ≠ .copyRow ∧
    (∃ u, exec .copyComplete (store none (some 0)) = .next u ∧ (store none (some 0)).tables.armed = true ∧
      (store none (some 0)).tables.copying = false) ∧
    ∃ u, exec .copyComplete (store (some 361) none) = .next u ∧ (store (some 361) none).tables.copying = true ∧
      (store (some 361) none).tables.armed = false :=
  ⟨by decide, by decide, ⟨_, rfl, rfl, rfl⟩, _, rfl, rfl, rfl⟩

/-- A record found and written; a free slot behind a used one; a full chain, with the pool and without, and at its limit. -/
theorem witness_RecordReadsBack :
    let full := fun (jt : JourneyTable) => ∀ r ∈ jt.slots 1, (jt.slot r).isSome = true
    let long : JourneyTable := ⟨[(1, fullHome (some 0))], [(0, fullHome (some 1)), (1, fullHome (some 2)), (2, fullHome none)], [], 16⟩
    (tableWith fullRecord).wf = true ∧ (tableWith fullRecord).lookup 1 412 = some fullRecord ∧
    ((1 : Card), (413 : Day)) ≠ (1, 412) ∧
    (tableWith fullRecord).Sound ∧ (tableWith fullRecord).lookup 1 413 = none ∧ homeIndex 1 = 1 ∧
    (tableWith fullRecord).slots 1 = [(.home 1, 0)] ++ (.home 1, 1) :: [(.home 1, 2), (.home 1, 3)] ∧
    ((tableWith fullRecord).slot (.home 1, 0)).isSome = true ∧ (tableWith fullRecord).slot (.home 1, 1) = none ∧
    homeIndex (sameHome 4) = 1 ∧ fullTable.Sound ∧ fullTable.wf = true ∧ fullTable.lookup (sameHome 4) 412 = none ∧
    full fullTable ∧ (fullTable.chain 1).length < 4 ∧ fullTable.pool = 0 :: List.range' 1 16383 ∧
    full { fullTable with pool := [] } ∧ ({ fullTable with pool := [] } : JourneyTable).lookup (sameHome 4) 412 = none ∧
    full long ∧ long.lookup (sameHome 4) 412 = none ∧ (long.chain 1).length = 4 := by
  refine ⟨by decide +kernel, by decide +kernel, by decide, tableWith_sound _ (by decide +kernel), by decide +kernel,
    by decide +kernel, by decide +kernel, by decide +kernel, by decide +kernel, by decide +kernel, fullTable_sound,
    by decide +kernel, by decide +kernel, by decide +kernel, by decide +kernel, rfl, by decide +kernel, by decide +kernel,
    by decide +kernel, by decide +kernel, by decide +kernel⟩

/-- Removals: of a record in a home bucket, and of the one record of an extension bucket. -/
theorem witness_RecordReadsBack_removed :
    linkedTable.Sound ∧ linkedTable.wf = true ∧ linkedTable.findSlot (sameHome 0) 412 = some (.home 1, 0) ∧
    linkedTable.findSlot (sameHome 4) 412 = some (.ext 0, 0) ∧ (linkedTable.bucket (.ext 0)).used = 1 ∧
    linkedTable.lookup 2 412 = none ∧ (fullHome none).used = 4 :=
  ⟨linkedTable_sound, by decide +kernel, by decide +kernel, by decide +kernel, by decide +kernel, by decide +kernel,
    by decide +kernel⟩

/-- R60 and R62: the pool's head bucket is linked behind a full home bucket, and is back at the pool's tail once its record is
removed. -/
theorem test_link_and_unlink :
    let linked : JourneyTable := ⟨[(1, fullHome (some 7040))],
      [(7040, ⟨(Vector.replicate 4 none).set 0 (some (Record.fresh (sameHome 4) 412)), none⟩)], [9], 5⟩
    ({ fullTable with pool := [7040, 9] } : JourneyTable).findOrInsert (sameHome 4) 412 =
      .inserted linked (Record.fresh (sameHome 4) 412) ∧
    linked.remove (sameHome 4) 412 = { fullTable with pool := [9, 7040] } := by decide +kernel

/-! ## Witnesses: byte formats and reckoning -/

theorem witness_GateFramesReadBack :
    (Instr.tap 3 (tapFrame 1 (List.replicate 6 (item true)))).wf = true ∧
    (gateFrameOf (.tap 3 (tapFrame 1 (List.replicate 6 (item true))))).isSome = true ∧
    (gateFrameOf (.beacon 0 129599 65535)).isSome = true ∧ (gateFrameOf (.hubState 7 true 255)).isSome = true ∧
    (gateFrameOf (.attachAck 7 true 7 65535)).isSome = true := by decide

/-- The frame of the test above, stuffed with its check sequence, reads back. -/
theorem test_tap_reads_back : receiveGate 3 (stuff (withCrc16 (tapBytes (tapFrame 103 [item true])))) =
    some (.tap 3 (tapFrame 103 [item true])) := by decide +kernel

theorem witness_LineFramesReadBack : DownKind.command.lengthOk 1 = true ∧ DownKind.load.lengthOk 6 = true ∧
    DownKind.referralAnswer.lengthOk 7 = true ∧ DownKind.view.lengthOk 65535 = true := by decide

/-- A DISARM on the line link reads back with its source address. -/
theorem test_command_reads_back : classifyLine ((command .disarm []).wire 5 6) = .good 6 (command .disarm []) := by
  decide +kernel

/-- A branch of each number at the bounds of a chainage; a station's number at 63 and 64, enabled and not; a journey for each case
of S1: both stations, one of them, a hint that is usable, unusable, absent or not expected, and a re-price. -/
theorem witness_DistanceAndUnits : (∃ x y z : StationRow, x.branch = 0 ∧ y.branch = 1 ∧ z.branch = 2 ∧ z.branch ≤ 2 ∧
    x.branch = x.branch ∧ x.chainage ≤ 99999 ∧ z.chainage ≤ 99999 ∧ (99999 ≤ 99999 ∧ 250 ≤ 100 * 3)) ∧
    (∃ x y, tariff.station 12 = some x ∧ tariff.station 40 = some y) ∧ tariff.station 63 = none ∧ tariff.station 64 = none ∧
    tariff.stations[63]?.isSome = true ∧ caseA.origin.isSome = true ∧ caseA.dest.isSome = true ∧
    (let hinted : Bank := { tariff with products := tariff.products.set 1 ⟨1, 0, 20, 1000, 0, 0, 1, 3, 0, 0, 0⟩ };
      let hint := fun (product : Byte) (attrs : List Attr) => resolve (hinted.product product).expected attrs .originHint;
      hint 1 [⟨.originHint, 12⟩] = .filled 12 ∧ hint 1 [⟨.originHint, 13⟩] = .filled 13 ∧ hinted.station 13 = none ∧
        hint 1 [] = .expectedAbsent ∧ hint 0 [] = .notExpected) :=
  ⟨⟨⟨1, 0, 0, 0, 0⟩, ⟨1, 1, 5, 0, 0⟩, ⟨1, 2, 99999, 0, 0⟩, by decide⟩,
    ⟨⟨1, 0, 12350, 3, 3000⟩, ⟨1, 1, 4120, 3, 3000⟩, by decide +kernel⟩, by decide +kernel⟩

theorem witness_RoundingRule : (45451200000000 : Nat) = 4545120 * 10000000 + 0 ∧ (0 < 10000000) ∧ (3 ≤ 3) ∧
    (25000000 : Nat) = 2 * 10000000 + 5000000 := by decide

/-- Case A's reckoning; one with cap 0; one held aside for a REFERRED product. -/
theorem witness_DailyCapLaw :
    (tariff.reckon caseA none).aside = false ∧ (tariff.reckon caseA none).conds.has .capped = false ∧
    0 < (tariff.reckon caseA none).productRow.cap ∧ 1400 ≤ (tariff.reckon caseA none).productRow.cap ∧
    (∃ k : Reckoning, k.aside = false ∧ k.conds.has .capped = false ∧ k.productRow.cap = 0) ∧
    let referred : Bank := { tariff with products := tariff.products.set 0 ⟨3, 0, 20, 1000, 1400, 0, 1, 1, 0, 0, 0⟩ }
    (referred.reckon caseA none).aside = true ∧ (referred.reckon caseA none).asideConds.has .capped = false :=
  ⟨by decide +kernel, by decide +kernel, by decide +kernel, by decide +kernel,
    ⟨{ tariff.reckon caseA none with conds := 0, aside := false, productRow := ⟨1, 0, 0, 0, 0, 0, 0, 0, 0, 0, 0⟩ },
      rfl, rfl, rfl⟩, by decide +kernel⟩

/-- A pricing and a SETTLE and a RE-PRICE of an answered referral; units and none; a product charged, and one held aside. -/
theorem witness_ChargeWithinCeiling :
    let answered := fun a : RefAnswer => (State.reset.rt.setEntry 5 { RefEntry.cleared 2 with answer := some a }).entry 5
    slotOfTicket (ticketOf 2 5) = 5 ∧ (answered (.charge 6001 true)).answer = some (.charge 6001 true) ∧
    (answered .void).answer = some .void ∧ (answered (.reprice 12)).answer = some (.reprice 12) ∧
    WorkKind.priceJourney ≠ .settle ∧ WorkKind.priceJourney ≠ .reprice ∧
    (tariff.route 20 caseA none).units = some 107 ∧ (Bank.zero.route 0 caseA none).units = none ∧
    (tariff.product 0).kind = 1 ∧ (Bank.zero.product 0).kind = 0 := by decide +kernel

/-- Units at a row's U and above the last; a time at a row's start; values at and above an attribute's range; a half at the origin
or the destination; each kind of disposition. -/
theorem witness_FareStageRules : 1 ≤ tariff.line.bandCount ∧ tariff.line.bandCount ≤ 16 ∧ 1 ≤ tariff.line.timeBandCount ∧
    tariff.line.timeBandCount ≤ 8 ∧ tariff.bandStart 0 = 0 ∧ tariff.bandRowFor 100 = 1 ∧ tariff.bandRowFor 3001 = 3 ∧
    (∃ r, tariff.bands[3]? = some r) ∧ (∃ r, tariff.concessions[15]? = some r) ∧
    AttrKind.companions.code ∉ [1] ∧ resolve [1, 2] [⟨.concession, 15⟩, ⟨.companions, 8⟩] .concession = .filled 15 ∧
    resolve [1, 2] [⟨.concession, 16⟩, ⟨.companions, 7⟩] .companions = .filled 7 ∧
    resolve [1, 2] [⟨.concession, 16⟩, ⟨.companions, 8⟩] .concession = .expectedAbsent ∧
    (∃ h, caseA.origin = some h) ∧ (∃ h, (⟨none, caseA.dest, .none⟩ : Journey).dest = some h) ∧
    (∀ c : Condition, ¬CondSet.has 0 c = true) ∧ Condition.stationUnknown.only.has .stationUnknown = true ∧
    (∀ x : Condition, x.bitNo < Condition.stationUnknown.bitNo → ¬Condition.stationUnknown.only.has x = true) :=
  ⟨by decide, by decide, by decide, by decide, by decide +kernel, by decide +kernel, by decide +kernel, ⟨_, rfl⟩, ⟨_, rfl⟩,
    by decide, by decide, by decide, by decide, ⟨_, rfl⟩, ⟨_, rfl⟩, fun c => by cases c <;> decide, by decide,
    fun x => by cases x <;> decide⟩

/-! ## Witnesses: gate ports -/

/-- Port 3 in a state. -/
def portIn (st : PortState) : Port := { upPort with st := st, outstanding := 0 }

theorem witness_AttentionRaised :
    let masked := withPort { upPort with mask := 255 }
    let urgent := withPort { upPort with cls := .urgent }
    let full : State := { withPort upPort with lli := { State.reset.lli with bulk := List.replicate 512 (.dayOverrun 0 0) } }
    ((withPort { upPort with attention := 32 }).port 3).attention.has .tapGap = true ∧
    (masked.port 3).attention.has .tapGap = false ∧ (masked.port 3).mask.has .tapGap = true ∧
    (full.port 3).mask.has .tapGap = false ∧ full.lli.hasPlaceFor (full.port 3).cls = false ∧
    (urgent.port 3).cls = .urgent ∧ urgent.lli.hasPlaceFor (urgent.port 3).cls = true ∧
    ((withPort upPort).port 3).cls = .routine ∧ (withPort upPort).lli.hasPlaceFor .routine = true := by decide +kernel

theorem witness_GateCarrierLoss : ((withPort upPort).port 3).carrier = true := rfl
theorem witness_GateCarrierReturn : (State.reset.port 3).carrier = false := rfl

theorem witness_UnexpectedFrames :
    ∀ st ∈ [PortState.present, .attaching, .attached, .detaching, .faulted],
      ((withPort (portIn st)).port 3).carrier = true ∧ ((withPort (portIn st)).port 3).st = st := by decide

/-- Steps 0 and 3 are outside port 3's window of 2; steps 1 and 2 are its bounds. Items with and without LAST; each malformed one. -/
theorem witness_TapTakenOrCounted :
    (let q := (withPort upPort).port 3;
      q.carrier = true ∧ q.st = .attached ∧ (q.advertised - q.lastTaken).toNat = 2 ∧ (101 - q.lastTaken : TapNo).toNat = 0 ∧
        (104 - q.lastTaken : TapNo).toNat = 3 ∧ (102 - q.lastTaken : TapNo).toNat = 1 ∧
        (103 - q.lastTaken : TapNo).toNat = 2) ∧
    (∀ x ∈ [bare 1 false false, bare 4 true false], x.last = false) ∧ (bare 2 false true).last = true ∧
    AttrKind.originHint ≠ .authRef ∧ (bare 3 false false).kind.toNat = AttrKind.originHint.code ∧
    (bare 3 false false).join = false ∧ (bare 4 true false).kind = 4 ∧ (bare 4 true false).join = true ∧
    (bare 0 false false).kind = 0 ∧ 4 < (bare 5 false false).kind.toNat ∧ (bare 3 true false).kind ≠ 4 ∧
    (bare 4 false false).join = false ∧ (bare 3 false false).kind ≠ (bare 4 true false).kind := by decide

/-- A beacon of another day, one at 129,600, one at 129,599; line time below and at its bound. -/
theorem witness_BeaconApplied :
    let last : State := { withPort upPort with clock := ⟨129599, 0, true, false⟩ }
    ((withPort upPort).port 3).carrier = true ∧ ((withPort upPort).port 3).st = .attached ∧ (withPort upPort).clock.day ≠ 1 ∧
      129599 < (129600 : BitVec 32).toNat ∧ (129599 : BitVec 32).toNat ≤ 129599 ∧ (withPort upPort).clock.time < 129599 ∧
      (last.port 3).carrier = true ∧ (last.port 3).st = .attached ∧ last.clock.time = 129599 := by decide

theorem witness_HubStatesAndSentFrames :
    let q := withPort { portIn .detaching with transmit := [.credit 1] }
    (q.port 3).carrier = true ∧ (q.port 3).st = .detaching ∧ (q.port 3).transmit = .credit 1 :: [] ∧
      ((withPort { Port.reset with transmit := [.credit 1] }).port 3).carrier = false := by decide

theorem witness_AttachAckEndsAttach : ((withPort (portIn .attaching)).port 3).carrier = true ∧
    ((withPort (portIn .attaching)).port 3).st = .attaching ∧ (3 : Byte).toNat = (3 : PortId).val ∧
    (4 : Byte).toNat ≠ (3 : PortId).val := by decide

theorem witness_BadFrameCounted :
    let run := fun (st : PortState) (n : Nat) => (withPort { portIn st with badRun := n }).port 3
    (run .present 0).carrier = true ∧ (run .faulted 0).st = .faulted ∧ (run .attaching 14).badRun + 1 < 16 ∧
      (run .attaching 15).badRun = 15 ∧ (run .attached 15).st = .attached ∧ (run .detaching 15).badRun = 15 := by decide

/-- A deadline at line time, one past that had become due, one a second ahead. -/
theorem witness_PortDeadlinesFire :
    let q := fun (d : Nat) (fallen : Bool) => (withPort { portIn .attaching with
      attachDeadline := some d, attachFallenDue := fallen
      tracker := { Tracker.fresh with deadline := some d, fallenDue := fallen } }).port 3
    (q 0 false).st = .attaching ∧ (q 0 false).attachDeadline = some 0 ∧ 0 ≤ (withPort upPort).clock.time ∧
      (q 1 true).attachFallenDue = true ∧ (q 1 true).tracker.fallenDue = true ∧ (withPort upPort).clock.time < 1 ∧
      (q 1 false).attachFallenDue = false ∧ (q 1 false).tracker.deadline = some 1 ∧
      (q 1 false).tracker.fallenDue = false := by decide

theorem witness_TapEnding :
    let q := fun (x : Port) => (withPort x).port 3
    (q upPort).attachment = 0 ∧ (q upPort).st = .attached ∧ (q upPort).carrier = true ∧
      (q { upPort with carrier := false }).carrier = false ∧ 1 < (q { upPort with st := .detaching }).outstanding ∧
      (q { upPort with st := .detaching, outstanding := 1 }).outstanding = 1 ∧ (q (portIn .present)).st ≠ .attached ∧
      (q upPort).attachment ≠ 1 := by decide

theorem witness_GateAnswerDelivered :
    let q := (withPort upPort).port 3
    (q.st = .attached ∧ q.carrier = true ∧ q.attachment = 0) ∧
      ¬(q.st = .attached ∧ q.carrier = true ∧ q.attachment = 1) := by decide

/-! ## Witnesses: time and the line link -/

/-- The urgent queue with no place. -/
def fullUrgent : LineLink := { State.reset.lli with urgent := List.replicate 32 (.dayOverrun 0 0) }

/-- The reset state at a line time, with its overrun flag. -/
def atTime (t : Nat) (overrun : Bool) : State := { State.reset with clock := ⟨t, 0, overrun, false⟩ }

theorem witness_LineTimeAdvances :
    (atTime 129598 false).clock.time < 129599 ∧ ((atTime 129598 false).clock.time + 1 = 129599 ∧
      (atTime 129598 false).clock.overrun = false) ∧ (atTime 129598 false).lli.urgentHasPlace = true ∧
    fullUrgent.urgentHasPlace = false ∧ (atTime 129598 true).clock.overrun = true ∧
    (atTime 129599 true).clock.time = 129599 := by decide +kernel

/-- An expiry entry due at a time. -/
def entryDue (t : Nat) (fallen : Bool) : ExpiryEntry := ⟨t, false, fallen, 1, 412, .journeyLimit⟩

theorem witness_DeadlinesMarked :
    let s : State := { State.reset with expiry := [{ entryDue 0 true with due := true }, entryDue 0 false, entryDue 1 true] }
    let ahead : State := { State.reset with expiry := [entryDue 1 false] }
    let x := fun (t : Nat) (fallen : Bool) =>
      ({ RefEntry.cleared 0 with state := .awaiting, dueTime := t, fallenDue := fallen } : RefEntry)
    let r := fun (t : Nat) (fallen : Bool) =>
      ({ State.reset with rt := State.reset.rt.setEntry 255 (x t fallen) } : State)
    s.expiry = [{ entryDue 0 true with due := true }] ++ entryDue 0 false :: [entryDue 1 true] ∧
    (∀ x ∈ [{ entryDue 0 true with due := true }], x.due = true ∨ (x.fallenDue = false ∧ s.clock.time < x.dueTime)) ∧
    (entryDue 0 false).dueTime ≤ s.clock.time ∧ (entryDue 1 true).fallenDue = true ∧
    (∀ x ∈ ahead.expiry, x.due = true ∨ (x.fallenDue = false ∧ ahead.clock.time < x.dueTime)) ∧
    ((r 0 false).rt.entry 255).state = .awaiting ∧ ((r 0 false).rt.entry 255).dueTime ≤ (r 0 false).clock.time ∧
    ((r 1 true).rt.entry 255).fallenDue = true ∧ (r 1 false).clock.time < ((r 1 false).rt.entry 255).dueTime := by
  decide +kernel

theorem got_takes (f : DownFrame) (s : State) (h : s.lli = State.reset.lli) : (got f s).Takes f [] :=
  ⟨rfl, by simp only [got, h]; rfl, by simp only [got, h]; rfl⟩

theorem command_is (c : CommandCode) (args : List Byte) (h : args.length = c.argLength) :
    (command c args).IsCommand c args := ⟨rfl, rfl, h⟩

theorem witness_SetTimeTaken :
    (∀ args ∈ [[0, 1, 0xFA, 0x40], [0, 1, 0xFA, 0x3E], [0, 1, 0xFA, 0x3F]], (got (command .setTime args) State.reset).Takes
      (command .setTime args) [] ∧ (command .setTime args).IsCommand .setTime args) ∧
    beNat [0, 1, 0xFA, 0x40] = 129600 ∧ beNat [0, 1, 0xFA, 0x3E] = 129598 ∧ beNat [0, 1, 0xFA, 0x3F] = 129599 ∧
    (atTime 129599 true).clock.overrun = true ∧ State.reset.clock.overrun = false ∧ State.reset.lli.urgentUsed + 1 < 32 ∧
    ({ State.reset.lli with urgent := List.replicate 31 (.dayOverrun 0 0) } : LineLink).urgentUsed + 1 = 32 :=
  ⟨fun args h => ⟨got_takes _ _ rfl, command_is _ _ (by revert args; decide)⟩, by decide +kernel, by decide +kernel,
    by decide +kernel, rfl, rfl, by decide, by decide +kernel⟩

/-- A frame of the engine's type with kind code 9 and a good check sequence. -/
def oddKind : List Byte :=
  let b : List Byte := List.replicate 12 0 ++ [0x9A, 0x44, 9, 0, 0, 0, 1, 0]
  b ++ fcsBytes b

theorem witness_LineLinkEvents :
    let on : State := { State.reset with lli := { State.reset.lli with carrier := true } }
    let good := (command .disarm []).wire 5 6
    on.lli.carrier = true ∧ 14 ≤ (List.replicate 14 (0 : Byte)).length ∧
    beNat (((List.replicate 14 (0 : Byte)).drop 12).take 2) ≠ 0x9A44 ∧
    23 ≤ (good.set 0 1).length ∧ beNat (((good.set 0 1).drop 12).take 2) = 0x9A44 ∧
    (good.set 0 1).drop ((good.set 0 1).length - 4) ≠ fcsBytes ((good.set 0 1).take ((good.set 0 1).length - 4)) ∧
    classifyLine oddKind = .unexpected ∧ classifyLine good = .good 6 (command .disarm []) ∧
    on.lli.receive.length < 16 ∧ 16 ≤ (List.replicate 16 (command .disarm [])).length ∧
    State.reset.lli.carrier = false ∧ State.reset.lli.transmitting = none ∧
    ({ on.lli with transmitting := some .bulk, bulk := [.dayOverrun 0 0] } : LineLink).bulk = .dayOverrun 0 0 :: [] ∧
    ({ on.lli with transmitting := some .urgent, urgent := [.dayOverrun 0 0] } : LineLink).urgent = .dayOverrun 0 0 :: [] ∧
    ({ on.lli with transmitting := some .urgent, urgentTo := some 6 } : LineLink).wire.isSome = true ∧
    ({ on.lli with transmitting := some .bulk, bulkTo := some 6, urgent := [], bulk := [.dayOverrun 0 0] } :
      LineLink).wire.isSome = true := by
  decide +kernel

/-- A frame first sent while the server address was none goes again to the broadcast address, though a server is known since
(R178, R192). -/
theorem test_sent_again_unchanged : ∃ u, exec .lineCarrierReturn { State.reset with
      lli := { State.reset.lli with server := some 6, urgentTo := some 0xFFFFFFFFFFFF } } = .next u ∧
    u.lli.transmitting = some .urgent ∧ u.lli.urgentTo = some 0xFFFFFFFFFFFF := by
  refine ⟨_, rfl, ?_⟩
  decide +kernel

/-- A VIEW frame. -/
def viewFrame (body : List Byte) : DownFrame := ⟨.view, 7, body⟩

theorem witness_ViewAnswered : (∀ body : List Byte, (got (viewFrame body) State.reset).Takes (viewFrame body) []) ∧
    viewAskOf [3, 7] = .select (.port 7) ∧ viewAskOf [3, 8] = .refused ∧ 8 ≤ (8 : Byte).toNat ∧ 7 ≤ (7 : Byte).toNat ∧
    State.reset.jt.lookup 1 412 = none := ⟨fun _ => got_takes _ _ rfl, by decide +kernel, by decide +kernel, by decide,
      by decide, by decide +kernel⟩

theorem witness_LineLinkCommands :
    (∀ args ∈ [[1, 0xFF], [2, 0]], (got (command .setDisposition args) State.reset).Takes (command .setDisposition args) [] ∧
      (command .setDisposition args).IsCommand .setDisposition args) ∧
    beNat [1, 0xFF] < 512 ∧ 512 ≤ beNat [2, 0] ∧
    (∀ args ∈ [[0], [1], [2]], (command .captureCounters args).IsCommand .captureCounters args) ∧
    (got ⟨.command, 7, [13]⟩ State.reset).Takes ⟨.command, 7, [13]⟩ [] ∧ 12 < (13 : Byte).toNat ∧
    ([] : List Byte).length ≠ CommandCode.portDetach.argLength :=
  ⟨fun args h => ⟨got_takes _ _ rfl, command_is _ _ (by revert args; decide)⟩, by decide +kernel, by decide +kernel,
    fun args h => command_is _ _ (by revert args; decide), got_takes _ _ rfl, by decide, by decide⟩

theorem witness_OwedNoticesPlaced :
    let s : State := { withPort { upPort with attention := 32 } with
      clock := ⟨129599, 0, true, true⟩
      roll := { State.reset.roll with owedDone := some ⟨1, none, false, 0⟩ }
      lli := { State.reset.lli with owed := [⟨3, .fault, .nothing⟩, ⟨3, .tapGap, .lost 1⟩], owedOffers := 1 } }
    s.clock.owedOverrun = true ∧ s.lli.urgentHasPlace = true ∧ s.roll.owedDone = some ⟨1, none, false, 0⟩ ∧
      s.lli.owed = [⟨3, .fault, .nothing⟩] ++ ⟨3, .tapGap, .lost 1⟩ :: [] ∧ 0 < s.lli.owedOffers ∧
      (∀ x ∈ [(⟨3, .fault, .nothing⟩ : OwedNotice)], s.owedReady x = false) ∧ (s.port 3).attention.has .tapGap = true ∧
      (s.port 3).mask.has .tapGap = false ∧ s.lli.hasPlaceFor (s.port 3).cls = true := by decide +kernel

/-! ## Witnesses: tables -/

/-- A LOAD frame. -/
def loadFrame (body : List Byte) : DownFrame := ⟨.load, 7, body⟩

/-- One CONCESSIONS body into row 15, with a mask. -/
def loadLast (mask : Byte) : List Byte := [5, 1, 0, 15, 0, mask, 1, 0xF4]

theorem witness_LoadDecided :
    (∀ body : List Byte, (got (loadFrame body) State.reset).Takes (loadFrame body) [] ∧ (loadFrame body).kind = .load) ∧
    6 ≤ (loadArgsOf [6, 1, 0, 0, 0, 1]).tableCode ∧ (loadArgsOf (loadLast 1)).tableCode = TableId.concessions.code ∧
    (loadArgsOf [5, 0, 0, 0, 0, 1]).bodyCount < 1 ∧ 4 < (loadArgsOf [5, 5, 0, 0, 0, 1]).bodyCount ∧
    (loadArgsOf [5, 1, 0, 0, 0, 1, 7]).bodies.length ≠ 1 * TableId.concessions.rowSize ∧
    (TableId.concessions.fields ≤ 1 ∧ (loadArgsOf (loadLast 2)).mask.testBit 1 = true) ∧
    TableId.concessions.rows ≤ (loadArgsOf [5, 1, 0, 16, 0, 1, 1, 0xF4]).baseRow ∧
    ¬((loadArgsOf (loadLast 1)).bodyCount < 1 ∨ 4 < (loadArgsOf (loadLast 1)).bodyCount ∨
      (loadArgsOf (loadLast 1)).bodies.length ≠ (loadArgsOf (loadLast 1)).bodyCount * TableId.concessions.rowSize ∨
      (∃ n, TableId.concessions.fields ≤ n ∧ (loadArgsOf (loadLast 1)).mask.testBit n = true) ∨
      TableId.concessions.rows ≤ (loadArgsOf (loadLast 1)).baseRow) ∧
    (loadArgsOf (loadLast 1)).mask ≠ 0 ∧ (loadArgsOf (loadLast 0)).mask = 0 ∧
    State.reset.tables.armed = false ∧ State.reset.tables.copying = false ∧
    (∃ old, Bank.zero.row .concessions 15 = some old) ∧ 0 < TableId.concessions.fields ∧ (TableId.concessions, 14) ≠ (TableId.concessions, 15) := by
  refine ⟨fun body => ⟨got_takes _ _ rfl, rfl⟩, by decide +kernel, by decide +kernel, by decide +kernel, by decide +kernel,
    by decide +kernel, by decide +kernel, by decide +kernel, ?_, by decide +kernel, by decide +kernel, rfl, rfl, ⟨_, rfl⟩,
    by decide, by decide⟩
  rintro (h | h | h | ⟨n, h1, h2⟩ | h)
  · exact absurd h (by decide +kernel)
  · exact absurd h (by decide +kernel)
  · exact absurd h (by decide +kernel)
  · have hm : (loadArgsOf (loadLast 1)).mask = 1 := by decide +kernel
    rw [hm, Nat.testBit_lt_two_pow (Nat.one_lt_two_pow (by simp [TableId.fields] at h1; omega))] at h2
    cases h2
  · exact absurd h (by decide +kernel)

/-- R19, R20: the second band no higher than the first is found at BANDS row 1, before a later table's fault. -/
theorem test_validate_order :
    ({ tariff with
      bands := tariff.bands.set 1 ⟨30, 250, 40⟩
      concessions := tariff.concessions.set 0 ⟨2001⟩ } : Bank).validate = some (.bands, 1) ∧
    ({ tariff with concessions := tariff.concessions.set 0 ⟨2001⟩ } : Bank).validate = some (.concessions, 0) := by
  decide +kernel

theorem witness_ArmDecided :
    (∀ s : State, s.lli = State.reset.lli → (got (command .arm [0, 1]) s).Takes (command .arm [0, 1]) []) ∧
    (command .arm [0, 1]).IsCommand .arm [0, 1] ∧ rollingState.roll.state = .rolling ∧ State.reset.roll.state ≠ .rolling ∧
    (storeWith (some 0) none Bank.zero).copying = true ∧ (storeWith none (some 1) Bank.zero).armed = true ∧
    (storeWith none none Bank.zero).armed = false ∧ beNat [0, 1] ≠ Bank.zero.line.generation ∧
    beNat [0, 0] = Bank.zero.line.generation ∧ Bank.zero.validate = some (.line, 0) ∧
    beNat [0, 1] = ({ tariff with line := { tariff.line with generation := 1 } } : Bank).line.generation ∧
    ({ tariff with line := { tariff.line with generation := 1 } } : Bank).validate = none :=
  ⟨fun s h => got_takes _ _ h, command_is _ _ rfl, rfl, by decide, rfl, rfl, rfl, by decide +kernel, by decide +kernel,
    by decide +kernel, by decide +kernel, by decide +kernel⟩

theorem witness_DisarmDecided :
    (∀ s ∈ [rollingState, State.reset], (got (command .disarm []) s).Takes (command .disarm []) []) ∧
    (command .disarm []).IsCommand .disarm [] ∧ rollingState.roll.state = .rolling ∧ State.reset.roll.state ≠ .rolling ∧
    State.reset.tables.armed = false :=
  ⟨fun s h => got_takes _ _ (by revert s; simp [rollingState, readyState]), command_is _ _ rfl, rfl, by decide, rfl⟩

/-- The law of a copy holds at its start and at its end, where every row is the active bank's. -/
theorem copyLaw_storeWith (pos : Nat) (h : pos ≤ 361) : (storeWith (some pos) none Bank.zero).CopyLaw where
  apart := fun h => by cases h
  within := fun n hn => by cases hn; exact h
  copied := fun _ _ _ _ _ _ _ => rfl

theorem witness_CopyRuns :
    (got (command .copyActive []) State.reset).Takes (command .copyActive []) [] ∧
    (command .copyActive []).IsCommand .copyActive [] ∧ (storeWith none (some 1) Bank.zero).armed = true ∧
    (storeWith (some 0) none Bank.zero).copying = true ∧ (storeWith none none Bank.zero).copying = false ∧
    (storeWith (some 360) none Bank.zero).copyPos = some 360 ∧ 360 < 361 ∧
    (storeWith (some 361) none Bank.zero).copyPos = some 361 ∧
    ({ State.reset.lli with copyReserve := some 7 } : LineLink).copyReserve = some 7 ∧
    (storeWith (some 361) none Bank.zero).CopyLaw ∧ (storeWith (some 360) none Bank.zero).CopyLaw ∧
    ∃ u, exec .copyRow { State.reset with tables := storeWith (some 360) none Bank.zero } = .next u :=
  ⟨got_takes _ _ rfl, command_is _ _ rfl, rfl, rfl, rfl, rfl, by decide, rfl, rfl, copyLaw_storeWith 361 (by decide),
    copyLaw_storeWith 360 (by decide), _, rfl⟩

/-! ## Witnesses: port commands -/

theorem witness_PortAttachDecided :
    (∀ args ∈ [[8, 4], [3, 3], [3, 65], [3, 4], [3, 64]], ∀ s : State, s.lli = State.reset.lli →
      (got (command .portAttach args) s).Takes (command .portAttach args) [] ∧
        (command .portAttach args).IsCommand .portAttach args) ∧
    (∀ st ∈ [PortState.attaching, .detaching, .idle, .attached, .present, .faulted],
      ((withPort (portIn st)).port 3).st = st ∧ (withPort (portIn st)).lli = State.reset.lli) ∧
    (3 : Byte).toNat = (3 : PortId).val ∧ State.reset.clock.time < 129599 ∧ (atTime 129599 true).clock.time = 129599 :=
  ⟨fun args h s hs => ⟨got_takes _ _ hs, command_is _ _ (by revert args; decide)⟩,
    fun st _ => ⟨by simp [withPort, portIn], rfl⟩, rfl, by decide, rfl⟩

theorem witness_PortDetachDecided :
    (∀ args ∈ [[8], [3]], ∀ s : State, s.lli = State.reset.lli →
      (got (command .portDetach args) s).Takes (command .portDetach args) [] ∧
        (command .portDetach args).IsCommand .portDetach args) ∧
    (let q := fun x => (withPort x).port 3;
      ¬((q (portIn .present)).st = .attached ∧ (q (portIn .present)).carrier = true) ∧ (q upPort).st = .attached ∧
        (q upPort).carrier = true ∧ 0 < (q upPort).outstanding ∧ (q (portIn .attached)).outstanding = 0) :=
  ⟨fun args h s hs => ⟨got_takes _ _ hs, command_is _ _ (by revert args; decide)⟩, by decide⟩

theorem witness_PortOptionsAndAttention :
    (∀ args ∈ [[8, 0, 0, 0, 0], [3, 2, 0, 0, 0], [3, 0, 1, 0, 0], [3, 0, 0, 0, 2], [3, 1, 0, 255, 1]], ∀ s : State,
      s.lli = State.reset.lli → (got (command .setPortOptions args) s).Takes (command .setPortOptions args) [] ∧
        (command .setPortOptions args).IsCommand .setPortOptions args) ∧
    (∀ args ∈ [[8, 0, 0], [3, 1, 0], [3, 0, 255]], (command .clearAttention args).IsCommand .clearAttention args) ∧
    (let q := (withPort { upPort with carrier := false }).port 3;
      q.st = .attached ∧ q.carrier = false) ∧
    ¬((true = true) ∧ ((withPort upPort).port 3).st = .attached ∧ ((withPort upPort).port 3).carrier = false) :=
  ⟨fun args h s hs => ⟨got_takes _ _ hs, command_is _ _ (by revert args; decide)⟩,
    fun args h => command_is _ _ (by revert args; decide), by decide, by decide⟩

/-! ## Witnesses: pairing -/

/-- The tap of card 1,234,567 at station 12 by port 3, on day 412. -/
def aTap : Tap := ⟨3, 0, 102, true, .tapIn, 1234567, 12, 0, 9, 412, 36000, false, []⟩

/-- A state on the tariff with one tap waiting on port 3 and a journey table. -/
def waits (s : State) (t : Tap) (jt : JourneyTable) : State :=
  { s.setPort 3 { upPort with intake := [t] } with tables := { s.tables with active := tariff }, jt := jt }

/-- The fresh record of the tap's card and day. -/
def aRecord : Record := Record.fresh 1234567 412

/-- The reset state with the Pairing Unit holding an item, and slots in use. -/
def holding (i : PuItem) (uses : Nat) : State :=
  { withPort upPort with pu := { State.reset.pu with item := some i }, pool := { State.reset.pool with tapInUse := uses } }

theorem witness_PairingTurns :
    (holding (.slotWait heldWork none) 0).pu.item ≠ none ∧ State.reset.pu.item = none ∧
    (waits readyState aTap JourneyTable.reset).nextSource = some .intake ∧
    (waits readyState aTap JourneyTable.reset).intakePort = some 3 ∧
    (holding (.notice (State.reset.noticeOf aTap .malformed) 0) 0).pu.item =
      some (.notice (State.reset.noticeOf aTap .malformed) 0) ∧
    State.reset.lli.bulk.length < 512 ∧ 512 ≤ (List.replicate 512 (UpFrame.dayOverrun 0 0)).length ∧
    (holding (.slotWait heldWork (some .goProvisional)) 1023).pu.item = some (.slotWait heldWork (some .goProvisional)) ∧
    heldWork.waiting = some ⟨3, 0, 102, true⟩ ∧ (holding (.slotWait heldWork none) 1023).pool.tapInUse + 0 < 1024 ∧
    1024 ≤ (holding (.slotWait heldWork none) 1024).pool.tapInUse + 0 := by decide +kernel

/-- A bucket full of another card's records. -/
def fullBucket (ext : Option Nat) : Bucket := ⟨Vector.replicate 4 (some (Record.fresh 9 9)), ext⟩

/-- The state with the bulk queue full. -/
def bulkFull (s : State) : State := { s with lli := { s.lli with bulk := List.replicate 512 (.dayOverrun 0 0) } }

/-- The Pairing Unit takes this tap of port 3 next. -/
def takesTap (s : State) (t : Tap) : Bool :=
  decide (s.nextSource = some .intake ∧ s.intakePort = some 3 ∧ (s.port 3).intake = t :: [] ∧ t.port = 3)

/-- It does with bulk places and with none. -/
def taken (s : State) (t : Tap) : Bool :=
  takesTap s t && takesTap (bulkFull s) t && decide (s.lli.bulk.length < 512 ∧ 512 ≤ (bulkFull s).lli.bulk.length)

/-- Each check's tap, in a state with bulk places and in the same state with none. -/
theorem witness_TapNoticed :
    let old := { aTap with hubDay := 411 }
    let swept : State := { rollingState with roll := { rollingState.roll with pos := 54934 } }
    let closing := tableWith { Record.fresh 1234567 411 with status := .closing }
    let chain : JourneyTable := ⟨[(54933, fullBucket (some 0))],
      [(0, fullBucket (some 1)), (1, fullBucket (some 2)), (2, fullBucket none)], [3], 16⟩
    let noPool : JourneyTable := ⟨[(54933, fullBucket none)], [], [], 4⟩
    taken (waits readyState { aTap with card := 0 } JourneyTable.reset) { aTap with card := 0 } ∧
    taken (waits State.reset aTap JourneyTable.reset) aTap ∧ State.reset.roll.state = .notReady ∧
    taken (waits readyState { aTap with hubDay := 410 } JourneyTable.reset) { aTap with hubDay := 410 } ∧
    (410 : Day) ≠ readyState.clock.day ∧
    taken (waits readyState { aTap with station := 13 } JourneyTable.reset) { aTap with station := 13 } ∧
    tariff.station 13 = none ∧ tariff.station 12 = some ⟨1, 0, 12350, 3, 3000⟩ ∧
    taken (waits rollingState old closing) old ∧ (closing.lookup 1234567 411).map Record.status = some .closing ∧
    taken (waits swept old JourneyTable.reset) old ∧ homeIndex 1234567 < swept.roll.pos ∧
    taken (waits readyState aTap chain) aTap ∧ chain.findOrInsert 1234567 412 = .chainLimit ∧
    (∀ s ∈ [waits readyState aTap chain, bulkFull (waits readyState aTap chain)],
      s.intakeCheck aTap = none ∧ s.touched aTap = none) ∧
    taken (waits readyState aTap noPool) aTap ∧ noPool.findOrInsert 1234567 412 = .poolEmpty := by decide +kernel

/-- A tap that pairs in a record the table holds. -/
theorem pairs_in (s : State) (t : Tap) (r : Record)
    (h : (waits s t (tableWith r)).nextSource = some .intake ∧ (waits s t (tableWith r)).intakePort = some 3 ∧ t.port = 3 ∧
      (waits s t (tableWith r)).intakeCheck t = none ∧ (waits s t (tableWith r)).touched t = none ∧
      (tableWith r).findOrInsert t.card t.hubDay = .found r ∧ t.pair ∉ r.recent) :
    (waits s t (tableWith r)).TapPairs 3 t [] (tableWith r) r :=
  ⟨h.1, h.2.1, congrArg Port.intake (s.setPort_port 3 { upPort with intake := [t] }), h.2.2.1, h.2.2.2.1, h.2.2.2.2.1, .inl ⟨h.2.2.2.2.2.1, rfl⟩, h.2.2.2.2.2.2⟩

/-- An open journey at a time, and a tap-out held at a time. -/
def openAt (time : Nat) : OpenJourney := ⟨12, time, 3, 101, 0, false, []⟩
def heldAt (time : Nat) : HeldTap := ⟨12, time, 3, 8, 0, false, [], 36000⟩

theorem witness_TapInPairs :
    (∀ r ∈ [aRecord, { aRecord with openJourney := some (openAt 36000) }, { aRecord with openJourney := some (openAt 36001) },
        { aRecord with held := [heldAt 35999, { heldAt 36000 with hubSeq := 7 }] }],
      (waits readyState aTap (tableWith r)).TapPairs 3 aTap [] (tableWith r) r) ∧ aTap.direction = .tapIn ∧
    (∀ s ∈ [readyState, bulkFull readyState], (waits s { aTap with product := 1 } (tableWith aRecord)).TapPairs 3
      { aTap with product := 1 } [] (tableWith aRecord) aRecord) ∧
    512 ≤ (waits (bulkFull readyState) { aTap with product := 1 } (tableWith aRecord)).lli.bulk.length ∧
    (tariff.product aTap.product).kind = 1 ∧ (tariff.product 1).kind = 0 ∧
    (∀ x ∈ [heldAt 35999], x.time < aTap.time ∧ (x.port, x.hubSeq) ≠ ((3 : PortId), (7 : BitVec 32))) ∧
    aTap.time ≤ (heldAt 36000).time ∧ (openAt 36000).time ≤ aTap.time ∧ aTap.time < (openAt 36001).time ∧
    State.reset.pool.tapInUse + State.reset.pool.nonTapInUse < 1024 ∧ ¬(1024 + 0 < 1024) := by
  refine ⟨fun r h => pairs_in _ aTap r ?_, rfl, fun s h => pairs_in s _ aRecord ?_, by decide +kernel⟩
  · revert r; decide +kernel
  · revert s; decide +kernel

theorem witness_TapOutPairs :
    let out := { aTap with direction := .tapOut }
    (∀ r ∈ [aRecord, { aRecord with openJourney := some (openAt 36000) }, { aRecord with openJourney := some (openAt 36001) },
        { aRecord with held := [heldAt 1, heldAt 2] }, { aRecord with held := [heldAt 1, heldAt 2, heldAt 3] }],
      (waits readyState out (tableWith r)).TapPairs 3 out [] (tableWith r) r) ∧ out.direction = .tapOut ∧
    (openAt 36000).time ≤ out.time ∧ out.time < (openAt 36001).time ∧ [heldAt 1, heldAt 2].length < 3 ∧
    2 ≤ [heldAt 2, heldAt 3].length ∧
    (let dup := { aRecord with recent := [(3, 9)] };
      (waits readyState out (tableWith dup)).nextSource = some .intake ∧
        (waits readyState out (tableWith dup)).intakeCheck out = none ∧
        (waits readyState out (tableWith dup)).touched out = none ∧
        (tableWith dup).lookup out.card out.hubDay = some dup ∧ (out.port, out.hubSeq) ∈ dup.recent) := by
  refine ⟨fun r h => pairs_in _ _ r ?_, by decide +kernel⟩
  revert r; decide +kernel

theorem witness_ExpiryTaken :
    let entry := fun (k : ExpiryKind) => (⟨0, true, true, 1234567, 412, k⟩ : ExpiryEntry)
    let s := fun (k : ExpiryKind) (r : Record) =>
      ({ readyState with pu := { State.reset.pu with source := .expiry }, expiry := [entryDue 9 false, entry k], jt := tableWith r } : State)
    let r := { aRecord with openJourney := some (openAt 1), held := [{ heldAt 1 with hubSeq := 7 }, heldAt 2] }
    (s .journeyLimit r).nextSource = some .expiry ∧ (∀ x ∈ [entryDue 9 false], x.due = false) ∧
    (s .journeyLimit r).jt.lookup 1234567 412 = some r ∧ (s (.hold 3 8) r).nextSource = some .expiry ∧
    (∀ x ∈ [{ heldAt 1 with hubSeq := 7 }], (x.port, x.hubSeq) ≠ ((3 : PortId), (8 : BitVec 32))) ∧
    ({ State.reset with pool := { State.reset.pool with nonTapInUse := 1024 } } : State).nonTapFree = 0 := by decide +kernel

/-! ## Witnesses: the roll -/

theorem witness_RollDayDecided :
    (∀ args ∈ [[1, 0x9D, 0, 1, 0xFA, 0x40], [1, 0x9D, 0, 1, 0xFA, 0x3F], [1, 0x9C, 0, 0, 0, 0]], ∀ s : State,
      s.lli = State.reset.lli → (got (command .rollDay args) s).Takes (command .rollDay args) [] ∧
        (command .rollDay args).IsCommand .rollDay args) ∧
    rollingState.roll.state = .rolling ∧ readyState.roll.state = .ready ∧ State.reset.roll.state = .notReady ∧
    beNat [0, 1, 0xFA, 0x40] = 129600 ∧ beNat [0, 1, 0xFA, 0x3F] = 129599 ∧
    BitVec.ofNat 16 (beNat [1, 0x9D]) = readyState.clock.day + 1 ∧ BitVec.ofNat 16 (beNat [1, 0x9C]) ≠ readyState.clock.day + 1 ∧
    State.reset.tables.armed = false ∧ (storeWith none (some 1) Bank.zero).armed = true ∧ readyState.lli = State.reset.lli ∧
    readyState.clock.overrun = false ∧ State.reset.clock.overrun = false ∧ State.reset.lli.urgentUsed + 3 ≤ 32 ∧
    (let l : LineLink := { State.reset.lli with urgent := List.replicate 31 (.dayOverrun 0 0) }
     l.urgentHasPlace = true ∧ ¬ l.urgentUsed + 1 < 32) ∧
    ({ State.reset.roll with owedDone := some ⟨1, none, false, 0⟩ } : RollSweep).owedDone ≠ none :=
  ⟨fun args h s hs => ⟨got_takes _ _ hs, command_is _ _ (by revert args; decide)⟩, rfl, rfl, rfl, by decide +kernel,
    by decide +kernel, by decide +kernel, by decide +kernel, rfl, rfl, rfl, rfl, rfl, by decide, by decide +kernel, by decide⟩

theorem witness_RecordClosure : State.reset.CountersInRange ∧ fullRecord.pendingCount ≤ 1027 :=
  ⟨fun i => by simp [State.reset, Counters.zero], by decide⟩

/-- The roll at a position with a visit in hand and CLOSING records left. -/
def rollAt (pos : Nat) (visit : List Card) (closingCount : Nat) : RollSweep :=
  { rollingState.roll with pos := pos, visit := visit, closingCount := closingCount }

theorem witness_SweepSteps :
    let s := fun (r : RollSweep) (jt : JourneyTable) (uses : Nat) => ({ rollingState with
      roll := r, jt := jt, pu := { State.reset.pu with source := .sweep }
      pool := { State.reset.pool with nonTapInUse := uses } } : State)
    let oldOpen := { Record.fresh 1234567 411 with openJourney := some (openAt 1) }
    let shut := { Record.fresh 1234567 411 with status := .closing }
    (rollAt 65535 [] 0).state = .rolling ∧ (rollAt 65535 [] 0).oldDay = some 411 ∧ (rollAt 65535 [] 0).pos < 65536 ∧
    (rollAt 65535 [] 0).pos + 1 = 65536 ∧ (rollAt 0 [] 1).pos + 1 < 65536 ∧ 65536 ≤ (rollAt 65536 [] 0).pos ∧
    State.reset.roll.state ≠ .rolling ∧ (rollAt 9 [1] 0).visit ≠ [] ∧
    (s (rollAt 9 [1234567] 0) (tableWith oldOpen) 1023).nextSource = some .sweep ∧
    (tableWith oldOpen).lookup 1234567 411 = some oldOpen ∧ oldOpen.status = .active ∧
    1 ≤ (s (rollAt 9 [1234567] 0) (tableWith oldOpen) 1023).nonTapFree ∧
    (s (rollAt 9 [1234567] 0) (tableWith oldOpen) 1024).nonTapFree < 1 ∧
    (tableWith shut).lookup 1234567 411 = some shut ∧ shut.status = .closing ∧
    (s (rollAt 65536 [1234567] 0) (tableWith shut) 0).nextSource = some .sweep ∧
    (let t := waits rollingState aTap (tableWith oldOpen);
      t.nextSource = some .intake ∧ t.intakePort = some 3 ∧ (t.port 3).intake = aTap :: [] ∧ t.intakeCheck aTap = none ∧
        t.touched aTap = some oldOpen) := by decide +kernel

theorem witness_SummariesAndRollEnd :
    let s := fun (r : Record) (bulk : Nat) => ({ rollingState with
      jt := tableWith r, roll := { rollAt 65536 [] 1 with summary := [(1234567, 411)] }
      lli := { State.reset.lli with bulk := List.replicate bulk (.dayOverrun 0 0) } } : State)
    let shut := { Record.fresh 1234567 411 with status := .closing }
    (s shut 511).roll.summary = (1234567, 411) :: [] ∧ 512 ≤ (s shut 512).lli.bulk.length ∧ (s shut 511).lli.bulk.length < 512 ∧
    (s { shut with pendingCount := 1 } 0).jt.lookup 1234567 411 = some { shut with pendingCount := 1 } ∧
    (s shut 511).jt.lookup 1234567 411 = some shut ∧ shut.status = .closing ∧ shut.pendingCount = 0 ∧
    (s shut 511).roll.state = .rolling ∧ (s shut 511).roll.pos = 65536 ∧ (s shut 511).roll.visit = [] ∧
    (s shut 511).roll.closingCount ≤ 1 ∧ (rollAt 65535 [] 1).pos ≠ 65536 ∧ 1 < (rollAt 65536 [] 2).closingCount ∧
    (storeWith none (some 1) Bank.zero).armedGen.isSome = true ∧ State.reset.tables.armedGen.isSome = false ∧
    State.reset.lli.urgentHasPlace = true ∧ State.reset.roll.owedDone = none ∧ fullUrgent.urgentHasPlace = false := by
  decide +kernel

/-! ## Witnesses: grants, pricing, referrals, resets -/

theorem witness_ArbiterChoice :
    let w : WorkPool := ⟨[], [work .l1 1], [work .l2 2], [], 0, 2, 0, some .l1, 7⟩
    w.list .l1 = work .l1 1 :: [] ∧ (∀ x : Level, .l1 ∈ x.below → w.list x = []) ∧ w.aging < 8 ∧
    (∃ x ∈ Level.l1.below, w.list x ≠ []) ∧ w.runLevel = some .l1 ∧
    (∀ x ∈ Level.l2.below, ({ w with l1 := [], aging := 8 } : WorkPool).list x = []) ∧
    ({ w with aging := 8 } : WorkPool).aging = 8 ∧ Level.l2 ∈ Level.l1.below ∧
    (∀ x ∈ Level.l1.below, Level.l2 ∈ x.below → w.list x = []) ∧ (∀ v, State.reset.pool.list v = []) ∧
    ({ w with runLevel := none } : WorkPool).runLevel ≠ some .l1 :=
  ⟨rfl, fun x h => by cases x <;> simp [Level.below] at h; rfl, by decide, ⟨.l2, by decide, by decide⟩, rfl, by decide, rfl,
    by decide, by decide, fun v => by cases v <;> rfl, by decide⟩

/-- A pool with one entry, of this journey at L1, and one slot in use. -/
def poolOf (e : WorkEntry) : WorkPool := { WorkPool.reset with l1 := [e], nonTapInUse := 1 }

/-- Case A's journey as work with or without a waiting tap. -/
def priced (w : Option WaitingTap) (t : Option (BitVec 16)) : WorkEntry :=
  ⟨.priceJourney, .l1, .nonTap, 1234567, 412, caseA, w, t, false⟩

theorem witness_PricingCompletes :
    let s := fun (e : WorkEntry) (bulk : Nat) (jt : JourneyTable) => ({ readyState with
      pool := poolOf e, jt := jt, tables := { State.reset.tables with active := tariff }
      lli := { State.reset.lli with bulk := List.replicate bulk (.dayOverrun 0 0) } } : State)
    let plain := priced none none
    let x := s plain 511 (tableWith aRecord)
    let product := x.reckoningFor plain (x.copiesFor plain)
    (∀ y ∈ [x, s plain 512 (tableWith aRecord), s plain 0 JourneyTable.reset],
      y.fu = .idle ∧ y.pool.grant = some (plain, false, ⟨[], [], [], [], 0, 1, 0, none, 0⟩)) ∧ x.lli.bulk.length < 512 ∧
    512 ≤ (s plain 512 (tableWith aRecord)).lli.bulk.length ∧ x.jt.lookup 1234567 412 = some aRecord ∧ plain.ticket = none ∧
    divertReason (product.withCharge true 0).productRow 0 (product.withCharge true 0).conds = none ∧
    divertReason (product.withCharge true 0).productRow Condition.inexact.only (product.withCharge true 0).conds =
      some (.condition .inexact) ∧ x.rt.freeList = 0 :: (List.finRange 256).tail ∧
    ({ x.rt with freeList := [] } : ReferralTable).freeList = [] ∧ (priced none (some 5)).ticket.isSome = true ∧
    (s plain 0 JourneyTable.reset).jt.lookup 1234567 412 = none ∧
    (priced (some ⟨3, 0, 102, true⟩) none).waiting = some ⟨3, 0, 102, true⟩ := by decide +kernel

/-- A stalled Fare Unit with and without a bulk place. -/
theorem witness_PricingCompletes_stalled : ∃ (s : State) (p : Pricing), s.fu = .stalled p ∧ s.lli.bulk.length < 512 ∧
    p.entry.ticket = some 5 ∧ 512 ≤ (List.replicate 512 (UpFrame.dayOverrun 0 0)).length :=
  ⟨{ State.reset with fu := .stalled ⟨priced none (some 5), State.reset.copiesFor (priced none none),
      tariff.reckon caseA none, .charged none false⟩ }, _, rfl, by decide, rfl, by rw [List.length_replicate]⟩

/-- A referral entry in slot 5, use count 2. -/
def referred (st : RefState) (mark : RefWork) (a : Option RefAnswer) (due : Bool) : ReferralTable :=
  let rt := State.reset.rt.setEntry 5 { RefEntry.cleared 2 with
    state := st, work := mark, answer := a, due := due, card := 1234567, day := 412 }
  { rt with ready := [5] }

/-- A REFERRAL_ANSWER frame. -/
def answerFrame (use slot kind station : Byte) : DownFrame := ⟨.referralAnswer, 7, [use, slot, kind, 0, 0, 250, station]⟩

theorem witness_ReferralAnswerDecided :
    (∀ f ∈ [answerFrame 2 5 0 0, answerFrame 2 5 4 0, answerFrame 1 5 2 0, answerFrame 2 5 1 0, answerFrame 2 5 3 12],
      ∀ s : State, s.lli = State.reset.lli → (got f s).Takes f [] ∧ f.kind = .referralAnswer) ∧
    (referred .awaiting .none none false).entry 5 =
      { RefEntry.cleared 2 with state := .awaiting, card := 1234567, day := 412 } ∧
    ((referred .awaiting .timeout none true).entry 5).work = .timeout ∧ (State.reset.rt.entry 5).state = .free ∧
    ((referred .answered .none (some .void) false).entry 5).state = .answered ∧
    (State.reset.bankFor 412).station 12 = none ∧
    (({ readyState with tables := { State.reset.tables with active := tariff } } : State).bankFor 412).station 12 ≠ none := by
  refine ⟨fun f h s hs => ⟨got_takes _ _ hs, by revert f; decide⟩, by decide +kernel⟩

theorem witness_ReferralWorkCreated :
    (referred .answered .none (some (.charge 250 true)) false).ready = 5 :: [] ∧
    ((referred .answered .none (some (.charge 250 true)) false).entry 5).answer = some (.charge 250 true) ∧
    ((referred .answered .none (some .void) false).entry 5).answer = some .void ∧
    ((referred .answered .none (some (.reprice 12)) false).entry 5).answer = some (.reprice 12) ∧
    ((referred .awaiting .none none true).entry 5).due = true ∧ 0 < State.reset.nonTapFree ∧
    ({ State.reset with pool := { State.reset.pool with nonTapInUse := 1024 } } : State).nonTapFree = 0 ∧
    (tableWith { aRecord with pendingCount := 1026 }).lookup 1234567 412 = some { aRecord with pendingCount := 1026 } ∧
    1026 < 1027 ∧ State.reset.jt.lookup 1234567 412 = none := by decide +kernel

theorem witness_EngineResetEffect :
    (∀ q ∈ [upPort, portIn .detaching, portIn .faulted], (got (command .engineReset []) (withPort q)).Takes
      (command .engineReset []) [] ∧ ((withPort q).port 3).st = q.st) ∧
    (command .engineReset []).IsCommand .engineReset [] ∧ upPort.st = .attached ∧ upPort.carrier = true ∧
    (portIn .detaching).st = .detaching ∧ (portIn .faulted).st ≠ .detaching ∧
    (let sending := { State.reset.lli with transmitting := some .bulk, bulkTo := some 1, bulk := [.dayOverrun 412 36000] };
      sending.transmitting = some .bulk ∧ sending.wire.isSome = true ∧ sending.urgentHasPlace = true ∧
        sending.replyHeld = false) :=
  ⟨fun q _ => ⟨got_takes _ _ rfl, by simp [withPort]⟩, command_is _ _ rfl, rfl, rfl, rfl, by decide, by decide +kernel⟩

/-- Two DETACHING ports of one class, unmasked, with one place left for both: the lower has its notice, the other owes it. -/
theorem test_reset_detaching :
    let s : State := ((State.reset.setPort 3 (portIn .detaching)).setPort 5 (portIn .detaching))
    let t : State := { s with lli := { State.reset.lli with
      receive := [command .engineReset []], bulk := List.replicate 511 (.dayOverrun 0 0) } }
    ∃ u, exec .engineReset t = .next u ∧ u.lli.bulk.drop 511 = [.portNotice 3 .detachDone .nothing AttnKind.detachDone.only] ∧
      u.lli.owed = [⟨5, .detachDone, .nothing⟩] := by
  refine ⟨_, rfl, ?_⟩
  decide +kernel

end Sys2Proof.Tests
end

section
/-! PROOFS. The fare tables and the table banks (R1 to R22): LOAD, ARM, DISARM, the copy, the roles; and the two resets (R184, R185). -/

namespace Sys2Proof.Machine

open Sys2Proof

/-! ## What one row's copy does to the table store -/

@[simp] theorem copyOneRow_active (ts : TableStore) : (copyOneRow ts).active = ts.active := by
  unfold copyOneRow; (repeat' split) <;> rfl

@[simp] theorem copyOneRow_armed (ts : TableStore) : (copyOneRow ts).armed = ts.armed := by
  unfold copyOneRow; (repeat' split) <;> rfl

theorem copyOneRow_idle {ts : TableStore} (h : ts.copying = false) : copyOneRow ts = ts := by
  have : ts.copyPos = none := by simpa [TableStore.copying] using h
  simp [copyOneRow, this]

theorem copyOneRow_copying (ts : TableStore) : (copyOneRow ts).copying = ts.copying := by
  cases hp : ts.copyPos with
  | none => rw [copyOneRow_idle (by simp [TableStore.copying, hp])]
  | some pos => simp only [copyOneRow, hp, TableStore.copying]; split <;> simp [hp]

/-! ## The banks and their roles (O11) -/

/-- The active bank changes only by an armed bank taking its place. -/
theorem TableStore.Step.active_eq {c : Instr} {ts u : TableStore} (h : TableStore.Step c ts u) :
    u.active = ts.active ∨ (ts.armed = true ∧ u.active = ts.prep) := by
  rcases h with rfl | ⟨-, rfl⟩ | rfl | rfl | ⟨-, -, rfl | ⟨g, rfl⟩ | ⟨b, rfl⟩⟩ | ⟨armed, rfl⟩
  case inr.inr.inr.inr.inr => exact .inr ⟨armed, rfl⟩
  all_goals simp

/-- An armed bank with no copy in flight stays or takes the active role. -/
theorem TableStore.Step.prep_of_armed {c : Instr} {ts u : TableStore} (h : TableStore.Step c ts u)
    (armed : ts.armed = true) (idle : ts.copying = false) :
    u.prep = ts.prep ∨ (u.active = ts.prep ∧ u.prep = ts.active) := by
  rcases h with rfl | ⟨-, rfl⟩ | rfl | rfl | ⟨unarmed, -, -⟩ | ⟨-, rfl⟩
  · exact .inl rfl
  · rw [copyOneRow_idle idle]; exact .inl rfl
  · exact .inl rfl
  · exact .inl rfl
  · simp [armed] at unarmed
  · exact .inr ⟨rfl, rfl⟩

/-- While a copy runs, no step but the copy's own writes the pending bank. -/
theorem TableStore.Step.prep_of_copying {c : Instr} {ts u : TableStore} (h : TableStore.Step c ts u)
    (copying : ts.copying = true) (unarmed : ts.armed = false) (hc : c ≠ .copyRow) : u.prep = ts.prep := by
  rcases h with rfl | ⟨rfl, -⟩ | rfl | rfl | ⟨-, idle, -⟩ | ⟨armed, -⟩
  · rfl
  · exact absurd rfl hc
  · rfl
  · rfl
  · simp [copying] at idle
  · simp [unarmed] at armed

/-- No step arms a bank while a copy is in flight, or starts a copy of an armed one. -/
theorem TableStore.Step.armed_apart {c : Instr} {ts u : TableStore} (h : TableStore.Step c ts u)
    (apart : ts.armed = true → ts.copying = false) : u.armed = true → u.copying = false := by
  rcases h with rfl | ⟨-, rfl⟩ | rfl | rfl | ⟨unarmed, idle, rfl | ⟨g, rfl⟩ | ⟨b, rfl⟩⟩ | ⟨-, rfl⟩
  · exact apart
  · simpa [copyOneRow_copying] using apart
  · exact fun _ => rfl
  · intro armed; cases armed
  · exact fun armed => absurd (unarmed.symm.trans armed) Bool.false_ne_true
  · exact fun _ => idle
  · exact fun _ => idle
  · intro armed; cases armed

/-- What POWER_ON_RESET leaves. -/
theorem exec_powerOnReset {s u : State} (h : exec .powerOnReset s = .next u) : u = { State.reset with pending := s.pending } := by
  cases h; rfl

/-- Settles O11, from all that any command can do to the table store (`exec_tables`). -/
theorem banksChangeOnlyByRole : Obligations.BanksChangeOnlyByRole := by
  refine ⟨fun c s u hc h => ?_, fun c s u apart h => ?_⟩
  · have step := exec_tables c s u hc h
    exact ⟨step.active_eq, step.prep_of_armed, step.prep_of_copying⟩
  · by_cases hc : c = .powerOnReset
    · subst hc; rw [exec_powerOnReset h]; exact fun _ => rfl
    · exact (exec_tables c s u hc h).armed_apart apart


/-! ## ARM and DISARM -/

theorem TableId.mem_inOrder (t : TableId) : t ∈ TableId.inOrder := by cases t <;> decide

theorem TableId.inOrder_sorted : TableId.inOrder.Pairwise fun a b => a.code < b.code := by decide

/-- The tables before one in the order of validation are those of the lower codes. -/
theorem TableId.mem_before_iff {before after : List TableId} {t : TableId} (h : TableId.inOrder = before ++ t :: after)
    (v : TableId) : v ∈ before ↔ v.code < t.code := by
  have sorted := TableId.inOrder_sorted
  rw [h, List.pairwise_append, List.pairwise_cons] at sorted
  obtain ⟨-, ⟨later, -⟩, earlier⟩ := sorted
  refine ⟨fun hv => earlier v hv t (by simp), fun hlt => ?_⟩
  have : v ∈ before ++ t :: after := h ▸ v.mem_inOrder
  rcases List.mem_append.1 this with hv | hv
  · exact hv
  · rcases List.mem_cons.1 hv with rfl | hv
    · exact absurd hlt (Nat.lt_irrefl _)
    · exact absurd hlt (Nat.lt_asymm (later v hv))

/-- Validation passes exactly where no row fails (R19). -/
theorem Bank.validate_eq_none (b : Bank) : b.validate = none ↔ ∀ (t : TableId) (i : Nat), ¬b.Fails t i := by
  simp only [Bank.validate, List.findSome?_eq_none_iff, Bank.firstFailing_eq_none, TableId.mem_inOrder, forall_const]

/-- Validation names the first failing row, table by table and row by row (R19). -/
theorem Bank.validate_eq_some (b : Bank) (t : TableId) (i : Nat) : b.validate = some (t, i) ↔
    b.Fails t i ∧ (∀ j, j < i → ¬b.Fails t j) ∧ ∀ (v : TableId) (j : Nat), v.code < t.code → ¬b.Fails v j := by
  simp only [Bank.validate, List.findSome?_eq_some_iff, Bank.firstFailing_eq_some, Bank.firstFailing_eq_none]
  constructor
  · rintro ⟨before, v, after, order, ⟨rfl, fails, first⟩, earlier⟩
    exact ⟨fails, first, fun v j hv => earlier v ((TableId.mem_before_iff order v).2 hv) j⟩
  · rintro ⟨fails, first, earlier⟩
    obtain ⟨before, after, order⟩ := List.append_of_mem t.mem_inOrder
    exact ⟨before, t, after, order, ⟨rfl, fails, first⟩,
      fun v hv j => earlier v j ((TableId.mem_before_iff order v).1 hv)⟩

/-- A field that is all of a run of bytes. -/
theorem fieldAt_whole (body : List Byte) : fieldAt body 0 body.length = beNat body := by simp [fieldAt]

/-- The REPLY of a frame whose taking has changed the table store. -/
theorem State.taking_tables_reply {s : State} {f : DownFrame} {rest : List DownFrame} (h : s.lli.replyHeld = false)
    (ts : TableStore) (st : Status) :
    State.reply f st { s.taking rest with tables := ts } = State.answered f rest st { s with tables := ts } :=
  State.taking_reply (s := { s with tables := ts }) h st

section
variable {s : State} {f : DownFrame} {rest : List DownFrame}

/-- An ARM that can be taken, by its decision (R18). -/
theorem exec_arm_taken {args : List Byte} (h : s.Takes f rest) (hc : f.IsCommand .arm args) :
    exec .arm s = .next (if (armDecision s (beNat args)).1 = .done then
      State.answered f rest .done { s with tables := { s.tables with armedGen := some (beNat args) } }
      else s.answeredFull f rest (armDecision s (beNat args)).1 (armDecision s (beNat args)).2 none) := by
  have operand : fieldAt f.args 0 2 = beNat args := by
    rw [hc.args_eq, ← fieldAt_whole args, hc.length]; rfl
  have taken : exec .arm s = .next (armTaken f (s.taking rest)) := by simp only [exec, execArm, h.takeCommand hc]
  rw [taken, ← State.taking_tables_reply h.between, ← State.taking_replyFull h.between, armTaken, operand]
  rfl

/-- A DISARM that can be taken (R21). -/
theorem exec_disarm_taken {args : List Byte} (h : s.Takes f rest) (hc : f.IsCommand .disarm args) :
    exec .disarm s = .next (if s.roll.state = .rolling then s.answered f rest .badState
      else State.answered f rest .done { s with tables := { s.tables with armedGen := none } }) := by
  have taken : exec .disarm s = .next (disarmTaken f (s.taking rest)) := by
    simp only [exec, execDisarm, h.takeCommand hc]
  rw [taken, ← State.taking_reply h.between, ← State.taking_tables_reply h.between]
  rfl

end

theorem TableStore.armed_eq_false {ts : TableStore} : ts.armed = false ↔ ts.armedGen = none := by
  simp [TableStore.armed]

/-- Settles O40: an ARM by its decision, and validation as the first failure in the order of the tables. -/
theorem armDecided : Obligations.ArmDecided := by
  refine ⟨fun b => ⟨b.validate_eq_none, b.validate_eq_some⟩, fun s f rest args h hc => ?_⟩
  rw [exec_arm_taken h hc]
  refine ⟨fun rolling => ?_, fun roll copying => ?_, fun roll copying armed => ?_,
    fun roll copying armed => ⟨fun other => ?_, fun x named failing => ?_, fun named valid => ?_⟩⟩
  · simp [armDecision, rolling, State.answered]
  · simp [armDecision, roll, copying, State.answered]
  · simp [armDecision, roll, copying, armed, State.answered]
  · simp [armDecision, roll, copying, armed, other, State.answered]
  · simp [armDecision, roll, copying, armed, named, failing]
  · simp [armDecision, roll, copying, armed, named, valid]

/-- Settles O41. Where nothing is armed, clearing the armed generation changes nothing. -/
theorem disarmDecided : Obligations.DisarmDecided := by
  intro s f rest h hc
  rw [exec_disarm_taken h hc]
  refine ⟨fun rolling => by rw [if_pos rolling], fun roll => by rw [if_neg roll], fun roll unarmed => ?_⟩
  rw [if_neg roll, ← TableStore.armed_eq_false.1 unarmed]


/-! ## Rows of a bank -/

/-- The table whose rows are of this kind. -/
def TableRow.table : TableRow → TableId
  | .line _ => .line
  | .station _ => .stations
  | .band _ => .bands
  | .timeband _ => .timebands
  | .product _ => .products
  | .concession _ => .concessions

/-- A table's rows are of its own kind. -/
theorem Bank.row_table {b : Bank} {t : TableId} {i : Nat} {r : TableRow} (h : b.row t i = some r) : r.table = t := by
  cases t
  case line =>
    simp only [Bank.row] at h
    split at h <;> cases h
    rfl
  all_goals
    obtain ⟨x, -, rfl⟩ := Option.map_eq_some_iff.1 h
    rfl

/-- A row body is read as a row of its table. -/
@[simp] theorem LoadArgs.row_table (a : LoadArgs) (t : TableId) (n : Nat) : (a.row t n).table = t := by cases t <;> rfl

/-- A bank has the rows that its tables have. -/
theorem Bank.row_isSome_iff (b : Bank) (t : TableId) (i : Nat) : (b.row t i).isSome = true ↔ i < t.rows := by
  cases t
  case line => by_cases h : i = 0 <;> simp [Bank.row, TableId.rows, h]
  all_goals simp [Bank.row, TableId.rows]

theorem Bank.lt_rows {b : Bank} {t : TableId} {i : Nat} {r : TableRow} (h : b.row t i = some r) : i < t.rows :=
  (b.row_isSome_iff t i).1 (h ▸ rfl)

/-- A row reads back as written. -/
theorem Bank.row_setRow_same (b : Bank) {t : TableId} {i : Nat} {r : TableRow} (hi : i < t.rows) (hr : r.table = t) :
    (b.setRow t i r).row t i = some r := by
  fun_cases Bank.setRow b t i r
  case case1 hi0 => simp [Bank.row, hi0]
  case case2 r hne => exact absurd (Nat.lt_one_iff.1 hi) hne
  case case8 => subst hr; cases r <;> simp_all [TableRow.table]
  all_goals exact congrArg (Option.map _) (Vector.getElem?_setIfInBounds_self_of_lt hi)

/-- Writing a row changes no other. -/
theorem Bank.row_setRow_other (b : Bank) {t v : TableId} {i j : Nat} (r : TableRow) (h : (v, j) ≠ (t, i)) :
    (b.setRow t i r).row v j = b.row v j := by
  have hj : v = t → i ≠ j := fun hv e => h (by rw [hv, e])
  fun_cases Bank.setRow b t i r
  case case1 =>
    cases v <;> try rfl
    rename_i hi0
    simp [Bank.row, show j ≠ 0 from fun hj0 => hj rfl (hi0.trans hj0.symm)]
  case case2 => rfl
  case case8 => rfl
  all_goals
    cases v <;> try rfl
    exact congrArg (Option.map _) (Vector.getElem?_setIfInBounds_ne (hj rfl))

/-- Two vectors that read alike through an injection are equal. -/
theorem vector_eq_of_map_getElem? {α β : Type} {n : Nat} {v w : Vector α n} {f : α → β} (hf : Function.Injective f)
    (h : ∀ i : Nat, v[i]?.map f = w[i]?.map f) : v = w := by
  apply Vector.ext
  intro i hi
  exact hf (by simpa [hi] using h i)

/-- A bank is its rows. -/
theorem Bank.ext_row {a b : Bank} (h : ∀ (t : TableId) (i : Nat), a.row t i = b.row t i) : a = b := by
  have line : a.line = b.line := by simpa [Bank.row] using h .line 0
  have stations := vector_eq_of_map_getElem? (fun _ _ => TableRow.station.inj) (h .stations)
  have bands := vector_eq_of_map_getElem? (fun _ _ => TableRow.band.inj) (h .bands)
  have timebands := vector_eq_of_map_getElem? (fun _ _ => TableRow.timeband.inj) (h .timebands)
  have products := vector_eq_of_map_getElem? (fun _ _ => TableRow.product.inj) (h .products)
  have concessions := vector_eq_of_map_getElem? (fun _ _ => TableRow.concession.inj) (h .concessions)
  cases a; cases b
  congr

/-! ## Masked writing (R9, R12) -/

/-- Merging keeps the kind of the row. -/
theorem mergeRow_table (mask : Nat) (old new : TableRow) : (mergeRow mask old new).table = old.table := by
  cases old <;> cases new <;> rfl

/-- Each field that the mask names is the new one, every other the old one. -/
theorem mergeRow_field {mask : Nat} {old new : TableRow} (h : old.table = new.table) {k : Nat} (hk : k < old.table.fields) :
    (mergeRow mask old new).field k = if mask.testBit k then new.field k else old.field k := by
  cases named : mask.testBit k
  all_goals
    cases old <;> cases new <;> cases h
    all_goals
      simp only [TableRow.table, TableId.fields] at hk
      interval_cases k <;> simp [mergeRow, TableRow.field, masked, named]

/-- A row body written under the mask. -/
theorem Bank.writeMasked_of_row {b : Bank} {t : TableId} {i : Nat} {old : TableRow} (h : b.row t i = some old) (mask : Nat)
    (new : TableRow) : b.writeMasked t mask i new = b.setRow t i (mergeRow mask old new) := by
  simp [Bank.writeMasked, h]

theorem Bank.row_writeMasked_same {b : Bank} {t : TableId} {i : Nat} {old : TableRow} (h : b.row t i = some old) (mask : Nat)
    (new : TableRow) : (b.writeMasked t mask i new).row t i = some (mergeRow mask old new) := by
  rw [Bank.writeMasked_of_row h]
  exact b.row_setRow_same (Bank.lt_rows h) ((mergeRow_table mask old new).trans (Bank.row_table h))

theorem Bank.row_writeMasked_other {b : Bank} {t v : TableId} {i j : Nat} {old : TableRow} (h : b.row t i = some old)
    (mask : Nat) (new : TableRow) (hv : (v, j) ≠ (t, i)) : (b.writeMasked t mask i new).row v j = b.row v j := by
  rw [Bank.writeMasked_of_row h]
  exact b.row_setRow_other _ hv


/-! ## Row bodies (R191) -/

/-- Where each field of a row body stands: the offset and the size of each of its values, field by field (R9, R191). -/
def TableId.places : TableId → List (List (Nat × Nat))
  | .line => [[(0, 1)], [(1, 1)], [(2, 2)], [(4, 1)], [(5, 4)], [(9, 4)], [(13, 2)], [(15, 2)], [(17, 2)], [(19, 2)]]
  | .stations => [[(0, 1)], [(1, 1)], [(2, 4)], [(6, 1)], [(7, 2)]]
  | .bands => [[(0, 2)], [(2, 2)], [(4, 1)]]
  | .timebands => [[(0, 4)], [(4, 2)]]
  | .products => [[(0, 1)], [(1, 2)], [(3, 2)], [(5, 2)], [(7, 2)], [(9, 1)],
      [(10, 1), (11, 1), (12, 1), (13, 1), (14, 1)]]
  | .concessions => [[(0, 2)]]

/-- A row body holds a field for each of its table's, and nothing else. -/
theorem TableId.places_fill (t : TableId) :
    t.places.length = t.fields ∧ (t.places.flatten.map Prod.snd).sum = t.rowSize := by cases t <;> exact ⟨rfl, rfl⟩

theorem getD_map_map {α β : Type} (l : List (List α)) (g : α → β) (k : Nat) :
    (l.map (List.map g))[k]?.getD [] = (l[k]?.getD []).map g := by
  rw [List.getElem?_map]
  cases l[k]? <;> rfl

/-- Each field of a row body is read at its place. -/
theorem rowOfBody_field (t : TableId) (body : List Byte) (k : Nat) :
    (rowOfBody t body).field k = (t.places[k]?.getD []).map fun x => fieldAt body x.1 x.2 := by
  rw [← getD_map_map]
  cases t <;> rfl

/-! ## LOAD (R11 to R13) -/

/-- The refusals of a LOAD's header for a table: the count and length of its row bodies, a mask bit that names no field, a base row
that the table does not have (R11, R191). -/
def LoadArgs.Misfits (a : LoadArgs) (t : TableId) : Prop :=
  a.bodyCount < 1 ∨ 4 < a.bodyCount ∨ a.bodies.length ≠ a.bodyCount * t.rowSize ∨
    (∃ n, t.fields ≤ n ∧ a.mask.testBit n = true) ∨ t.rows ≤ a.baseRow

/-- A word is too wide for `n` bits exactly where a bit from `n` upward is set. -/
theorem two_pow_le_iff_testBit (n x : Nat) : 2 ^ n ≤ x ↔ ∃ i, n ≤ i ∧ x.testBit i = true := by
  refine ⟨fun h => Nat.exists_ge_and_testBit_of_ge_two_pow h, fun ⟨i, hi, hx⟩ => ?_⟩
  by_contra hlt
  have small : x < 2 ^ i := (Nat.lt_of_not_le hlt).trans_le (Nat.pow_le_pow_right (by omega) hi)
  simp [Nat.testBit_lt_two_pow small] at hx

theorem loadDecision_no_table {ts : TableStore} {a : LoadArgs} (h : 6 ≤ a.tableCode) :
    loadDecision ts a = (.badArgument, none) := by
  have : tableOf a.tableCode = none := by
    unfold tableOf
    split <;> first | rfl | omega
  simp [loadDecision, this]

section
variable {ts : TableStore} {a : LoadArgs} {t : TableId}

theorem loadDecision_misfit (code : a.tableCode = t.code) (h : a.Misfits t) : loadDecision ts a = (.badArgument, none) := by
  simp only [LoadArgs.Misfits, ← two_pow_le_iff_testBit] at h
  simp only [loadDecision, code, tableOf_code]
  split
  · rfl
  · split
    · rfl
    · rw [if_pos (by tauto)]

/-- A header that fits: decided by the mask, the armed mark and a copy in flight, in that order (R11). -/
theorem loadDecision_fit (code : a.tableCode = t.code) (h : ¬a.Misfits t) : loadDecision ts a =
    if a.mask = 0 then (.done, none) else if ts.armed then (.bankArmed, none) else if ts.copying then (.busy, none)
    else (.done, some t) := by
  simp only [LoadArgs.Misfits, ← two_pow_le_iff_testBit, not_or] at h
  obtain ⟨few, many, length, mask, row⟩ := h
  simp only [loadDecision, code, tableOf_code]
  rw [if_neg (by tauto), if_neg mask, if_neg row]

end

section
variable {s : State} {f : DownFrame} {rest : List DownFrame} {st : Status}

/-- A LOAD that writes nothing answers its status (R11). -/
theorem exec_load_unwritten (h : s.Takes f rest) (hk : f.kind = .load)
    (hd : loadDecision s.tables (loadArgsOf f.body) = (st, none)) : exec .load s = .next (s.answered f rest st) := by
  have hd' : loadDecision (s.taking rest).tables (loadArgsOf f.body) = (st, none) := hd
  simp only [exec, execLoad, h.takeKind hk, loadTaken, hd', State.taking_reply h.between]

/-- A LOAD that writes has its rows in the pending bank (R12, R13). -/
theorem exec_load_written (h : s.Takes f rest) (hk : f.kind = .load) {t : TableId}
    (hd : loadDecision s.tables (loadArgsOf f.body) = (st, some t)) : exec .load s = .next (State.answered f rest st
      { s with tables := { s.tables with prep := s.tables.prep.loadRows t (loadArgsOf f.body) } }) := by
  have hd' : loadDecision (s.taking rest).tables (loadArgsOf f.body) = (st, some t) := hd
  rw [← State.taking_tables_reply h.between]
  simp only [exec, execLoad, h.takeKind hk, loadTaken, hd']
  rfl

end

/-- Settles O39: a LOAD by its decision, each field of a written row by the merge, each field of a row body by its place. -/
theorem loadDecided : Obligations.LoadDecided := by
  refine ⟨fun s f rest h hk => ⟨fun code => ?_, fun t code => ⟨fun bad => ?_, fun fit mask => ?_, fun fit mask armed => ?_,
    fun fit mask armed copying => ?_, fun fit mask armed copying => ?_⟩⟩, fun b t mask i old a n hold => ⟨?_, ?_⟩,
    fun t a n => ?_⟩
  · exact exec_load_unwritten h hk (loadDecision_no_table code)
  · exact exec_load_unwritten h hk (loadDecision_misfit code bad)
  · exact exec_load_unwritten h hk (by rw [loadDecision_fit code fit, if_pos mask])
  · exact exec_load_unwritten h hk (by rw [loadDecision_fit code fit, if_neg mask, if_pos armed])
  · exact exec_load_unwritten h hk (by rw [loadDecision_fit code fit]; simp [mask, armed, copying])
  · exact exec_load_written h hk (by rw [loadDecision_fit code fit]; simp [mask, armed, copying])
  · have kind := Bank.row_table hold
    refine ⟨_, Bank.row_writeMasked_same hold mask _, rfl, fun k hk => ?_⟩
    exact mergeRow_field (kind.trans (a.row_table t n).symm) (kind.symm ▸ hk)
  · exact fun v j hv => Bank.row_writeMasked_other hold mask _ hv
  · have fields := rowOfBody_field t ((a.bodies.drop (n * t.rowSize)).take t.rowSize)
    obtain ⟨count, size⟩ := t.places_fill
    cases t <;> exact ⟨count, size, fields⟩

/-! ## Copying (R15 to R17) -/

theorem TableStore.copying_eq_false {ts : TableStore} : ts.copying = false ↔ ts.copyPos = none := by
  simp [TableStore.copying]

/-- A copy's positions below 361 name rows, no other position does. -/
theorem copyRowAt_isSome_iff (pos : Nat) : (copyRowAt pos).isSome = true ↔ pos < copyRows := by
  unfold copyRowAt copyRows
  (repeat' split) <;> simp <;> omega

/-- A position names a row that its table has. -/
theorem copyRowAt_lt_rows {pos i : Nat} {t : TableId} (h : copyRowAt pos = some (t, i)) : i < t.rows := by
  unfold copyRowAt at h
  (repeat' split at h) <;> cases h <;> simp only [TableId.rows] <;> omega

/-- The position of a table's row 0 (R16). -/
def TableId.copyStart : TableId → Nat
  | .line => 0
  | .stations => 1
  | .bands => 65
  | .timebands => 81
  | .products => 89
  | .concessions => 345

/-- Every row of every table has its position. -/
theorem copyRowAt_copyStart {t : TableId} {i : Nat} (h : i < t.rows) : copyRowAt (t.copyStart + i) = some (t, i) := by
  cases t <;> simp only [TableId.rows] at h <;> 
    simp (disch := omega) only [TableId.copyStart, copyRowAt, if_pos, if_neg, Nat.add_sub_cancel_left, Nat.zero_add]

/-- A row copied whole is the source's. -/
theorem row_copyWhole_same (src dst : Bank) {t : TableId} {i : Nat} (h : i < t.rows) :
    (copyWhole src dst t i).row t i = src.row t i := by
  obtain ⟨r, hr⟩ := Option.isSome_iff_exists.1 ((src.row_isSome_iff t i).2 h)
  simp only [copyWhole, hr]
  exact dst.row_setRow_same h (Bank.row_table hr)

/-- Copying a row changes no other. -/
theorem row_copyWhole_other (src dst : Bank) {t v : TableId} {i j : Nat} (h : (v, j) ≠ (t, i)) :
    (copyWhole src dst t i).row v j = dst.row v j := by
  unfold copyWhole
  split
  · exact dst.row_setRow_other _ h
  · rfl

/-- A step of a copy in flight. -/
theorem copyOneRow_at {ts : TableStore} {pos : Nat} {t : TableId} {i : Nat} (h : ts.copyPos = some pos)
    (hrow : copyRowAt pos = some (t, i)) :
    copyOneRow ts = { ts with prep := copyWhole ts.active ts.prep t i, copyPos := some (pos + 1) } := by
  simp [copyOneRow, h, hrow]

/-- With no copy in flight a table store meets the law of a copy. -/
theorem TableStore.copyLaw_of_idle {ts : TableStore} (h : ts.copyPos = none) : ts.CopyLaw where
  apart _ := TableStore.copying_eq_false.2 h
  within pos hpos := by simp [h] at hpos
  copied pos n hpos := by simp [h] at hpos

/-- A row's copy keeps the law: the rows before the new position are those before the old one and the row copied now. -/
theorem TableStore.CopyLaw.copyOneRow {ts : TableStore} (law : ts.CopyLaw) : (copyOneRow ts).CopyLaw := by
  cases hpos : ts.copyPos with
  | none => rwa [copyOneRow_idle (TableStore.copying_eq_false.2 hpos)]
  | some pos =>
    cases hrow : copyRowAt pos with
    | none => simpa [Machine.copyOneRow, hpos, hrow] using law
    | some row =>
      obtain ⟨t, i⟩ := row
      have bound : pos < copyRows := (copyRowAt_isSome_iff pos).1 (hrow ▸ rfl)
      rw [copyOneRow_at hpos hrow]
      refine ⟨fun armed => ?_, fun p hp => ?_, fun p n hp hn v j hvj => ?_⟩
      · exact absurd (TableStore.copying_eq_false.1 (law.apart armed)) (by simp [hpos])
      · cases hp; exact bound
      · cases hp
        by_cases same : (v, j) = (t, i)
        · cases same; exact row_copyWhole_same _ _ (copyRowAt_lt_rows hrow)
        · rw [row_copyWhole_other _ _ same]
          have before : n ≠ pos := fun e => same (Option.some.inj (hvj.symm.trans (e ▸ hrow)))
          exact law.copied pos n hpos (by omega) v j hvj

/-- Every step keeps the law of a copy. -/
theorem TableStore.Step.copyLaw {c : Instr} {ts u : TableStore} (h : TableStore.Step c ts u) (law : ts.CopyLaw) :
    u.CopyLaw := by
  have apart := h.armed_apart law.apart
  rcases h with rfl | ⟨-, rfl⟩ | rfl | rfl | ⟨-, idle, rfl | ⟨g, rfl⟩ | ⟨b, rfl⟩⟩ | ⟨armed, rfl⟩
  · exact law
  · exact law.copyOneRow
  · exact TableStore.copyLaw_of_idle rfl
  · exact ⟨apart, law.within, law.copied⟩
  · refine ⟨apart, fun pos hpos => ?_, fun pos n hpos hn => ?_⟩ <;> cases hpos
    · exact Nat.zero_le _
    · exact absurd hn (Nat.not_lt_zero n)
  · exact TableStore.copyLaw_of_idle (TableStore.copying_eq_false.1 idle)
  · exact TableStore.copyLaw_of_idle (TableStore.copying_eq_false.1 idle)
  · exact TableStore.copyLaw_of_idle (TableStore.copying_eq_false.1 (law.apart armed))

/-- At its end a copy has made the pending bank equal to the active one (R17). -/
theorem TableStore.CopyLaw.prep_eq_active {ts : TableStore} (law : ts.CopyLaw) (h : ts.copyPos = some copyRows) :
    ts.prep = ts.active := by
  apply Bank.ext_row
  intro t i
  by_cases hi : i < t.rows
  · have hrow := copyRowAt_copyStart hi
    exact law.copied _ _ h ((copyRowAt_isSome_iff _).1 (hrow ▸ rfl)) t i hrow
  · have absent : ∀ b : Bank, b.row t i = none := fun b =>
      Option.not_isSome_iff_eq_none.1 fun some => hi ((b.row_isSome_iff t i).1 some)
    rw [absent, absent]

/-- No copy runs while the pending bank is armed, so a bank with a copy in flight is not armed. -/
theorem TableStore.CopyLaw.unarmed {ts : TableStore} (law : ts.CopyLaw) {pos : Nat} (h : ts.copyPos = some pos) :
    ts.armed = false := by
  by_contra armed
  have idle := TableStore.copying_eq_false.1 (law.apart (by simpa using armed))
  simp [h] at idle

section
variable {s : State} {f : DownFrame} {rest : List DownFrame}

/-- A COPY_ACTIVE that can be taken (R15, R180). -/
theorem exec_copyActive_taken {args : List Byte} (h : s.Takes f rest) (hc : f.IsCommand .copyActive args) :
    exec .copyActive s = .next (if s.tables.armed then s.answered f rest .bankArmed
      else if s.tables.copying then s.answered f rest .busy
      else { s with
        tables := { s.tables with copyPos := some 0 }
        lli := { s.lli with receive := rest, copyReserve := some f.request } }) := by
  have taken : exec .copyActive s = .next (copyActiveTaken f (s.taking rest)) := by
    simp only [exec, execCopyActive, h.takeCommand hc]
  have held : { s.lli with receive := rest, copyReserve := some f.request } =
      { s.lli with receive := rest, copyReserve := some f.request, replyHeld := false } := by rw [← h.between]
  rw [taken, held, ← State.taking_reply h.between, ← State.taking_reply h.between]
  rfl

/-- The end of a copy whose position has passed the last row (R17). -/
theorem exec_copyComplete_end (h : s.tables.copyPos = some copyRows) : exec .copyComplete s =
    .next (State.copyReply .done { s with tables := { s.tables with copyPos := none } }) := by
  have atEnd : s.tables.copyAtEnd = true := by simp only [TableStore.copyAtEnd, h]; rfl
  exact if_pos atEnd

end

/-- The REPLY of a copy stands in the place held for it (R180). -/
theorem State.copyReply_eq {s : State} {request : BitVec 16} (h : s.lli.copyReserve = some request) (st : Status) :
    s.copyReply st = { s with lli := LineLink.startSending { s.lli with
      copyReserve := none, urgent := s.lli.urgent ++ [.reply request (.command 9) st none none] } } := by
  simp only [State.copyReply, h]
  rfl

/-- One row copied by a COPY_ROW, and nothing else changed but the position. -/
theorem exec_copyRow_at {s : State} {pos : Nat} {t : TableId} {i : Nat} (h : s.tables.copyPos = some pos)
    (hrow : copyRowAt pos = some (t, i)) : exec .copyRow s = .next { s with tables := { s.tables with
      prep := copyWhole s.tables.active s.tables.prep t i, copyPos := some (pos + 1) } } := by
  rw [← copyOneRow_at h hrow]
  rfl

theorem State.agreeOutside_withTables (s : State) (ts : TableStore) :
    State.AgreeOutside [.tables] s { s with tables := ts } := by
  intro q hq
  cases q <;> first | rfl | exact absurd (List.mem_singleton.2 rfl) hq

/-- Settles O42: a copy from its start to its end, and the law of a copy kept by every step (`exec_tables`). -/
theorem copyRuns : Obligations.CopyRuns := by
  refine ⟨fun s f rest h hc => ?_, fun s pos hpos bound => ?_, fun s request hpos reserve => ?_, fun c s u law h => ?_,
    fun s law hpos => ?_⟩
  · rw [exec_copyActive_taken h hc]
    refine ⟨fun armed => ?_, fun unarmed copying => ?_, fun unarmed idle => ?_⟩
    · rw [if_pos armed]
    · rw [if_neg (by simp [unarmed]), if_pos copying]
    · rw [if_neg (by simp [unarmed]), if_neg (by simp [idle])]
  · obtain ⟨⟨t, i⟩, hrow⟩ := Option.isSome_iff_exists.1 ((copyRowAt_isSome_iff pos).2 bound)
    have hi := copyRowAt_lt_rows hrow
    obtain ⟨r, hr⟩ := Option.isSome_iff_exists.1 ((s.tables.active.row_isSome_iff t i).2 hi)
    exact ⟨t, i, r, _, hrow, hr, exec_copyRow_at hpos hrow, s.agreeOutside_withTables _, rfl,
      (row_copyWhole_same _ _ hi).trans hr, fun v j hv => row_copyWhole_other _ _ hv⟩
  · rw [exec_copyComplete_end hpos]
    exact congrArg _ (State.copyReply_eq (s := { s with tables := { s.tables with copyPos := none } }) reserve .done)
  · by_cases hc : c = .powerOnReset
    · subst hc; rw [exec_powerOnReset h]; exact TableStore.copyLaw_of_idle rfl
    · exact (exec_tables c s u hc h).copyLaw law
  · refine ⟨_, exec_copyComplete_end hpos, ?_⟩
    rw [State.copyReply_tables]
    exact ⟨rfl, rfl, law.prep_eq_active hpos, law.unarmed hpos⟩

/-! ## POWER_ON_RESET -/

theorem JourneyTable.reset_bucket (r : BucketRef) : JourneyTable.reset.bucket r = Bucket.empty := by cases r <;> rfl

theorem State.reset_port (p : PortId) : State.reset.port p = Port.reset := by
  simp [State.port, State.reset]

theorem ReferralTable.reset_entry (i : Fin 256) : ReferralTable.reset.entry i = RefEntry.cleared 0 := by
  simp [ReferralTable.entry, ReferralTable.reset]

theorem Counters.zero_get (i : Fin 117) : Counters.zero[i] = 0 := by simp [Counters.zero]

theorem Counters.zero_value (c : CounterId) : Counters.zero.value c = 0 := Counters.zero_get c.index

theorem State.reset_portReservation : State.reset.portReservation = 0 := by
  simp [State.portReservation, State.reset, Port.reserved, Port.inReservation, Port.reset]

theorem ReferralTable.reset_freeList : ReferralTable.reset.freeList = List.finRange 256 := by simp only [ReferralTable.reset]

/-- Settles O3: each block at the value that its own reset names. -/
theorem powerOnValues : Obligations.PowerOnValues := by
  intro s
  refine ⟨_, rfl, rfl, fun p => State.reset_port p, rfl, rfl, rfl, rfl, rfl, rfl, rfl,
    fun n => ⟨JourneyTable.reset_bucket (.home n), JourneyTable.reset_bucket (.ext n)⟩, rfl, rfl, rfl, rfl, fun v => ?_, rfl,
    State.reset_portReservation, rfl, rfl, rfl, fun i => ?_, ReferralTable.reset_freeList, rfl, rfl, rfl, rfl, rfl, rfl, rfl,
    rfl, rfl, rfl, rfl, rfl, rfl, rfl, rfl, rfl, rfl, fun i => ⟨Counters.zero_get i, Counters.zero_get i⟩⟩
  · cases v <;> rfl
  · change (ReferralTable.reset.entry i).state = _ ∧ (ReferralTable.reset.entry i).useCount = _ ∧
      (ReferralTable.reset.entry i).answer = _ ∧ (ReferralTable.reset.entry i).due = _ ∧
      (ReferralTable.reset.entry i).work = _
    rw [ReferralTable.reset_entry]
    exact ⟨rfl, rfl, rfl, rfl, rfl⟩

theorem JourneyTable.reset_all : JourneyTable.reset.all = [] := rfl

theorem JourneyTable.reset_linked : JourneyTable.reset.linked = [] := rfl

theorem JourneyTable.reset_sound : JourneyTable.reset.Sound where
  extensions := by
    rw [JourneyTable.reset_linked, List.append_nil, List.range_eq_range']
    exact List.Perm.refl _
  free n _ := JourneyTable.reset_bucket (.ext n)
  used n hn := by simp [JourneyTable.reset_linked] at hn
  short h := by rw [JourneyTable.reset_bucket]; rfl
  found r hr := by simp [JourneyTable.reset_all] at hr
  once := by simp [JourneyTable.reset_all]
  counted := rfl

theorem State.reset_creditLaw : State.reset.CreditLaw := by
  intro p
  rw [State.reset_port]
  exact ⟨by decide, rfl⟩

theorem State.reset_closingLaw : State.reset.ClosingLaw where
  bare r hr := by cases hr
  oldDay r hr := by cases hr
  counted := rfl
  days h := by cases h
  ended _ := rfl

theorem State.reset_workInUse : State.reset.workInUse = [] := rfl

theorem State.reset_tapsInside : State.reset.tapsInside = 0 := by
  rw [State.tapsInside, State.reset_workInUse]
  simp [State.reset, Port.reset]

theorem State.reset_slotLaw : State.reset.SlotLaw where
  within := by decide
  taps := rfl
  nonTaps := rfl
  waiting e he := by simp [State.reset_workInUse] at he
  heldWork e a h := by cases h
  inside := by rw [State.reset_tapsInside]; exact Nat.zero_le _

/-- Settles O4: no record, no work, no copy in flight and no tap taken. -/
theorem resetMeetsBounds : Obligations.ResetMeetsBounds := by
  refine ⟨Nat.zero_le _, ⟨rfl, by decide, by decide, by decide⟩, fun i => ?_, JourneyTable.reset_wf, State.reset_creditLaw,
    ⟨fun e he => ?_, fun e he => ?_⟩, JourneyTable.reset_sound, State.reset_closingLaw, List.Perm.refl _,
    State.reset_slotLaw, TableStore.copyLaw_of_idle rfl⟩
  · rw [show State.reset.counters[i] = 0 from Counters.zero_get i]; exact Nat.zero_le _
  · cases he
  · cases he

/-! ## A line link that goes on sending -/

/-- One line link is another some frames later: what is sent, heard and kept is the same, frames stand behind those queued, and a
transmission goes on as it was. -/
structure LineLink.GoesOn (l m : LineLink) : Prop where
  receive : m.receive = l.receive
  carrier : m.carrier = l.carrier
  server : m.server = l.server
  snapshot : m.snapshot = l.snapshot
  disposition : m.disposition = l.disposition
  urgent : l.urgent <+: m.urgent
  bulk : l.bulk <+: m.bulk
  sending : ∀ q, l.transmitting = some q → m.transmitting = some q ∧ m.urgentTo = l.urgentTo ∧ m.bulkTo = l.bulkTo

theorem LineLink.GoesOn.refl (l : LineLink) : l.GoesOn l :=
  ⟨rfl, rfl, rfl, rfl, rfl, List.prefix_rfl, List.prefix_rfl, fun _ h => ⟨h, rfl, rfl⟩⟩

theorem LineLink.GoesOn.trans {l m n : LineLink} (h : l.GoesOn m) (k : m.GoesOn n) : l.GoesOn n where
  receive := k.receive.trans h.receive
  carrier := k.carrier.trans h.carrier
  server := k.server.trans h.server
  snapshot := k.snapshot.trans h.snapshot
  disposition := k.disposition.trans h.disposition
  urgent := h.urgent.trans k.urgent
  bulk := h.bulk.trans k.bulk
  sending q hq := by
    obtain ⟨hm, hu, hb⟩ := h.sending q hq
    obtain ⟨km, ku, kb⟩ := k.sending q hm
    exact ⟨km, ku.trans hu, kb.trans hb⟩

theorem LineLink.goesOn_startSending (l : LineLink) : l.GoesOn l.startSending where
  receive := l.startSending_receive
  carrier := l.startSending_carrier
  server := l.startSending_server
  snapshot := l.startSending_snapshot
  disposition := l.startSending_disposition
  urgent := by rw [LineLink.startSending_urgent]
  bulk := by rw [LineLink.startSending_bulk]
  sending q hq := by simp [LineLink.startSending, hq]

/-- The first frame of a queue stays first. -/
theorem head?_of_isPrefix {α : Type} {l m : List α} (h : l <+: m) {a : α} (ha : l.head? = some a) :
    m.head? = some a := by
  obtain ⟨t, rfl⟩ := h
  rw [List.head?_append, ha]
  rfl

/-- The bytes in transmission stay on the wire (R182, R192). -/
theorem LineLink.GoesOn.wire {l m : LineLink} (h : l.GoesOn m) {bytes : List Byte} (hw : l.wire = some bytes) :
    m.wire = some bytes := by
  unfold LineLink.wire at hw ⊢
  split at hw
  next sending =>
    obtain ⟨hm, hu, -⟩ := h.sending _ sending
    obtain ⟨d, hd, hw⟩ := Option.bind_eq_some_iff.1 hw
    obtain ⟨f, hf, rfl⟩ := Option.map_eq_some_iff.1 hw
    simp [hm, hu, hd, head?_of_isPrefix h.urgent hf]
  next sending =>
    obtain ⟨hm, -, hb⟩ := h.sending _ sending
    obtain ⟨d, hd, hw⟩ := Option.bind_eq_some_iff.1 hw
    obtain ⟨f, hf, rfl⟩ := Option.map_eq_some_iff.1 hw
    simp [hm, hb, hd, head?_of_isPrefix h.bulk hf]
  next => cases hw

/-! ## The DETACH_DONE notices of an ENGINE_RESET (R38, R39, R43) -/

/-- The queue of an attention class. -/
def LineLink.queue (l : LineLink) : AttnClass → List UpFrame
  | .urgent => l.urgent
  | .routine => l.bulk

/-- How many free places that queue has (R177). -/
def LineLink.room (l : LineLink) : AttnClass → Nat
  | .urgent => Config.urgentPlaces - l.urgentUsed
  | .routine => Config.bulkPlaces - l.bulk.length

theorem LineLink.hasPlaceFor_iff (l : LineLink) (c : AttnClass) : l.hasPlaceFor c = true ↔ 0 < l.room c := by
  cases c <;> simp [LineLink.hasPlaceFor, LineLink.urgentHasPlace, LineLink.bulkHasPlace, LineLink.room]

/-- The DETACH_DONE notice of a port whose attention set an ENGINE_RESET has emptied. -/
def detachNotice (p : PortId) : UpFrame := .portNotice p .detachDone .nothing AttnKind.detachDone.only

/-- Whether the completion of a port's detach makes a notice (R38). -/
def Port.noticesDetach (q : Port) : Bool := q.st == .detaching && !q.mask.has .detachDone

/-- A frame placed in the queue of a class. -/
def LineLink.push (f : UpFrame) (l : LineLink) : AttnClass → LineLink
  | .urgent => LineLink.startSending { l with urgent := l.urgent ++ [f] }
  | .routine => LineLink.startSending { l with bulk := l.bulk ++ [f] }

/-- What the end of a port's reset does to the line link: its DETACH_DONE notice, if it makes one, placed or owed (R38, R39,
R43). -/
def LineLink.afterReset (q : Port) (p : PortId) (l : LineLink) : LineLink :=
  if q.noticesDetach = true then
    if 0 < l.room q.cls then l.push (detachNotice p) q.cls
    else { l with owed := l.owed ++ [⟨p, .detachDone, .nothing⟩] }
  else l

section
variable (l : LineLink) (f : UpFrame) (c : AttnClass)

theorem LineLink.goesOn_push : l.GoesOn (l.push f c) := by
  cases c
  case routine =>
    have queued : l.GoesOn { l with bulk := l.bulk ++ [f] } := { LineLink.GoesOn.refl l with bulk := List.prefix_append _ _ }
    exact queued.trans (LineLink.goesOn_startSending _)
  case urgent =>
    have queued : l.GoesOn { l with urgent := l.urgent ++ [f] } :=
      { LineLink.GoesOn.refl l with urgent := List.prefix_append _ _ }
    exact queued.trans (LineLink.goesOn_startSending _)

@[simp] theorem LineLink.push_owed : (l.push f c).owed = l.owed := by cases c <;> simp [LineLink.push]
@[simp] theorem LineLink.push_selected : (l.push f c).selected = l.selected := by cases c <;> simp [LineLink.push]
@[simp] theorem LineLink.push_copyReserve : (l.push f c).copyReserve = l.copyReserve := by
  cases c <;> simp [LineLink.push]

@[simp] theorem LineLink.push_queue (d : AttnClass) :
    (l.push f c).queue d = if d = c then l.queue d ++ [f] else l.queue d := by
  cases c <;> cases d <;> simp [LineLink.push, LineLink.queue]

@[simp] theorem LineLink.push_room (d : AttnClass) : (l.push f c).room d = if d = c then l.room d - 1 else l.room d := by
  cases c <;> cases d <;> simp [LineLink.push, LineLink.room, LineLink.urgentUsed] <;> omega

end

/-- A fact of a state that no step changes, no run of steps changes. -/
theorem foldl_keeps {σ α β : Type} {f : σ → α → σ} (get : σ → β) (h : ∀ s a, get (f s a) = get s) (l : List α) (s : σ) :
    get (l.foldl f s) = get s := by
  induction l generalizing s with
  | nil => rfl
  | cons a l ih => rw [List.foldl_cons, ih, h]

section
variable (g : PortId → Port)

/-- The ports of a list that make a notice in the queue of a class, in the list's order. -/
def detachNoticed (ps : List PortId) (c : AttnClass) : List PortId :=
  ps.filter fun p => (g p).noticesDetach && (g p).cls == c

/-- Those of them whose notice finds a place, of so many. -/
def detachPlaced (room : AttnClass → Nat) (ps : List PortId) (c : AttnClass) : List PortId :=
  (detachNoticed g ps c).take (room c)

/-- The ports of a list whose notice is owed. -/
def detachOwed (room : AttnClass → Nat) (ps : List PortId) : List PortId :=
  ps.filter fun p => (g p).noticesDetach && !(detachPlaced g room ps (g p).cls).contains p

/-- The line link after the reset of a list of ports. -/
def LineLink.afterResets (ps : List PortId) (l : LineLink) : LineLink := ps.foldl (fun l p => l.afterReset (g p) p) l

theorem LineLink.afterReset_goesOn (q : Port) (p : PortId) (l : LineLink) : l.GoesOn (l.afterReset q p) := by
  unfold LineLink.afterReset
  split
  · split
    · exact l.goesOn_push _ _
    · exact { LineLink.GoesOn.refl l with }
  · exact .refl l

theorem LineLink.afterResets_goesOn (ps : List PortId) (l : LineLink) : l.GoesOn (l.afterResets g ps) := by
  induction ps generalizing l with
  | nil => exact .refl l
  | cons p ps ih => exact (l.afterReset_goesOn (g p) p).trans (ih _)

theorem LineLink.afterReset_selected (q : Port) (p : PortId) (l : LineLink) : (l.afterReset q p).selected = l.selected := by
  unfold LineLink.afterReset; (repeat' split) <;> simp

theorem LineLink.afterReset_copyReserve (q : Port) (p : PortId) (l : LineLink) :
    (l.afterReset q p).copyReserve = l.copyReserve := by
  unfold LineLink.afterReset; (repeat' split) <;> simp

theorem LineLink.afterResets_selected (ps : List PortId) (l : LineLink) : (l.afterResets g ps).selected = l.selected :=
  foldl_keeps LineLink.selected (fun l p => l.afterReset_selected (g p) p) ps l

theorem LineLink.afterResets_copyReserve (ps : List PortId) (l : LineLink) :
    (l.afterResets g ps).copyReserve = l.copyReserve :=
  foldl_keeps LineLink.copyReserve (fun l p => l.afterReset_copyReserve (g p) p) ps l

/-- Whether the end of a port's reset puts a notice in the queue of a class. -/
abbrev LineLink.Notices (l : LineLink) (q : Port) (c : AttnClass) : Prop :=
  q.noticesDetach = true ∧ q.cls = c ∧ 0 < l.room c

theorem LineLink.afterReset_of_notices {q : Port} {l : LineLink} {c : AttnClass} (h : l.Notices q c) (p : PortId) :
    l.afterReset q p = l.push (detachNotice p) c := by
  obtain ⟨notices, rfl, room⟩ := h
  rw [LineLink.afterReset, if_pos notices, if_pos room]

/-- A port that puts no notice in a class's queue leaves that queue and its places alone. -/
theorem LineLink.afterReset_of_not_notices {q : Port} {l : LineLink} {c : AttnClass} (h : ¬l.Notices q c) (p : PortId) :
    (l.afterReset q p).queue c = l.queue c ∧ (l.afterReset q p).room c = l.room c := by
  unfold LineLink.afterReset
  split
  next notices =>
    split
    next room =>
      have other : c ≠ q.cls := fun e => h ⟨notices, e.symm, e ▸ room⟩
      simp [other]
    next => cases c <;> exact ⟨rfl, rfl⟩
  next => exact ⟨rfl, rfl⟩

theorem LineLink.afterReset_queue (q : Port) (p : PortId) (l : LineLink) (c : AttnClass) :
    (l.afterReset q p).queue c = l.queue c ++ if l.Notices q c then [detachNotice p] else [] := by
  by_cases h : l.Notices q c
  · rw [if_pos h, LineLink.afterReset_of_notices h, LineLink.push_queue, if_pos rfl]
  · rw [if_neg h, (LineLink.afterReset_of_not_notices h p).1, List.append_nil]

theorem LineLink.afterReset_room (q : Port) (p : PortId) (l : LineLink) (c : AttnClass) :
    (l.afterReset q p).room c = l.room c - if l.Notices q c then 1 else 0 := by
  by_cases h : l.Notices q c
  · rw [if_pos h, LineLink.afterReset_of_notices h, LineLink.push_room, if_pos rfl]
  · rw [if_neg h, (LineLink.afterReset_of_not_notices h p).2, Nat.sub_zero]

theorem LineLink.afterReset_owed (q : Port) (p : PortId) (l : LineLink) : (l.afterReset q p).owed =
    l.owed ++ if q.noticesDetach = true ∧ l.room q.cls = 0 then [⟨p, .detachDone, .nothing⟩] else [] := by
  unfold LineLink.afterReset
  split
  next notices =>
    split
    next room => simp [room.ne']
    next room => simp [notices, Nat.eq_zero_of_not_pos room]
  next silent => simp [silent]

theorem detachPlaced_cons (p : PortId) (ps : List PortId) (l : LineLink) (c : AttnClass) :
    detachPlaced g l.room (p :: ps) c =
      (if l.Notices (g p) c then [p] else []) ++ detachPlaced g (l.afterReset (g p) p).room ps c := by
  simp only [detachPlaced, detachNoticed, List.filter_cons, LineLink.afterReset_room, Bool.and_eq_true, beq_iff_eq]
  by_cases h : l.Notices (g p) c
  · obtain ⟨room, hroom⟩ : ∃ n, l.room c = n + 1 := Nat.exists_eq_succ_of_ne_zero h.2.2.ne'
    rw [if_pos h, if_pos h, if_pos ⟨h.1, h.2.1⟩, hroom]
    rfl
  · rw [if_neg h, if_neg h, Nat.sub_zero, List.nil_append]
    split
    next mine =>
      have full : l.room c = 0 := Nat.eq_zero_of_not_pos fun room => h ⟨mine.1, mine.2, room⟩
      simp [full]
    next => rfl

theorem mem_of_mem_detachPlaced {room : AttnClass → Nat} {ps : List PortId} {c : AttnClass} {p : PortId}
    (h : p ∈ detachPlaced g room ps c) : p ∈ ps ∧ (g p).noticesDetach = true ∧ (g p).cls = c := by
  simpa [detachNoticed] using List.mem_of_mem_take h

theorem detachOwed_cons {p : PortId} {ps : List PortId} (hp : p ∉ ps) (l : LineLink) :
    detachOwed g l.room (p :: ps) =
      (if (g p).noticesDetach = true ∧ l.room (g p).cls = 0 then [p] else []) ++
        detachOwed g (l.afterReset (g p) p).room ps := by
  have later : ∀ r ∈ ps, (detachPlaced g l.room (p :: ps) (g r).cls).contains r =
      (detachPlaced g (l.afterReset (g p) p).room ps (g r).cls).contains r := by
    intro r hr
    have other : r ≠ p := fun e => hp (e ▸ hr)
    rw [detachPlaced_cons]
    split <;> simp [other]
  have now : (detachPlaced g l.room (p :: ps) (g p).cls).contains p = decide (l.Notices (g p) (g p).cls) := by
    have absent : p ∉ detachPlaced g (l.afterReset (g p) p).room ps (g p).cls := fun h => hp (mem_of_mem_detachPlaced g h).1
    rw [detachPlaced_cons]
    split <;> simp [*]
  have owes : ((g p).noticesDetach && !decide (l.Notices (g p) (g p).cls)) = true ↔
      (g p).noticesDetach = true ∧ l.room (g p).cls = 0 := by
    simp +contextual [LineLink.Notices]
  rw [detachOwed, List.filter_cons, now, List.filter_congr fun r hr => by rw [later r hr], ← detachOwed]
  simp only [owes]
  split <;> rfl

/-- As many notices of a class as its queue has places for stand behind the frames queued, in the list's order. -/
theorem LineLink.afterResets_queue (c : AttnClass) (ps : List PortId) (l : LineLink) :
    (l.afterResets g ps).queue c = l.queue c ++ (detachPlaced g l.room ps c).map detachNotice := by
  induction ps generalizing l with
  | nil => simp [LineLink.afterResets, detachPlaced, detachNoticed]
  | cons p ps ih =>
    rw [LineLink.afterResets, List.foldl_cons, ← LineLink.afterResets, ih, LineLink.afterReset_queue, detachPlaced_cons]
    split <;> simp

theorem LineLink.afterResets_urgent (ps : List PortId) (l : LineLink) :
    (l.afterResets g ps).urgent = l.urgent ++ (detachPlaced g l.room ps .urgent).map detachNotice :=
  LineLink.afterResets_queue g .urgent ps l

theorem LineLink.afterResets_bulk (ps : List PortId) (l : LineLink) :
    (l.afterResets g ps).bulk = l.bulk ++ (detachPlaced g l.room ps .routine).map detachNotice :=
  LineLink.afterResets_queue g .routine ps l

/-- The other notices are owed, in the list's order. -/
theorem LineLink.afterResets_owed {ps : List PortId} (once : ps.Nodup) (l : LineLink) :
    (l.afterResets g ps).owed =
      l.owed ++ (detachOwed g l.room ps).map fun p => ⟨p, .detachDone, .nothing⟩ := by
  induction ps generalizing l with
  | nil => simp [LineLink.afterResets, detachOwed]
  | cons p ps ih =>
    obtain ⟨hp, once⟩ := List.nodup_cons.1 once
    rw [LineLink.afterResets, List.foldl_cons, ← LineLink.afterResets, ih once, LineLink.afterReset_owed,
      detachOwed_cons g hp]
    split <;> simp

end

/-! ## The ports of an ENGINE_RESET (R43) -/

/-- A port at the end of its reset (R43): ATTACHED with carrier it has its CREDIT, DETACHING with no tap outstanding its detach
completes. -/
def Port.afterReset (p : PortId) (q : Port) : Port :=
  if q.st = .attached ∧ q.carrier = true then q.placeCredit (q.lastTaken + BitVec.ofNat 16 q.creditLimit)
  else if q.st = .detaching ∧ q.outstanding = 0 then
    { q with
      transmit := q.transmit ++ [.detach p], st := .present, tracker := q.tracker.stop
      attention := q.attention ||| AttnKind.detachDone.only }
  else q

theorem State.afterReset_port (s : State) (p : PortId) : (s.afterReset p).port p = (s.port p).afterReset p := by
  simp only [State.afterReset, Port.afterReset, State.completeDetachIfDone]
  split
  · exact s.setPort_port p _
  · split
    · exact s.completeDetach_port p
    · rfl

theorem State.afterReset_others (s : State) (p : PortId) : s.OtherPortsKept p (s.afterReset p) := by
  simp only [State.afterReset, State.completeDetachIfDone]
  split
  · exact (State.otherPortsKept_refl p s).setPort _
  · split
    · exact (State.otherPortsKept_refl p s).completeDetach
    · exact State.otherPortsKept_refl p s

/-- Latching a kind where none is latched. -/
theorem AttnSet.zero_or_only (k : AttnKind) : (0 : AttnSet) ||| k.only = k.only := BitVec.zero_or

/-- An attention event of a port with nothing latched: no notice where it is masked, else one placed or owed (R38, R39). -/
theorem State.raise_lli_unlatched {s : State} {p : PortId} (h : (s.port p).attention = 0) (k : AttnKind) (d : AttnDetail) :
    (s.raise p k d).lli =
      if (s.port p).mask.has k = true then s.lli
      else if 0 < s.lli.room (s.port p).cls then s.lli.push (.portNotice p k d k.only) (s.port p).cls
      else { s.lli with owed := s.lli.owed ++ [⟨p, k, d⟩] } := by
  have unlatched : AttnSet.has 0 k = false := by simp [AttnSet.has]
  simp only [State.raise, h, unlatched, AttnSet.zero_or_only, State.setPort_lli, ← LineLink.hasPlaceFor_iff, Bool.false_eq_true,
    if_false]
  split
  · rfl
  · split
    · cases (s.port p).cls <;> rfl
    · rfl

/-- A port as the reset leaves it before its CREDIT or its detach completion: no tap outstanding, no attention latched (R43). -/
def Port.Cleared (q : Port) : Prop := q.outstanding = 0 ∧ q.attention = 0

theorem Port.engineReset_cleared (q : Port) : q.engineReset.Cleared := ⟨rfl, rfl⟩

theorem State.afterReset_lli {s : State} {p : PortId} (h : (s.port p).Cleared) :
    (s.afterReset p).lli = s.lli.afterReset (s.port p) p := by
  obtain ⟨outstanding, attention⟩ := h
  simp only [State.afterReset, State.completeDetachIfDone, LineLink.afterReset, Port.noticesDetach]
  split
  next attached => simp [attached.1]
  next =>
    by_cases st : (s.port p).st = .detaching
    · rw [if_pos ⟨st, outstanding⟩, s.completeDetach_lli, State.raise_lli_unlatched attention]
      by_cases mask : (s.port p).mask.has .detachDone = true <;> simp [st, mask, detachNotice]
    · rw [if_neg fun h => st h.1]
      simp [st]

theorem State.resets_port {ps : List PortId} (once : ps.Nodup) (s : State) (r : PortId) :
    (ps.foldl State.afterReset s).port r = if r ∈ ps then (s.port r).afterReset r else s.port r := by
  induction ps generalizing s with
  | nil => rfl
  | cons p ps ih =>
    obtain ⟨hp, once⟩ := List.nodup_cons.1 once
    rw [List.foldl_cons, ih once]
    by_cases same : r = p
    · subst same; rw [if_neg hp, s.afterReset_port, if_pos (by simp)]
    · rw [s.afterReset_others p r same]
      simp [same]

theorem State.resets_lli {ps : List PortId} (once : ps.Nodup) {g : PortId → Port} {s : State}
    (h : ∀ p ∈ ps, s.port p = g p ∧ (g p).Cleared) :
    (ps.foldl State.afterReset s).lli = s.lli.afterResets g ps := by
  induction ps generalizing s with
  | nil => rfl
  | cons p ps ih =>
    obtain ⟨hp, once⟩ := List.nodup_cons.1 once
    obtain ⟨port, cleared⟩ := h p (by simp)
    have rest : ∀ r ∈ ps, (s.afterReset p).port r = g r ∧ (g r).Cleared := fun r hr => by
      rw [s.afterReset_others p r fun e => hp (e ▸ hr)]
      exact h r (by simp [hr])
    rw [List.foldl_cons, ih once rest, State.afterReset_lli (port ▸ cleared), port]
    rfl

/-- A sweep but for its pause. -/
def RollSweep.unpaused (r : RollSweep) : RollSweep := { r with paused := false }

/-- The end of a port's reset changes nothing of the sweep but its pause. -/
theorem State.afterReset_roll (s : State) (p : PortId) : (s.afterReset p).roll.unpaused = s.roll.unpaused := by
  simp only [State.afterReset, State.completeDetachIfDone, State.completeDetach]
  split
  · rfl
  · split
    · rw [State.raise_roll]
      obtain ⟨b, hb⟩ := State.offerSweepIfFell_roll s.reservation
        (s.setPort p { (s.port p).place (.detach p) with st := .present, tracker := (s.port p).tracker.stop })
      rw [hb]
      rfl
    · rfl

/-! ## What an ENGINE_RESET leaves (R184) -/

section
variable (s : State)

theorem State.resetPorts_clock : s.resetPorts.clock = s.clock := foldl_keeps State.clock (fun s p => s.afterReset_clock p) _ s
theorem State.resetPorts_jt : s.resetPorts.jt = s.jt := foldl_keeps State.jt (fun s p => s.afterReset_jt p) _ s
theorem State.resetPorts_pu : s.resetPorts.pu = s.pu := foldl_keeps State.pu (fun s p => s.afterReset_pu p) _ s
theorem State.resetPorts_expiry : s.resetPorts.expiry = s.expiry :=
  foldl_keeps State.expiry (fun s p => s.afterReset_expiry p) _ s
theorem State.resetPorts_pool : s.resetPorts.pool = s.pool := foldl_keeps State.pool (fun s p => s.afterReset_pool p) _ s
theorem State.resetPorts_fu : s.resetPorts.fu = s.fu := foldl_keeps State.fu (fun s p => s.afterReset_fu p) _ s
theorem State.resetPorts_rt : s.resetPorts.rt = s.rt := foldl_keeps State.rt (fun s p => s.afterReset_rt p) _ s
theorem State.resetPorts_counters : s.resetPorts.counters = s.counters :=
  foldl_keeps State.counters (fun s p => s.afterReset_counters p) _ s
theorem State.resetPorts_pending : s.resetPorts.pending = s.pending :=
  foldl_keeps State.pending (fun s p => s.afterReset_pending p) _ s
theorem State.resetPorts_roll : s.resetPorts.roll.unpaused = s.roll.unpaused :=
  foldl_keeps (fun s : State => s.roll.unpaused) State.afterReset_roll _ s

theorem State.resetBlocks_port (p : PortId) : s.resetBlocks.port p = (s.port p).engineReset := by
  simp [State.port, State.resetBlocks]

theorem State.resetPorts_port (p : PortId) : s.resetPorts.port p = (s.port p).afterReset p := by
  rw [State.resetPorts, State.resets_port (List.nodup_finRange 8), if_pos (List.mem_finRange p)]

end

theorem ReferralTable.engineReset_entry (rt : ReferralTable) (i : Fin 256) :
    rt.engineReset.entry i = RefEntry.cleared (rt.entry i).useCount := by
  simp [ReferralTable.entry, ReferralTable.engineReset]

theorem ReferralTable.engineReset_freeList (rt : ReferralTable) : rt.engineReset.freeList = List.finRange 256 := by
  simp only [ReferralTable.engineReset]

/-- A copy's REPLY stands behind the frames queued, in the place that its reserve held (R180); without a copy in flight there is
none. -/
theorem State.copyReply_lli (st : Status) (s : State) :
    (s.copyReply st).lli.urgent =
        s.lli.urgent ++ s.lli.copyReserve.toList.map (fun n => .reply n (.command 9) st none none) ∧
      (s.copyReply st).lli.bulk = s.lli.bulk ∧ (s.copyReply st).lli.urgentUsed = s.lli.urgentUsed ∧
      (s.copyReply st).lli.copyReserve = none ∧ s.lli.GoesOn (s.copyReply st).lli := by
  cases reserve : s.lli.copyReserve with
  | none =>
    have same : s.copyReply st = s := by simp only [State.copyReply, reserve]
    rw [same]
    exact ⟨by simp, rfl, rfl, reserve, .refl _⟩
  | some n =>
    rw [State.copyReply_eq reserve]
    have queued : s.lli.GoesOn { s.lli with
        copyReserve := none, urgent := s.lli.urgent ++ [.reply n (.command 9) st none none] } :=
      { LineLink.GoesOn.refl s.lli with urgent := List.prefix_append _ _ }
    exact ⟨by simp, by simp, by simp [LineLink.urgentUsed, reserve], by simp,
      queued.trans (LineLink.goesOn_startSending _)⟩

/-- The REPLY of a frame being taken stands last in the urgent queue, and no place is held any longer (R179). -/
theorem State.reply_lli (f : DownFrame) (st : Status) (s : State) :
    (s.reply f st).lli = LineLink.startSending { s.lli with
      replyHeld := false, urgent := s.lli.urgent ++ [.reply f.request f.requestKind st none none] } := rfl

theorem State.reply_goesOn (f : DownFrame) (st : Status) (s : State) : s.lli.GoesOn (s.reply f st).lli := by
  have queued : s.lli.GoesOn { s.lli with
      replyHeld := false, urgent := s.lli.urgent ++ [.reply f.request f.requestKind st none none] } :=
    { LineLink.GoesOn.refl s.lli with urgent := List.prefix_append _ _ }
  exact queued.trans (LineLink.goesOn_startSending _)

/-- The line link at the end of an ENGINE_RESET: the copy's REPLY, the notices of the ports `g`, the REPLY DONE. -/
structure LineLink.ResetTo (l : LineLink) (f : DownFrame) (g : PortId → Port) (m : LineLink) : Prop where
  goesOn : l.GoesOn m
  selected : m.selected = .identity
  copyReserve : m.copyReserve = none
  replyHeld : m.replyHeld = false
  bulk : m.bulk = l.bulk ++ (detachPlaced g l.room (List.finRange 8) .routine).map detachNotice
  urgent : m.urgent = l.urgent ++ l.copyReserve.toList.map (fun n => .reply n (.command 9) .badState none none) ++
    (detachPlaced g l.room (List.finRange 8) .urgent).map detachNotice ++ [.reply f.request f.requestKind .done none none]
  owed : m.owed = (detachOwed g l.room (List.finRange 8)).map fun p => ⟨p, .detachDone, .nothing⟩

theorem engineResetTaken_lli (f : DownFrame) (s : State) :
    s.lli.ResetTo f (fun p => (s.port p).engineReset) (engineResetTaken f s).lli := by
  obtain ⟨urgent, bulk, used, reserve, goesOn⟩ := s.copyReply_lli .badState
  let g : PortId → Port := fun p => (s.port p).engineReset
  let t := (s.copyReply .badState).resetBlocks
  have room : t.lli.room = s.lli.room := by
    funext c
    cases c
    · exact congrArg (fun l : List UpFrame => Config.bulkPlaces - l.length) bulk
    · exact congrArg (Config.urgentPlaces - ·) used
  have blocks : s.lli.GoesOn t.lli := goesOn.trans { LineLink.GoesOn.refl _ with }
  have ports : t.resetPorts.lli = t.lli.afterResets g (List.finRange 8) := by
    refine State.resets_lli (List.nodup_finRange 8) fun p _ => ⟨?_, Port.engineReset_cleared _⟩
    rw [State.resetBlocks_port]
    simp [State.port, g]
  have notices : t.lli.GoesOn t.resetPorts.lli := by rw [ports]; exact LineLink.afterResets_goesOn g _ _
  rw [engineResetTaken]
  have reply := State.reply_lli f .done t.resetPorts
  refine ⟨?_, ?_, ?_, ?_, ?_, ?_, ?_⟩
  · exact (blocks.trans notices).trans (State.reply_goesOn f .done _)
  · rw [reply, LineLink.startSending_selected, ports, LineLink.afterResets_selected]
    rfl
  · rw [reply, LineLink.startSending_reserve, ports, LineLink.afterResets_copyReserve]
    exact reserve
  · rw [reply, LineLink.startSending_held]
  · rw [reply, LineLink.startSending_bulk, ports, LineLink.afterResets_bulk, room, ← bulk]
    rfl
  · rw [reply, LineLink.startSending_urgent, ports, LineLink.afterResets_urgent, room, ← urgent]
    rfl
  · rw [reply, LineLink.startSending_owed, ports, LineLink.afterResets_owed g (List.nodup_finRange 8), room]
    rfl

theorem State.reply_port (f : DownFrame) (st : Status) (s : State) (p : PortId) : (s.reply f st).port p = s.port p := rfl

/-- The port of an ENGINE_RESET, whole (R43). -/
theorem engineResetTaken_port (f : DownFrame) (s : State) (p : PortId) :
    (engineResetTaken f s).port p = (s.port p).engineReset.afterReset p := by
  rw [engineResetTaken, State.reply_port, State.resetPorts_port, State.resetBlocks_port]
  simp [State.port]

/-- The sweep of an ENGINE_RESET, but for its pause (R176). -/
theorem engineResetTaken_roll (f : DownFrame) (s : State) :
    (engineResetTaken f s).roll.unpaused = s.roll.engineReset := by
  rw [engineResetTaken, State.reply_roll, State.resetPorts_roll]
  simp [State.resetBlocks, RollSweep.engineReset, RollSweep.unpaused]

/-- What a sweep is but for its pause. -/
theorem RollSweep.of_unpaused {r k : RollSweep} (h : r.unpaused = k) :
    r.state = k.state ∧ r.oldDay = k.oldDay ∧ r.pos = k.pos ∧ r.visit = k.visit ∧ r.closingCount = k.closingCount ∧
      r.summary = k.summary ∧ r.owedDone = k.owedDone := by
  subst h; exact ⟨rfl, rfl, rfl, rfl, rfl, rfl, rfl⟩

section
variable (f : DownFrame) (s : State)

theorem engineResetTaken_clock : (engineResetTaken f s).clock = { s.clock with owedOverrun := false } := by
  simp [engineResetTaken, State.resetPorts_clock, State.resetBlocks]
theorem engineResetTaken_jt : (engineResetTaken f s).jt = JourneyTable.reset := by
  simp [engineResetTaken, State.resetPorts_jt, State.resetBlocks]
theorem engineResetTaken_pu : (engineResetTaken f s).pu = ⟨none, .intake, 0⟩ := by
  simp [engineResetTaken, State.resetPorts_pu, State.resetBlocks]
theorem engineResetTaken_expiry : (engineResetTaken f s).expiry = [] := by
  simp [engineResetTaken, State.resetPorts_expiry, State.resetBlocks]
theorem engineResetTaken_pool : (engineResetTaken f s).pool = WorkPool.reset := by
  simp [engineResetTaken, State.resetPorts_pool, State.resetBlocks]
theorem engineResetTaken_fu : (engineResetTaken f s).fu = .idle := by
  simp [engineResetTaken, State.resetPorts_fu, State.resetBlocks]
theorem engineResetTaken_rt : (engineResetTaken f s).rt = s.rt.engineReset := by
  simp [engineResetTaken, State.resetPorts_rt, State.resetBlocks]
theorem engineResetTaken_counters : (engineResetTaken f s).counters = Counters.zero := by
  simp [engineResetTaken, State.resetPorts_counters, State.resetBlocks]
theorem engineResetTaken_pending : (engineResetTaken f s).pending = s.pending := by
  simp [engineResetTaken, State.resetPorts_pending, State.resetBlocks]

end

/-- The owed notices are those placed in neither queue. -/
theorem detachOwed_eq (g : PortId → Port) (room : AttnClass → Nat) (ps : List PortId) :
    detachOwed g room ps = ps.filter fun p => (g p).noticesDetach && !(detachPlaced g room ps .urgent).contains p &&
      !(detachPlaced g room ps .routine).contains p := by
  refine List.filter_congr fun p _ => ?_
  have own : ∀ c, (g p).cls ≠ c → (detachPlaced g room ps c).contains p = false := fun c hc => by
    simpa using fun h => hc (mem_of_mem_detachPlaced g h).2.2
  rw [Bool.and_assoc]
  congr 1
  cases cls : (g p).cls with
  | routine => rw [own .urgent (by simp [cls])]; rfl
  | urgent => rw [own .routine (by simp [cls])]; simp

/-- An ENGINE_RESET that can be taken (R184). -/
theorem exec_engineReset_taken {s : State} {f : DownFrame} {rest : List DownFrame} {args : List Byte} (h : s.Takes f rest)
    (hc : f.IsCommand .engineReset args) : exec .engineReset s = .next (engineResetTaken f (s.taking rest)) := by
  simp only [exec, execEngineReset, h.takeCommand hc]

/-- While a frame is taken, the place held for its REPLY is one urgent place fewer (R179). -/
theorem State.taking_room {s : State} {f : DownFrame} {rest : List DownFrame} (h : s.Takes f rest) :
    (s.taking rest).lli.room .urgent = Config.urgentPlaces - (s.lli.urgentUsed + 1) ∧
      (s.taking rest).lli.room .routine = Config.bulkPlaces - s.lli.bulk.length := by
  refine ⟨?_, rfl⟩
  simp only [LineLink.room, LineLink.urgentUsed, State.taking, h.between]
  rfl

/-- The last step of a port's reset, by the port's state (R43). -/
theorem Port.engineReset_afterReset (q : Port) (p : PortId) :
    (q.st = .attached → q.carrier = true → q.engineReset.afterReset p =
      { q.engineReset with
        transmit := [.credit (q.lastTaken + BitVec.ofNat 16 q.creditLimit)]
        advertised := q.lastTaken + BitVec.ofNat 16 q.creditLimit }) ∧
    (q.st = .detaching → q.engineReset.afterReset p =
      { q.engineReset with
        st := .present, transmit := [.detach p], attention := AttnKind.detachDone.only
        tracker := { q.tracker with settled := false, deadline := none, fallenDue := false } }) ∧
    (q.st ≠ .detaching → ¬(q.st = .attached ∧ q.carrier = true) → q.engineReset.afterReset p = q.engineReset) := by
  have st : q.engineReset.st = q.st := rfl
  have carrier : q.engineReset.carrier = q.carrier := rfl
  have outstanding : q.engineReset.outstanding = 0 := rfl
  simp only [Port.afterReset, st, carrier, outstanding]
  refine ⟨fun hs hc => ?_, fun hs => ?_, fun hs hn => ?_⟩
  · rw [if_pos ⟨hs, hc⟩]
    rfl
  · rw [if_neg (by simp [hs]), if_pos ⟨hs, trivial⟩, show q.engineReset.attention = 0 from rfl, AttnSet.zero_or_only]
    rfl
  · rw [if_neg hn, if_neg fun h => hs h.1]

/-- Settles O60: the blocks as the reset leaves them, then the ports one by one (`State.resets_port`, `State.resets_lli`), then the
REPLY. -/
theorem engineResetEffect : Obligations.EngineResetEffect := by
  intro s f rest h hc
  have link := engineResetTaken_lli f (s.taking rest)
  have sweep := RollSweep.of_unpaused (engineResetTaken_roll f (s.taking rest))
  obtain ⟨roomUrgent, roomRoutine⟩ := State.taking_room h
  refine ⟨_, exec_engineReset_taken h hc, engineResetTaken_pending _ _, engineResetTaken_clock _ _,
    engineResetTaken_tables _ _, engineResetTaken_jt _ _, engineResetTaken_pu _ _, engineResetTaken_expiry _ _,
    engineResetTaken_pool _ _, engineResetTaken_fu _ _, ?_⟩
  rw [engineResetTaken_rt, engineResetTaken_counters]
  obtain ⟨state, oldDay, pos, visit, closingCount, summary, owedDone⟩ := sweep
  refine ⟨fun i => ?_, ReferralTable.engineReset_freeList _, rfl, state, oldDay, pos, visit, closingCount, summary, owedDone,
    Counters.zero_value, link.goesOn.receive, link.goesOn.carrier, link.goesOn.server, link.goesOn.snapshot,
    link.goesOn.disposition, link.selected, link.copyReserve, link.replyHeld, ⟨?_, ?_, ?_⟩, link.goesOn.sending,
    fun bytes => link.goesOn.wire, fun p => ?_⟩
  · rw [ReferralTable.engineReset_entry, show State.reset.rt.entry i = RefEntry.cleared 0 from ReferralTable.reset_entry i]
    exact ⟨rfl, rfl, rfl, rfl, rfl, rfl⟩
  · rw [link.bulk, detachPlaced, roomRoutine]
    rfl
  · rw [link.urgent, detachPlaced, roomUrgent, hc.requestKind_eq,
      show (s.taking rest).lli.copyReserve = s.lli.copyReserve from rfl]
    cases s.lli.copyReserve <;> rfl
  · rw [link.owed, detachOwed_eq, detachPlaced, detachPlaced, roomRoutine, roomUrgent]
    rfl
  · rw [engineResetTaken_port]
    exact (s.port p).engineReset_afterReset p

end Sys2Proof.Machine
end

section
/-! PROOFS. What every command keeps: the queue of the commands behind it (log 1) and the credit law of the gate ports (R33). -/

namespace Sys2Proof.Machine

open Sys2Proof

/-! ## The credits of one port (R33) -/

theorem Port.CreditLaw.outstanding_le {q : Port} (h : q.CreditLaw) : q.outstanding ≤ q.creditLimit := by
  obtain ⟨-, credits⟩ := h
  split at credits <;> omega

theorem Port.CreditLaw.outstanding_eq_zero {q : Port} (h : q.CreditLaw) (out : q.inReservation = false) :
    q.outstanding = 0 := by
  obtain ⟨-, credits⟩ := h
  rwa [out, if_neg Bool.false_ne_true] at credits

theorem Port.CreditLaw.of_unreserved {q : Port} (limit : q.creditLimit ≤ 64) (out : q.inReservation = false)
    (none : q.outstanding = 0) : q.CreditLaw :=
  ⟨limit, by rwa [out, if_neg Bool.false_ne_true]⟩

/-- A CREDIT for `n` taps opens a window of `n` (R33, R35). -/
theorem Port.placeCredit_window (q : Port) {n : Nat} (h : n ≤ 64) :
    (q.placeCredit (q.lastTaken + BitVec.ofNat 16 n)).window = n := by
  have cancel : q.lastTaken + BitVec.ofNat 16 n - q.lastTaken = BitVec.ofNat 16 n := by
    rw [BitVec.add_comm, BitVec.add_sub_cancel]
  change (q.lastTaken + BitVec.ofNat 16 n - q.lastTaken).toNat = n
  rw [cancel, BitVec.toNat_ofNat]
  omega

/-- A CREDIT for no more taps than the credit limit has free keeps the law, whatever window stood before. -/
theorem Port.creditLaw_placeCredit {q : Port} {n : Nat} (limit : q.creditLimit ≤ 64) (room : q.outstanding + n ≤ q.creditLimit)
    (idle : q.inReservation = false → q.outstanding = 0) :
    (q.placeCredit (q.lastTaken + BitVec.ofNat 16 n)).CreditLaw := by
  refine ⟨limit, ?_⟩
  rw [q.placeCredit_window (by omega)]
  split
  next => exact room
  next out => exact idle (Bool.eq_false_of_not_eq_true out)

theorem Port.CreditLaw.placeFreeCredit {q : Port} (h : q.CreditLaw) : q.placeFreeCredit.CreditLaw :=
  Port.creditLaw_placeCredit h.1 (by have := h.outstanding_le; simp only [Port.freeCredits]; omega) h.outstanding_eq_zero

/-- A port that begins its detach (R36): a CREDIT at last taken closes the window. -/
def Port.beginDetach (q : Port) : Port := Port.placeCredit q.lastTaken { q with st := .detaching }

/-- A closed window admits no tap. -/
theorem Port.CreditLaw.beginDetach {q : Port} (h : q.CreditLaw) : q.beginDetach.CreditLaw := by
  have room := h.outstanding_le
  have law := Port.creditLaw_placeCredit (q := { q with st := .detaching }) (n := 0) h.1 room (fun out => by cases out)
  simpa [Port.beginDetach] using law

/-- A tap inside the window moves one credit from the window to the outstanding taps, or more where it skips numbers (R33). -/
theorem Port.CreditLaw.take {q : Port} (h : q.CreditLaw) (reserved : q.inReservation = true) {n : TapNo} (more : q.step n ≠ 0)
    (inside : q.step n ≤ q.window) (taps : List Tap) :
    Port.CreditLaw { q with lastTaken := n, outstanding := q.outstanding + 1, intake := taps } := by
  obtain ⟨limit, credits⟩ := h
  rw [reserved, if_pos rfl] at credits
  refine ⟨limit, ?_⟩
  have used : (q.advertised - n).toNat = q.window - q.step n := by
    simp only [Port.step, Port.window] at inside ⊢
    bv_omega
  change if q.inReservation = true then q.outstanding + 1 + (q.advertised - n).toNat ≤ q.creditLimit else q.outstanding + 1 = 0
  rw [reserved, if_pos rfl, used]
  omega

/-- An ending in the current attachment frees a credit (R34). -/
theorem Port.CreditLaw.endOne {q : Port} (h : q.CreditLaw) : Port.CreditLaw { q with outstanding := q.outstanding - 1 } := by
  obtain ⟨limit, credits⟩ := h
  refine ⟨limit, ?_⟩
  change if q.inReservation = true then q.outstanding - 1 + q.window ≤ q.creditLimit else q.outstanding - 1 = 0
  split at credits
  next reserved => rw [if_pos reserved]; omega
  next free => rw [if_neg free]; omega

/-- A port that is attached starts with nothing outstanding and its whole credit limit as window (R28). -/
theorem Port.CreditLaw.attach {q : Port} (h : q.CreditLaw) (first : TapNo) : (q.attach first).CreditLaw :=
  Port.creditLaw_placeCredit (q := { q.leaveAttaching .attached with
    lastTaken := first - 1, outstanding := 0, tracker := Tracker.fresh }) h.1 (Nat.le_of_eq (Nat.zero_add _)) fun _ => rfl

theorem Port.CreditLaw.engineReset {q : Port} (h : q.CreditLaw) : q.engineReset.CreditLaw := by
  obtain ⟨limit, credits⟩ := h
  refine ⟨limit, ?_⟩
  change if q.inReservation = true then 0 + q.window ≤ q.creditLimit else 0 = 0
  split at credits
  next reserved => rw [if_pos reserved]; omega
  next free => rw [if_neg free]

/-- The end of a port's reset (R43): the whole credit limit again, or the detach completed. -/
theorem Port.CreditLaw.afterReset {q : Port} (h : q.CreditLaw) (none : q.outstanding = 0) (p : PortId) :
    (q.afterReset p).CreditLaw := by
  unfold Port.afterReset
  split
  · exact Port.creditLaw_placeCredit h.1 (by omega) fun _ => none
  · split
    · exact .of_unreserved h.1 rfl none
    · exact h

/-! ## Port states outside the reservation (R103) -/

theorem Port.inReservation_eq_true {q : Port} : q.inReservation = true ↔ q.st = .attached ∨ q.st = .detaching := by
  simp [Port.inReservation]

theorem Port.inReservation_eq_false {q : Port} : q.inReservation = false ↔ q.st ≠ .attached ∧ q.st ≠ .detaching := by
  simp [Port.inReservation]

/-! ## What a command keeps -/

/-- What every command keeps: the queue of the commands behind it, and the credit law. -/
def State.Kept (s u : State) : Prop := u.pending = s.pending ∧ (s.CreditLaw → u.CreditLaw)

section
variable {s u v : State}

theorem State.Kept.refl (s : State) : s.Kept s := ⟨rfl, id⟩

theorem State.Kept.trans (h : s.Kept u) (k : u.Kept v) : s.Kept v := by
  obtain ⟨hq, hc⟩ := h
  obtain ⟨kq, kc⟩ := k
  exact ⟨kq.trans hq, fun credits => kc (hc credits)⟩

/-- An update that touches neither the ports nor the queue. -/
theorem State.Kept.same (h : s.Kept u) (ports : v.ports = u.ports) (pending : v.pending = u.pending) : s.Kept v := by
  obtain ⟨queue, law⟩ := h
  refine ⟨pending.trans queue, fun credits p => ?_⟩
  rw [State.port, ports]
  exact law credits p

theorem State.Kept.bump (h : s.Kept u) (c : CounterId) : s.Kept (u.bump c) := h.same rfl rfl

theorem State.Kept.pushBulk (h : s.Kept u) (f : UpFrame) : s.Kept (u.pushBulk f) := h.same rfl rfl

theorem State.Kept.pushUrgent (h : s.Kept u) (f : UpFrame) : s.Kept (u.pushUrgent f) := h.same rfl rfl

theorem State.Kept.reply (h : s.Kept u) (f : DownFrame) (st : Status) : s.Kept (u.reply f st) := h.same rfl rfl

theorem State.Kept.writeRecord (h : s.Kept u) (r : Record) : s.Kept (u.writeRecord r) := h.same rfl rfl

theorem State.Kept.joinPool (h : s.Kept u) (e : WorkEntry) : s.Kept (u.joinPool e) := h.same rfl rfl

/-- An update of one port that keeps that port's credits. -/
theorem State.Kept.onePort {p : PortId} (h : s.Kept u) (pending : v.pending = u.pending) (others : u.OtherPortsKept p v)
    (port : (u.port p).CreditLaw → (v.port p).CreditLaw) : s.Kept v := by
  obtain ⟨queue, law⟩ := h
  refine ⟨pending.trans queue, fun credits r => ?_⟩
  by_cases hr : r = p
  · subst hr; exact port (law credits r)
  · rw [others r hr]; exact law credits r

theorem State.Kept.setPort {p : PortId} {q : Port} (h : s.Kept u) (port : (u.port p).CreditLaw → q.CreditLaw) :
    s.Kept (u.setPort p q) :=
  h.onePort rfl ((State.otherPortsKept_refl p u).setPort q) fun law => by rw [State.setPort_port]; exact port law

theorem State.Kept.modPort {p : PortId} {f : Port → Port} (h : s.Kept u)
    (port : (u.port p).CreditLaw → (f (u.port p)).CreditLaw) : s.Kept (u.modPort p f) := h.setPort port

theorem State.Kept.raise (h : s.Kept u) (p : PortId) (k : AttnKind) (d : AttnDetail) : s.Kept (u.raise p k d) :=
  h.onePort (State.raise_pending p k d u) (u.raise_others p k d) fun law => by rw [State.raise_port]; exact law

/-- A port that is released has nothing outstanding in the attachment it leaves (R25). -/
theorem State.Kept.release (h : s.Kept u) (p : PortId) {st : PortState} (out : st ≠ .attached ∧ st ≠ .detaching) :
    s.Kept (u.release p st) :=
  h.onePort (State.release_pending p st u) ((State.otherPortsKept_refl p u).release st) fun law => by
    rw [State.release_port]
    exact .of_unreserved law.1 (Port.inReservation_eq_false.2 out) rfl

theorem State.Kept.completeDetachIfDone (h : s.Kept u) (p : PortId) : s.Kept (u.completeDetachIfDone p) := by
  unfold State.completeDetachIfDone
  split
  next done =>
    exact h.onePort (State.completeDetach_pending p u) (State.otherPortsKept_refl p u).completeDetach fun law => by
      rw [State.completeDetach_port]
      exact .of_unreserved law.1 rfl done.2
  next => exact h

/-- A port that moves between states outside the reservation. -/
theorem Port.CreditLaw.move {q : Port} (h : q.CreditLaw) (before : q.st ≠ .attached ∧ q.st ≠ .detaching) {r : Port}
    (after : r.st ≠ .attached ∧ r.st ≠ .detaching) (limit : r.creditLimit ≤ 64) (same : r.outstanding = q.outstanding) :
    r.CreditLaw :=
  .of_unreserved limit (Port.inReservation_eq_false.2 after)
    (same.trans (h.outstanding_eq_zero (Port.inReservation_eq_false.2 before)))

/-! ## Endings and gate answers -/

theorem State.Kept.endTap (h : s.Kept u) (p : PortId) (n : BitVec 16) : s.Kept (u.endTap p n) := by
  unfold State.endTap
  dsimp only
  split
  next =>
    split
    next => exact h.setPort fun law => by split <;> [exact law.endOne.placeFreeCredit; exact law.endOne]
    next => exact (h.setPort fun law => law.endOne).completeDetachIfDone p
    next => exact h
  next => exact h.same (State.offerSweepIfFell_ports _ _) (State.offerSweepIfFell_pending _ _)

theorem State.Kept.handAnswer (h : s.Kept u) (p : PortId) (n : BitVec 16) (k : TapNo) (a : Answer) :
    s.Kept (u.handAnswer p n k a) := by
  unfold State.handAnswer
  dsimp only
  split
  · exact h.setPort id
  · exact h.same rfl rfl

theorem State.Kept.answerTap (h : s.Kept u) (t : Tap) (a : Option Answer) : s.Kept (u.answerTap t a) := by
  cases a with
  | none => exact h
  | some a => exact h.handAnswer _ _ _ a

theorem State.Kept.handToWaiting (h : s.Kept u) (w : Option WaitingTap) (a : Option Answer) : s.Kept (u.handToWaiting w a) := by
  cases w with
  | none => exact h
  | some w =>
    cases a with
    | none => exact h
    | some a => exact h.handAnswer _ _ _ a

theorem State.Kept.endWaiting (h : s.Kept u) (w : Option WaitingTap) : s.Kept (u.endWaiting w) := by
  cases w with
  | none => exact h
  | some w => exact h.endTap _ _

/-! ## The steps of a tap (R78 to R92) -/

theorem State.Kept.createTapWork (h : s.Kept u) (e : WorkEntry) (a : Option Answer) : s.Kept (u.createTapWork e a) := by
  unfold State.createTapWork
  split
  · exact (h.joinPool e).handToWaiting _ _
  · exact h.same rfl rfl

theorem State.Kept.noticeTap (h : s.Kept u) (t : Tap) (r : NoticeReason) (a : Answer) : s.Kept (u.noticeTap t r a) := by
  have answered : s.Kept ((u.bump (.tapNotices r)).answerTap t (t.ifLive a)) := (h.bump _).answerTap _ _
  unfold State.noticeTap
  dsimp only
  split
  · exact (answered.pushBulk _).endTap _ _
  · exact answered.same rfl rfl

theorem State.Kept.dropDuplicate (h : s.Kept u) (t : Tap) : s.Kept (u.dropDuplicate t) :=
  ((h.bump _).answerTap _ _).endTap _ _

theorem State.Kept.pairTapIn (h : s.Kept u) (r : Record) (t : Tap) : s.Kept (u.pairTapIn r t) := by
  unfold State.pairTapIn
  split
  next held => exact (h.same (by simp) (by simp)).createTapWork _ _
  next =>
    split
    next =>
      split
      · exact (h.same (by simp) (by simp)).createTapWork _ _
      · exact (h.same (by simp) (by simp)).createTapWork _ _
    next => exact ((h.same (by simp) (by simp)).answerTap _ _).endTap _ _

theorem State.Kept.holdOrDisplace (h : s.Kept u) (r : Record) (t : Tap) : s.Kept (u.holdOrDisplace r t) := by
  have held : s.Kept (u.holdTap r t) := ((h.same (by simp) (by simp)).answerTap _ _).endTap _ _
  unfold State.holdOrDisplace
  split
  next =>
    split
    · exact held
    · exact (h.same (by simp) (by simp)).createTapWork _ _
  next => exact held

theorem State.Kept.pairTapOut (h : s.Kept u) (r : Record) (t : Tap) : s.Kept (u.pairTapOut r t) := by
  unfold State.pairTapOut
  split
  next =>
    split
    · exact (h.same (by simp) (by simp)).createTapWork _ _
    · exact h.holdOrDisplace r t
  next => exact h.holdOrDisplace r t

theorem State.Kept.tapInRecord (h : s.Kept u) (t : Tap) (r : Record) : s.Kept (u.tapInRecord t r) := by
  unfold State.tapInRecord
  dsimp only
  split
  · exact h.dropDuplicate t
  · split
    · exact (h.writeRecord _).noticeTap _ _ _
    · split
      · exact h.pairTapIn _ t
      · exact h.pairTapOut _ t

theorem State.Kept.findAndPair (h : s.Kept u) (t : Tap) : s.Kept (u.findAndPair t) := by
  unfold State.findAndPair
  split
  next r _ => exact h.tapInRecord t r
  next jt r _ => exact (h.same (v := { u with jt := jt }) rfl rfl).tapInRecord t r
  next => exact (h.bump _).noticeTap _ _ _
  next => exact (h.bump _).noticeTap _ _ _

theorem State.Kept.stepTap (h : s.Kept u) (t : Tap) : s.Kept (u.stepTap t) := by
  unfold State.stepTap
  split
  · exact h.noticeTap _ _ _
  · split
    · exact (h.same (by simp) (by simp)).findAndPair t
    · exact h.findAndPair t

/-! ## The steps of a pricing (R110, R131) -/

theorem State.Kept.answerGate (h : s.Kept u) (p : Pricing) : s.Kept (u.answerGate p) := by
  unfold State.answerGate
  split
  · split
    · exact h.handAnswer _ _ _ _
    · exact h
  · exact h

theorem State.Kept.finishPricing (h : s.Kept u) (p : Pricing) : s.Kept (u.finishPricing p) :=
  (h.endWaiting p.entry.waiting).same (by simp [State.finishPricing]) (by simp [State.finishPricing])

theorem State.Kept.placeAndFinish (h : s.Kept u) (p : Pricing) : s.Kept (u.placeAndFinish p) := by
  unfold State.placeAndFinish
  split
  · exact (h.same (v := u.placeOutcome p) rfl rfl).finishPricing p
  · exact h.same rfl rfl

theorem State.Kept.countConditions (h : s.Kept u) (e : WorkEntry) (cs : CondSet) : s.Kept (u.countConditions e cs) := by
  rw [State.countConditions_eq]
  exact h.same rfl rfl

theorem State.Kept.reportIfReady (h : s.Kept u) (r : Record) : s.Kept (u.reportIfReady r) :=
  h.same (State.reportIfReady_ports r u) (State.reportIfReady_pending r u)

theorem State.Kept.chargeRecord (h : s.Kept u) (e : WorkEntry) (c : Copies) (k : Reckoning) (r : Record) (b : Bool) :
    s.Kept (u.chargeRecord e c k r b).2 := by
  have written := ((h.writeRecord (r.charge k.undiverted e.settles)).reportIfReady
    (r.charge k.undiverted e.settles)).countConditions e k.undiverted.conds
  cases b
  · exact written
  · exact written.bump _

theorem State.Kept.divert (h : s.Kept u) (e : WorkEntry) (c : Copies) (k : Reckoning) (r : Record) (reason : DivertReason)
    (slot : Fin 256) (rest : List (Fin 256)) : s.Kept (u.divert e c k r reason slot rest).2 :=
  h.same (by simp [State.divert]) (by simp [State.divert])

theorem State.Kept.outcomeUpdate (h : s.Kept u) (e : WorkEntry) (c : Copies) (k : Reckoning) :
    s.Kept (u.outcomeUpdate e c k).2 := by
  unfold State.outcomeUpdate
  split
  next => exact (h.countConditions e _).bump _
  next =>
    dsimp only
    split
    · exact h.chargeRecord e c _ _ false
    · split
      · exact h.divert e c _ _ _ _ _
      · exact h.chargeRecord e c _ _ true

theorem State.Kept.priceEntry (h : s.Kept u) (e : WorkEntry) : s.Kept (u.priceEntry e) :=
  ((h.outcomeUpdate e _ _).answerGate _).placeAndFinish _

/-! ## Line time and the roll (R45 to R48, R164 to R173) -/

theorem State.Kept.compareDeadlines (h : s.Kept u) : s.Kept u.compareDeadlines := by
  refine h.trans ⟨rfl, fun credits p => ?_⟩
  rw [State.port, State.compareDeadlines, Fin.getElem_fin, Vector.getElem_map]
  exact credits p

theorem State.Kept.checkOverrun (h : s.Kept u) : s.Kept u.checkOverrun :=
  h.same (State.checkOverrun_ports u) (State.checkOverrun_pending u)

theorem State.Kept.setLineTime (h : s.Kept u) (t : Nat) : s.Kept (u.setLineTime t) :=
  State.Kept.compareDeadlines (State.Kept.checkOverrun (h.same rfl rfl))

theorem State.Kept.startDay (h : s.Kept u) (d : Day) (t : Nat) : s.Kept (u.startDay d t) :=
  (h.same (v := { u with clock := { u.clock with day := d } }) rfl rfl).setLineTime t

theorem State.Kept.immediateRoll (h : s.Kept u) (d : Day) (t : Nat) : s.Kept (u.immediateRoll d t) :=
  ((h.same (v := { u with tables := u.tables.swapRoles }) rfl rfl).startDay d t).same rfl rfl

theorem State.Kept.acceptRoll (h : s.Kept u) (d : Day) (t : Nat) : s.Kept (u.acceptRoll d t) :=
  State.Kept.startDay (h.same (by rfl) (by rfl)) d t

theorem State.Kept.makeRollDone (h : s.Kept u) (b : Bool) : s.Kept (u.makeRollDone b) :=
  h.same (State.makeRollDone_ports b u) (State.makeRollDone_pending b u)

theorem State.Kept.checkRoll (h : s.Kept u) : s.Kept u.checkRoll :=
  h.same (State.checkRoll_ports u) (State.checkRoll_pending u)

theorem State.Kept.rollDay (h : s.Kept u) (f : DownFrame) : s.Kept (rollDayTaken f u) := by
  unfold rollDayTaken
  dsimp only
  split
  next st _ => exact h.reply f st
  next => exact ((h.immediateRoll _ _).reply f .done).makeRollDone true
  next => exact (h.acceptRoll _ _).reply f .done

theorem State.Kept.sweepCard (h : s.Kept u) (c : Card) (rest : List Card) : s.Kept (u.sweepCard c rest) := by
  have left : ∀ {w : State}, s.Kept w → s.Kept (w.leaveVisit rest) := fun k => State.Kept.checkRoll (k.same rfl rfl)
  unfold State.sweepCard
  split
  next =>
    split
    · split
      · exact left (h.same (by simp) (by simp))
      · exact h.same rfl rfl
    · exact left h
  next => exact left h

/-! ## The gate ports (R24 to R41) -/

/-- An attach abandoned or failed leaves a port with nothing outstanding. -/
theorem State.Kept.leaveAttaching (h : s.Kept u) {p : PortId} (before : (u.port p).st = .attaching) {st : PortState}
    (after : st ≠ .attached ∧ st ≠ .detaching) : s.Kept (u.modPort p (Port.leaveAttaching st)) :=
  h.modPort fun law => law.move (by simp [before]) after law.1 rfl

theorem State.Kept.failAttach (h : s.Kept u) {p : PortId} (before : (u.port p).st = .attaching) (c : AttachCause) :
    s.Kept (u.failAttach p c) := (h.leaveAttaching before (by decide)).raise p _ _

/-- What a tap taken counts before it joins the intake list: its gap, raised as TAP_GAP, and a malformed item (R33). -/
def State.countTap (p : PortId) (f : TapFrame) (step : Nat) (s : State) : State :=
  let s := if 1 < step then (s.count (.port p .lostTaps) (step - 1)).raise p .tapGap (.lost (step - 1)) else s
  if (decodeItems (usedItems f.items)).2 then s.bump (.port p .malformedItems) else s

/-- A port with a tap taken from a frame, and the CREDIT that follows where numbers were skipped (R33). -/
def Port.takeTap (p : PortId) (f : TapFrame) (step : Nat) (q : Port) : Port :=
  let r := { q with
    lastTaken := f.tapNumber, outstanding := q.outstanding + 1, intake := q.intake ++ [decodeTap p q f] }
  if 1 < step then r.placeFreeCredit else r

theorem State.takeTap_eq (p : PortId) (f : TapFrame) (step : Nat) (s : State) :
    s.takeTap p f step = (s.countTap p f step).modPort p (Port.takeTap p f step) := rfl

/-- The counting latches TAP_GAP at most. -/
theorem State.countTap_port (p : PortId) (f : TapFrame) (step : Nat) (s : State) : (s.countTap p f step).port p =
    { s.port p with
      attention := if 1 < step then (s.port p).attention ||| AttnKind.tapGap.only else (s.port p).attention } := by
  have bumped : ∀ (c : CounterId) (t : State), (t.bump c).port p = t.port p := fun _ _ => rfl
  have counted : (s.count (.port p .lostTaps) (step - 1)).port p = s.port p := rfl
  unfold State.countTap
  dsimp only
  split <;> split <;> simp only [bumped, counted, State.raise_port]

theorem State.Kept.countTap (h : s.Kept u) (p : PortId) (f : TapFrame) (step : Nat) : s.Kept (u.countTap p f step) := by
  have gap : s.Kept ((u.count (.port p .lostTaps) (step - 1)).raise p .tapGap (.lost (step - 1))) :=
    (h.same (v := u.count _ _) rfl rfl).raise _ _ _
  unfold State.countTap
  dsimp only
  split <;> split
  · exact gap.bump _
  · exact h.bump _
  · exact gap
  · exact h

theorem Port.CreditLaw.takeTap {q : Port} (h : q.CreditLaw) (reserved : q.inReservation = true) (p : PortId) {f : TapFrame}
    (more : q.step f.tapNumber ≠ 0) (inside : q.step f.tapNumber ≤ q.window) (step : Nat) : (q.takeTap p f step).CreditLaw := by
  have taken := h.take reserved more inside (q.intake ++ [decodeTap p q f])
  unfold Port.takeTap
  dsimp only
  split
  · exact taken.placeFreeCredit
  · exact taken

theorem State.Kept.takeTap (h : s.Kept u) {p : PortId} (reserved : (u.port p).inReservation = true) {f : TapFrame}
    (more : (u.port p).step f.tapNumber ≠ 0) (inside : (u.port p).step f.tapNumber ≤ (u.port p).window) (step : Nat) :
    s.Kept (u.takeTap p f step) := by
  rw [State.takeTap_eq]
  refine (h.countTap p f step).modPort fun law => ?_
  rw [State.countTap_port] at law ⊢
  exact law.takeTap reserved p more inside step

theorem State.Kept.measureTap (h : s.Kept u) {p : PortId} (reserved : (u.port p).inReservation = true) (f : TapFrame) :
    s.Kept (u.measureTap p f) := by
  unfold State.measureTap
  dsimp only
  split
  next => exact h.bump _
  next inside => exact h.takeTap reserved (by omega) (by omega) _

theorem State.Kept.applyBeacon (h : s.Kept u) (p : PortId) (n : Nat) (d : Day) : s.Kept (u.applyBeacon p n d) := by
  unfold State.applyBeacon
  split
  · exact h.bump _
  · split
    · exact h.bump _
    · dsimp only
      split
      · exact (h.modPort id).raise _ _ _
      · exact h.modPort id

theorem State.Kept.advanceRun (h : s.Kept u) (p : PortId) : s.Kept (u.advanceRun p) := by
  have run : s.Kept (u.modPort p fun q => { q with badRun := min 16 (q.badRun + 1) }) := h.modPort id
  unfold State.advanceRun
  dsimp only
  split
  · refine State.Kept.raise ?_ p _ _
    split
    next st => exact run.leaveAttaching (by simpa using st) (by decide)
    next => exact run.release p (by decide)
  · exact run

theorem State.Kept.beginAttach (h : s.Kept u) {p : PortId} (before : (u.port p).st ≠ .attached ∧ (u.port p).st ≠ .detaching)
    {limit : Nat} (le : limit ≤ 64) : s.Kept (u.beginAttach p limit) := by
  unfold State.beginAttach
  dsimp only
  have begun := h.modPort (p := p) (f := fun q => { q.place (.attachReq p limit 10 (u.tables.stationList p)) with
      st := .attaching, creditLimit := limit, badRun := 0, attachDeadline := some (u.dueAfter 5), attachFallenDue := false })
    fun law => law.move before (by simp) le rfl
  split
  · exact begun.failAttach (by simp) _
  · exact begun

theorem State.Kept.setOptions (h : s.Kept u) (p : PortId) (auto : Bool) (mask : AttnSet) (c : AttnClass) :
    s.Kept (u.setOptions p auto mask c) := by
  have options : s.Kept (u.modPort p fun q => { q with autoDetach := auto, mask := mask, cls := c }) := h.modPort id
  unfold State.setOptions
  dsimp only
  split
  · exact options.release p (by decide)
  · exact options

theorem State.Kept.unlatch (h : s.Kept u) (p : PortId) (k : AttnSet) : s.Kept (u.unlatch p k) :=
  State.Kept.same (h.modPort (p := p) (f := fun q => { q with attention := q.attention &&& ~~~k }) id) rfl rfl

/-! ## Frames taken from the line (R179) -/

/-- The outcome of a command that a downstream frame carries: `g` where the frame is taken, and nothing where none is. -/
def answering (taken : Option (DownFrame × State)) (g : DownFrame → State → State) (s : State) :
    Host.Outcome State Fault Refusal :=
  match taken with
  | some (f, t) => .next (g f t)
  | none => .next s

/-- An outcome is a next state, with everything kept that a command keeps. -/
def State.Keeps (s : State) (o : Host.Outcome State Fault Refusal) : Prop := ∃ u, o = .next u ∧ s.Kept u

theorem State.Kept.next (h : s.Kept u) : s.Keeps (.next u) := ⟨u, rfl, h⟩

theorem State.keeps_self (s : State) : s.Keeps (.next s) := (State.Kept.refl s).next

theorem State.keeps_same (ports : u.ports = s.ports) (pending : u.pending = s.pending) : s.Keeps (.next u) :=
  ((State.Kept.refl s).same ports pending).next

theorem State.Kept.taking (h : s.Kept u) (rest : List DownFrame) : s.Kept (u.taking rest) := h.same rfl rfl

theorem State.keeps_takeKind {k : DownKind} {g : DownFrame → State → State} (h : ∀ f t, s.Kept t → s.Kept (g f t)) :
    s.Keeps (answering (s.takeKind k) g s) := by
  unfold answering
  split
  next taken =>
    obtain ⟨rest, -, -, -, rfl⟩ := State.takeKind_some taken
    exact (h _ _ ((State.Kept.refl s).taking rest)).next
  next => exact s.keeps_self

theorem State.keeps_takeCommand {c : CommandCode} {g : DownFrame → State → State} (h : ∀ f t, s.Kept t → s.Kept (g f t)) :
    s.Keeps (answering (s.takeCommand c) g s) := by
  unfold answering
  split
  next taken =>
    obtain ⟨rest, -, -, -, rfl⟩ := State.takeCommand_some taken
    exact (h _ _ ((State.Kept.refl s).taking rest)).next
  next => exact s.keeps_self

theorem State.Kept.portAttach (h : s.Kept u) (f : DownFrame) : s.Kept (portAttachTaken f u) := by
  unfold portAttachTaken
  dsimp only
  split
  next => exact h.reply f _
  next p _ =>
    split
    next => exact h.reply f _
    next limits =>
      have limit : fieldAt f.args 1 1 ≤ 64 := by omega
      split
      next => exact h.reply f _
      next => exact h.reply f _
      next => exact h.reply f _
      next => exact h.reply f _
      next st => exact (h.beginAttach (by simp [st]) limit).reply f _
      next st => exact (h.beginAttach (by simp [st]) limit).reply f _

theorem State.Kept.portDetach (h : s.Kept u) (f : DownFrame) : s.Kept (portDetachTaken f u) := by
  unfold portDetachTaken
  split
  next => exact h.reply f _
  next p _ =>
    dsimp only
    split
    next => exact ((h.setPort fun law => law.beginDetach).completeDetachIfDone p).reply f _
    next => exact h.reply f _

theorem State.Kept.setPortOptions (h : s.Kept u) (f : DownFrame) : s.Kept (setPortOptionsTaken f u) := by
  unfold setPortOptionsTaken
  split
  · exact (h.setOptions _ _ _ _).reply f _
  · exact h.reply f _

theorem State.Kept.clearAttention (h : s.Kept u) (f : DownFrame) : s.Kept (clearAttentionTaken f u) := by
  unfold clearAttentionTaken
  split
  · exact (h.unlatch _ _).reply f _
  · exact h.reply f _

theorem State.Kept.engineReset (h : s.Kept u) (f : DownFrame) : s.Kept (engineResetTaken f u) := by
  refine h.trans ⟨engineResetTaken_pending f u, fun credits p => ?_⟩
  rw [engineResetTaken_port]
  exact (credits p).engineReset.afterReset rfl p

theorem State.Kept.load (h : s.Kept u) (f : DownFrame) : s.Kept (loadTaken f u) := by
  unfold loadTaken
  dsimp only
  split <;> exact h.same rfl rfl

theorem State.Kept.decideAnswer (h : s.Kept u) (k : BitVec 16) (a : RefAnswer) : s.Kept (u.decideAnswer k a).2 := by
  unfold State.decideAnswer
  dsimp only
  (repeat' split) <;> exact h.same rfl rfl

theorem State.Kept.referralAnswer (h : s.Kept u) (f : DownFrame) : s.Kept (referralAnswerTaken f u) := by
  unfold referralAnswerTaken
  split
  · exact (h.bump _).reply f _
  · exact (h.decideAnswer _ _).reply f _

theorem State.Kept.answerView (h : s.Kept u) (f : DownFrame) (v : ViewSel) : s.Kept (u.answerView f v) := by
  unfold State.answerView
  split <;> exact h.same rfl rfl

theorem State.Kept.view (h : s.Kept u) (f : DownFrame) : s.Kept (viewTaken f u) := by
  unfold viewTaken
  split
  next v _ => exact (h.same (v := { u with lli := { u.lli with selected := v } }) rfl rfl).answerView f v
  next => exact h.answerView f _
  next => exact h.reply f _

theorem State.Kept.setTime (h : s.Kept u) (f : DownFrame) : s.Kept (setTimeTaken f u) := by
  unfold setTimeTaken
  dsimp only
  split
  · exact h.reply f _
  · exact (h.setLineTime _).reply f _

theorem State.Kept.arm (h : s.Kept u) (f : DownFrame) : s.Kept (armTaken f u) := by
  unfold armTaken
  dsimp only
  split <;> exact h.same rfl rfl

theorem State.Kept.disarm (h : s.Kept u) (f : DownFrame) : s.Kept (disarmTaken f u) := by
  unfold disarmTaken
  split <;> exact h.same rfl rfl

theorem State.Kept.copyActive (h : s.Kept u) (f : DownFrame) : s.Kept (copyActiveTaken f u) := by
  unfold copyActiveTaken
  (repeat' split) <;> exact h.same rfl rfl

theorem State.Kept.setDisposition (h : s.Kept u) (f : DownFrame) : s.Kept (setDispositionTaken f u) := by
  unfold setDispositionTaken
  split <;> exact h.same rfl rfl

theorem State.Kept.captureCounters (h : s.Kept u) (f : DownFrame) : s.Kept (captureTaken f u) := by
  unfold captureTaken
  split <;> exact h.same rfl rfl

/-! ## Frames from the gates (R30) -/

/-- TAP, BEACON and HUB_STATE are taken with carrier, ATTACHED or DETACHING (R30). -/
theorem Port.frameCase_eq_taken {q : Port} : q.frameCase = .taken ↔ q.carrier = true ∧ q.inReservation = true := by
  cases hc : q.carrier <;> cases hs : q.st <;> simp [Port.frameCase, Port.inReservation, hc, hs]

/-- ATTACH_ACK is taken with carrier in ATTACHING (R30). -/
theorem Port.ackCase_eq_taken {q : Port} : q.ackCase = .taken ↔ q.carrier = true ∧ q.st = .attaching := by
  cases hc : q.carrier <;> cases hs : q.st <;> simp [Port.ackCase, hc, hs]

theorem State.clearRun_port (p : PortId) (s : State) : (s.clearRun p).port p = { s.port p with badRun := 0 } :=
  s.modPort_port p _

theorem State.kept_clearRun (p : PortId) (s : State) : s.Kept (s.clearRun p) := (State.Kept.refl s).modPort id

theorem State.keeps_onFrame {p : PortId} {c : FrameCase} {act : State → State}
    (h : c = .taken → s.Kept (act (s.clearRun p))) : s.Keeps (.next (s.onFrame p c act)) := by
  cases c with
  | absent => exact s.keeps_self
  | ignored => exact s.keeps_self
  | unexpected => exact ((s.kept_clearRun p).bump _).next
  | taken => exact (h rfl).next

theorem State.keeps_tap (p : PortId) (f : TapFrame) (s : State) : s.Keeps (execTap p f s) := by
  refine State.keeps_onFrame fun taken => (s.kept_clearRun p).measureTap ?_ f
  rw [State.clearRun_port]
  exact (Port.frameCase_eq_taken.1 taken).2

theorem State.keeps_attachAck (p : PortId) (b : Bool) (echo : Byte) (first : TapNo) (s : State) :
    s.Keeps (execAttachAck p b echo first s) := by
  refine State.keeps_onFrame fun taken => ?_
  have before : ((s.clearRun p).port p).st = .attaching := by
    rw [State.clearRun_port]
    exact (Port.ackCase_eq_taken.1 taken).2
  split
  · split
    · exact ((s.kept_clearRun p).modPort fun law => law.attach first).raise _ _ _
    · exact (s.kept_clearRun p).failAttach before _
  · exact (s.kept_clearRun p).failAttach before _

theorem State.keeps_hubState (p : PortId) (alarm : Bool) (code : Byte) (s : State) :
    s.Keeps (execHubState p alarm code s) := by
  refine State.keeps_onFrame fun _ => ?_
  split
  · exact (s.kept_clearRun p).raise _ _ _
  · exact s.kept_clearRun p

theorem State.keeps_badFrame (p : PortId) (s : State) : s.Keeps (execBadFrame p s) := by
  have counted := (State.Kept.refl s).bump (.port p .badFrames)
  unfold execBadFrame
  split
  · dsimp only
    split
    · exact (counted.advanceRun p).next
    · exact (counted.advanceRun p).next
    · exact (counted.advanceRun p).next
    · exact counted.next
  · exact s.keeps_self

/-! ## Carrier and deadlines of a port (R24, R29, R52) -/

theorem State.keeps_gateCarrierLoss (p : PortId) (s : State) : s.Keeps (execGateCarrierLoss p s) := by
  have lost : s.Kept ((s.modPort p fun q => { q with carrier := false, transmit := [] }).raise p .carrierChange
      (.carrier false)) := ((State.Kept.refl s).modPort id).raise _ _ _
  unfold execGateCarrierLoss
  split
  next =>
    dsimp only
    split
    next => exact lost.next
    next st => exact (lost.modPort fun law => law.move (by simp [st]) (by simp) law.1 rfl).next
    next st => exact (lost.modPort fun law => law.move (by simp [st]) (by simp) law.1 rfl).next
    next st => exact (lost.leaveAttaching st (by decide)).next
    next => exact (lost.release p (by decide)).next
    next =>
      split
      · exact (lost.release p (by decide)).next
      · exact lost.next
  next => exact s.keeps_self

theorem State.keeps_gateCarrierReturn (p : PortId) (s : State) : s.Keeps (execGateCarrierReturn p s) := by
  have back : s.Kept ((s.modPort p fun q => { q with carrier := true }).raise p .carrierChange (.carrier true)) :=
    ((State.Kept.refl s).modPort id).raise _ _ _
  unfold execGateCarrierReturn
  split
  next => exact s.keeps_self
  next =>
    dsimp only
    split
    next st => exact (back.modPort fun law => law.move (by simp [st]) (by simp) law.1 rfl).next
    next => exact (back.modPort fun law => law.placeFreeCredit).next
    next => exact back.next

theorem State.keeps_attachTimeout (p : PortId) (s : State) : s.Keeps (execAttachTimeout p s) := by
  unfold execAttachTimeout
  dsimp only
  split
  · split
    next due => exact ((State.Kept.refl s).failAttach due.1 _).next
    next => exact s.keeps_self
  · exact s.keeps_self

theorem State.keeps_beaconTimeout (p : PortId) (s : State) : s.Keeps (execBeaconTimeout p s) := by
  unfold execBeaconTimeout
  dsimp only
  split
  · split
    · exact State.Kept.next (State.Kept.setPort (.refl s) fun law => law)
    · exact s.keeps_self
  · exact s.keeps_self

theorem State.keeps_gateFrameSent (p : PortId) (s : State) : s.Keeps (execGateFrameSent p s) := by
  unfold execGateFrameSent
  split
  · exact ((State.Kept.refl s).modPort id).next
  · exact s.keeps_self

/-! ## The steps the engine takes on its own account -/

theorem State.Kept.takeHead {p : PortId} {t : Tap} {v : State} (h : s.Kept u) (taken : u.takeHead p = some (t, v)) :
    s.Kept v := by
  unfold State.takeHead at taken
  split at taken
  next rest _ =>
    cases taken
    exact (h.modPort (p := p) (f := fun q => { q with intake := rest }) id).same rfl rfl
  next => cases taken

theorem State.keeps_tapStep (s : State) : s.Keeps (execTapStep s) := by
  unfold execTapStep
  split
  · split
    next taken => exact (((State.Kept.refl s).takeHead taken).stepTap _).next
    next => exact s.keeps_self
  · exact s.keeps_self

theorem State.keeps_tapNotice (s : State) : s.Keeps (execTapNotice s) := by
  unfold execTapNotice
  split
  next n att _ =>
    split
    · exact ((((State.Kept.refl s).same (v := { s with pu := { s.pu with item := none } }) rfl rfl).pushBulk _).endTap _ _).next
    · exact s.keeps_self
  next => exact s.keeps_self

theorem State.keeps_slotWaitResume (s : State) : s.Keeps (execSlotWaitResume s) := by
  unfold execSlotWaitResume
  split
  next e a _ =>
    split
    · exact ((((State.Kept.refl s).same (v := { s with pu := { s.pu with item := none } }) rfl rfl).joinPool e).handToWaiting
        _ _).next
    · exact s.keeps_self
  next => exact s.keeps_self

theorem State.keeps_expiryStep (s : State) : s.Keeps (execExpiryStep s) := by
  unfold execExpiryStep
  split
  · exact State.keeps_same (by simp) (by simp)
  · exact s.keeps_self

theorem State.keeps_chainVisit (s : State) : s.Keeps (execChainVisit s) := by
  unfold execChainVisit
  split
  · exact (State.Kept.checkRoll ((State.Kept.refl s).same (by rfl) (by rfl))).next
  · exact s.keeps_self

theorem State.keeps_sweepItem (s : State) : s.Keeps (execSweepItem s) := by
  unfold execSweepItem
  split
  · exact (((State.Kept.refl s).same (v := s.tookFrom .sweep) rfl rfl).sweepCard _ _).next
  · exact s.keeps_self

theorem State.Kept.summarise (h : s.Kept u) (r : Record) : s.Kept (u.summarise r) :=
  State.Kept.checkRoll (h.same (by rfl) (by rfl))

theorem State.keeps_daySummary (s : State) : s.Keeps (execDaySummary s) := by
  unfold execDaySummary
  split
  · split
    · have left : ∀ rest, s.Kept { s with roll := { s.roll with summary := rest } } :=
        fun _ => (State.Kept.refl s).same rfl rfl
      dsimp only
      split
      · split
        · exact ((left _).summarise _).next
        · exact (left _).next
      · exact (left _).next
    · exact s.keeps_self
  · exact s.keeps_self

theorem State.keeps_grant (s : State) : s.Keeps (execGrant s) := by
  unfold execGrant
  split
  next e aging pool _ _ =>
    have left : s.Kept { s with pool := pool } := (State.Kept.refl s).same rfl rfl
    dsimp only
    split
    · exact ((left.bump _).priceEntry e).next
    · exact (left.priceEntry e).next
  next => exact s.keeps_self

theorem State.keeps_stallResume (s : State) : s.Keeps (execStallResume s) := by
  unfold execStallResume
  split
  next p _ =>
    split
    · exact (((State.Kept.refl s).same (v := s.placeOutcome p) rfl rfl).finishPricing p).next
    · exact s.keeps_self
  next => exact s.keeps_self

theorem State.keeps_referralWork (s : State) : s.Keeps (execReferralWork s) := by
  unfold execReferralWork
  split
  · split
    · refine State.Kept.next ?_
      unfold State.createReferralWork
      dsimp only
      split
      · split <;> exact (State.Kept.refl s).same (by simp) (by simp)
      · exact (State.Kept.refl s).same rfl rfl
    · exact s.keeps_self
  · exact s.keeps_self

theorem State.keeps_lineTimeAdvance (s : State) : s.Keeps (execLineTimeAdvance s) := by
  unfold execLineTimeAdvance
  split
  · have passed : s.Kept { s with clock := { s.clock with time := s.clock.time + 1 } } := (State.Kept.refl s).same rfl rfl
    exact passed.checkOverrun.compareDeadlines.next
  · exact s.keeps_self

theorem State.keeps_unknownCommand (s : State) : s.Keeps (execUnknownCommand s) := by
  unfold execUnknownCommand
  split
  next taken =>
    obtain ⟨rest, -, -, -, rfl⟩ := State.takeKind_some taken
    split
    · exact (((State.Kept.refl s).taking rest).reply _ _).next
    · exact s.keeps_self
  next => exact s.keeps_self

theorem State.keeps_owedPortNotice (s : State) : s.Keeps (execOwedPortNotice s) := by
  unfold execOwedPortNotice
  split
  · dsimp only
    split
    · exact State.keeps_same (by simp) (by simp)
    · exact State.keeps_same rfl rfl
  · exact s.keeps_self

theorem State.keeps_lineFrameReceived (bytes : List Byte) (s : State) : s.Keeps (execLineFrameReceived bytes s) := by
  have counted := fun c => ((State.Kept.refl s).bump c).next
  unfold execLineFrameReceived
  split
  · split
    · exact counted _
    · exact counted _
    · exact counted _
    · unfold State.receiveGood
      split
      · exact counted _
      · exact State.keeps_same rfl rfl
  · exact s.keeps_self

theorem State.keeps_lineCarrierReturn (s : State) : s.Keeps (execLineCarrierReturn s) := by
  unfold execLineCarrierReturn
  split
  · exact s.keeps_self
  · exact State.keeps_same rfl rfl

theorem State.keeps_upstreamFrameSent (s : State) : s.Keeps (execUpstreamFrameSent s) := by
  unfold execUpstreamFrameSent
  split
  · exact State.keeps_same rfl rfl
  · exact s.keeps_self

theorem State.keeps_owedRollDone (s : State) : s.Keeps (execOwedRollDone s) := by
  unfold execOwedRollDone
  split
  · split
    · exact State.keeps_same rfl rfl
    · exact s.keeps_self
  · exact s.keeps_self

/-- A command that, where it acts, leaves ports and queue alone. -/
theorem State.keeps_ite {p : Prop} [Decidable p] (ports : u.ports = s.ports) (pending : u.pending = s.pending) :
    s.Keeps (if p then .next u else .next s) := by
  split
  · exact State.keeps_same ports pending
  · exact s.keeps_self

end

/-! ## Every command -/

/-- Every command answers a next state, leaves the queue behind it alone, and keeps the credit law. -/
theorem exec_keeps (c : Instr) (s : State) : s.Keeps (exec c s) := by
  cases c
  case powerOnReset => exact State.Kept.next ⟨rfl, fun _ => State.reset_creditLaw⟩
  case gateCarrierLoss p => exact s.keeps_gateCarrierLoss p
  case gateCarrierReturn p => exact s.keeps_gateCarrierReturn p
  case tap p f => exact s.keeps_tap p f
  case beacon p n d => exact State.keeps_onFrame fun _ => (s.kept_clearRun p).applyBeacon p _ d
  case hubState p alarm code => exact s.keeps_hubState p alarm code
  case attachAck p b echo first => exact s.keeps_attachAck p b echo first
  case badFrame p => exact s.keeps_badFrame p
  case gateFrameSent p => exact s.keeps_gateFrameSent p
  case attachTimeout p => exact s.keeps_attachTimeout p
  case beaconTimeout p => exact s.keeps_beaconTimeout p
  case lineTimeAdvance => exact s.keeps_lineTimeAdvance
  case expiryDue => exact State.keeps_same rfl rfl
  case referralDue slot => exact State.keeps_ite rfl rfl
  case lineFrameReceived bytes => exact s.keeps_lineFrameReceived bytes
  case lineCarrierLoss => exact State.keeps_ite rfl rfl
  case lineCarrierReturn => exact s.keeps_lineCarrierReturn
  case upstreamFrameSent => exact s.keeps_upstreamFrameSent
  case load => exact State.keeps_takeKind fun f _ h => h.load f
  case referralAnswer => exact State.keeps_takeKind fun f _ h => h.referralAnswer f
  case view => exact State.keeps_takeKind fun f _ h => h.view f
  case portAttach => exact State.keeps_takeCommand fun f _ h => h.portAttach f
  case portDetach => exact State.keeps_takeCommand fun f _ h => h.portDetach f
  case setPortOptions => exact State.keeps_takeCommand fun f _ h => h.setPortOptions f
  case clearAttention => exact State.keeps_takeCommand fun f _ h => h.clearAttention f
  case setTime => exact State.keeps_takeCommand fun f _ h => h.setTime f
  case rollDay => exact State.keeps_takeCommand fun f _ h => h.rollDay f
  case arm => exact State.keeps_takeCommand fun f _ h => h.arm f
  case disarm => exact State.keeps_takeCommand fun f _ h => h.disarm f
  case copyActive => exact State.keeps_takeCommand fun f _ h => h.copyActive f
  case copyRow => exact State.keeps_same rfl rfl
  case copyComplete => exact State.keeps_ite (State.copyReply_ports _ _) (State.copyReply_pending _ _)
  case setDisposition => exact State.keeps_takeCommand fun f _ h => h.setDisposition f
  case captureCounters => exact State.keeps_takeCommand fun f _ h => h.captureCounters f
  case engineReset => exact State.keeps_takeCommand fun f _ h => h.engineReset f
  case unknownCommand => exact s.keeps_unknownCommand
  case tapStep => exact s.keeps_tapStep
  case tapNotice => exact s.keeps_tapNotice
  case expiryStep => exact s.keeps_expiryStep
  case chainVisit => exact s.keeps_chainVisit
  case sweepItem => exact s.keeps_sweepItem
  case slotWaitResume => exact s.keeps_slotWaitResume
  case grant => exact s.keeps_grant
  case stallResume => exact s.keeps_stallResume
  case referralWork => exact s.keeps_referralWork
  case daySummary => exact s.keeps_daySummary
  case owedPortNotice => exact s.keeps_owedPortNotice
  case owedDayOverrun => exact State.keeps_ite rfl rfl
  case owedRollDone => exact s.keeps_owedRollDone

/-- Settles O2, from what every command keeps (`exec_keeps`). -/
theorem everyCommandCompletes : Obligations.EveryCommandCompletes := by
  intro c s
  obtain ⟨u, completes, pending, -⟩ := exec_keeps c s
  exact ⟨u, completes, pending⟩

/-- Settles O9: a command keeps the law (`exec_keeps`), and so does a step, which runs one or idles. -/
theorem creditLawKept : Obligations.CreditLawKept := by
  refine ⟨fun s u credits h => ?_, fun s p credits => (credits p).outstanding_le⟩
  unfold step at h
  split at h
  next => cases h; exact credits
  next c rest _ =>
    obtain ⟨v, completes, -, law⟩ := exec_keeps c { s with pending := rest }
    obtain rfl : v = u := by simpa [completes] using h
    exact law credits

end Sys2Proof.Machine
end

section
/-! PROOFS. The gate ports (R23 to R43): attention, carrier, the frames from the hubs, attaching, endings, deadlines. -/

namespace Sys2Proof.Machine

open Sys2Proof

/-! ## Frames: which parts of the state an operation leaves alone -/

section
variable {l : List Part} {s u v : State}

theorem State.AgreeOutside.refl (l : List Part) (s : State) : State.AgreeOutside l s s := by
  intro part _
  cases part <;> rfl

theorem State.AgreeOutside.trans (h : State.AgreeOutside l s u) (k : State.AgreeOutside l u v) : State.AgreeOutside l s v := by
  intro part outside
  have first := h part outside
  have second := k part outside
  cases part <;> exact Eq.trans second first

theorem State.AgreeOutside.setPort (h : State.AgreeOutside l s u) (p : PortId) (q : Port) (ports : .ports ∈ l := by decide) :
    State.AgreeOutside l s (u.setPort p q) := by
  refine h.trans fun part outside => ?_
  cases part
  case ports => exact absurd ports outside
  all_goals rfl

theorem State.AgreeOutside.modPort (h : State.AgreeOutside l s u) (p : PortId) (f : Port → Port)
    (ports : .ports ∈ l := by decide) : State.AgreeOutside l s (u.modPort p f) := h.setPort p _ ports

theorem State.AgreeOutside.count (h : State.AgreeOutside l s u) (c : CounterId) (n : Nat)
    (counters : .counters ∈ l := by decide) : State.AgreeOutside l s (u.count c n) := by
  refine h.trans fun part outside => ?_
  cases part
  case counters => exact absurd counters outside
  all_goals rfl

theorem State.AgreeOutside.bump (h : State.AgreeOutside l s u) (c : CounterId) (counters : .counters ∈ l := by decide) :
    State.AgreeOutside l s (u.bump c) := h.count c 1 counters

theorem State.AgreeOutside.withLli (h : State.AgreeOutside l s u) (k : LineLink) (lli : .lli ∈ l := by decide) :
    State.AgreeOutside l s { u with lli := k } := by
  refine h.trans fun part outside => ?_
  cases part
  case lli => exact absurd lli outside
  all_goals rfl

theorem State.AgreeOutside.raise (h : State.AgreeOutside l s u) (p : PortId) (k : AttnKind) (d : AttnDetail)
    (ports : .ports ∈ l := by decide) (lli : .lli ∈ l := by decide) : State.AgreeOutside l s (u.raise p k d) := by
  refine h.trans fun part outside => ?_
  cases part
  case ports => exact absurd ports outside
  case lli => exact absurd lli outside
  all_goals simp [Part.same]

theorem State.AgreeOutside.release (h : State.AgreeOutside l s u) (p : PortId) (st : PortState)
    (ports : .ports ∈ l := by decide) (pool : .pool ∈ l := by decide) (roll : .roll ∈ l := by decide) :
    State.AgreeOutside l s (u.release p st) := by
  refine h.trans fun part outside => ?_
  cases part
  case ports => exact absurd ports outside
  case pool => exact absurd pool outside
  case roll => exact absurd roll outside
  all_goals simp [Part.same]

theorem State.AgreeOutside.completeDetach (h : State.AgreeOutside l s u) (p : PortId)
    (ports : .ports ∈ l := by decide) (roll : .roll ∈ l := by decide) (lli : .lli ∈ l := by decide) :
    State.AgreeOutside l s (u.completeDetach p) := by
  refine h.trans fun part outside => ?_
  cases part
  case ports => exact absurd ports outside
  case roll => exact absurd roll outside
  case lli => exact absurd lli outside
  all_goals simp [Part.same]

end

theorem State.release_roll (p : PortId) (st : PortState) (s : State) :
    (s.release p st).roll = { s.roll with paused := (s.release p st).roll.paused } := by
  obtain ⟨b, hb⟩ := State.offerSweepIfFell_roll s.reservation
    { s.setPort p { s.port p with
        st := st, attachment := (s.port p).attachment + 1, outstanding := 0, transmit := []
        tracker := (s.port p).tracker.stop } with
      pool := { s.pool with releasedTaps := s.pool.releasedTaps + (s.port p).outstanding } }
  have same : (s.release p st).roll = { s.roll with paused := b } := hb
  rw [same]

theorem State.completeDetach_roll (p : PortId) (s : State) :
    (s.completeDetach p).roll = { s.roll with paused := (s.completeDetach p).roll.paused } := by
  obtain ⟨b, hb⟩ := State.offerSweepIfFell_roll s.reservation
    (s.setPort p { (s.port p).place (.detach p) with st := .present, tracker := (s.port p).tracker.stop })
  have same : (s.completeDetach p).roll = { s.roll with paused := b } := (State.raise_roll _ _ _ _).trans hb
  rw [same]

/-! ## Attention (R38, R39) -/

section
variable {p : PortId} {k : AttnKind} {s : State}

theorem State.raise_latched (h : (s.port p).attention.has k = true) (d : AttnDetail) : s.raise p k d = s := if_pos h

/-- What the line link holds after an attention event of a kind not latched. -/
theorem State.raise_lli_eq (h : (s.port p).attention.has k = false) (d : AttnDetail) : (s.raise p k d).lli =
    if (s.port p).mask.has k = true then s.lli
    else if s.lli.hasPlaceFor (s.port p).cls = true then
      s.lli.push (.portNotice p k d ((s.port p).attention ||| k.only)) (s.port p).cls
    else { s.lli with owed := s.lli.owed ++ [⟨p, k, d⟩] } := by
  by_cases masked : (s.port p).mask.has k = true
  · simp [State.raise, h, masked]
  · by_cases place : s.lli.hasPlaceFor (s.port p).cls = true
    · simp only [State.raise, h, masked, place, State.setPort_lli, if_true, if_false, Bool.false_eq_true]
      cases (s.port p).cls <;> rfl
    · simp [State.raise, h, masked, place]

end

/-- Settles O20, case by case of `State.raise_lli_eq`. -/
theorem attentionRaised : Obligations.AttentionRaised := by
  intro p k d s
  refine ⟨fun latched => State.raise_latched latched d, fun fresh => ?_⟩
  refine ⟨(State.AgreeOutside.refl _ s).raise p k d, s.raise_others p k d, s.raise_port p k d, fun masked => ?_,
    fun unmasked => ⟨fun full => ?_, fun place cls => ?_, fun place cls => ?_⟩⟩ <;> rw [State.raise_lli_eq fresh]
  · rw [if_pos masked]
  · rw [if_neg (by simp [unmasked]), if_neg (by simp [full])]
  · rw [if_neg (by simp [unmasked]), if_pos place, cls]; rfl
  · rw [if_neg (by simp [unmasked]), if_pos place, cls]; rfl

/-! ## Carrier (R24, R25) -/

/-- A port whose carrier is lost: the flag off, nothing left to send (R24, R35). -/
def Port.loseCarrier (q : Port) : Port := { q with carrier := false, transmit := [] }

/-- A port whose carrier is back. -/
def Port.regainCarrier (q : Port) : Port := { q with carrier := true }

/-- A port that a carrier loss does not release, after it: IDLE, an attach abandoned, but for an ATTACHED one. -/
def Port.afterLoss (q : Port) : Port :=
  match q.st with
  | .attached => q
  | .attaching => q.leaveAttaching .idle
  | _ => { q with st := .idle }

/-- A port after the return of its carrier. -/
def Port.afterReturn (q : Port) : Port :=
  match q.st with
  | .idle => { q with st := .present }
  | .attached => q.placeFreeCredit
  | _ => q

/-- A carrier change noticed (R24): the port's flag changed by `f`, and CARRIER_CHANGE raised. -/
def State.carrierChanged (p : PortId) (f : Port → Port) (on : Bool) (s : State) : State :=
  (s.modPort p f).raise p .carrierChange (.carrier on)

theorem State.carrierChanged_port (p : PortId) (f : Port → Port) (on : Bool) (s : State) :
    (s.carrierChanged p f on).port p =
      { f (s.port p) with attention := (f (s.port p)).attention ||| AttnKind.carrierChange.only } := by
  rw [State.carrierChanged, State.raise_port, State.modPort_port]

theorem State.OtherPortsKept.carrierChanged (p : PortId) (f : Port → Port) (on : Bool) (s : State) :
    s.OtherPortsKept p (s.carrierChanged p f on) := ((State.otherPortsKept_refl p s).modPort f).raise _ _

/-- A change of the port that leaves its attention, mask and class alone is not seen by the notice of an attention event. -/
theorem State.raise_lli_modPort {p : PortId} {f : Port → Port} {s : State} (k : AttnKind) (d : AttnDetail)
    (attention : (f (s.port p)).attention = (s.port p).attention) (mask : (f (s.port p)).mask = (s.port p).mask)
    (cls : (f (s.port p)).cls = (s.port p).cls) : ((s.modPort p f).raise p k d).lli = (s.raise p k d).lli :=
  State.raise_lli_congr _ _ (by rw [State.modPort_port, attention]) (by rw [State.modPort_port, mask])
    (by rw [State.modPort_port, cls]) rfl

theorem State.carrierChanged_lli {p : PortId} {f : Port → Port} {on : Bool} {s : State}
    (attention : (f (s.port p)).attention = (s.port p).attention) (mask : (f (s.port p)).mask = (s.port p).mask)
    (cls : (f (s.port p)).cls = (s.port p).cls) :
    (s.carrierChanged p f on).lli = (s.raise p .carrierChange (.carrier on)).lli :=
  State.raise_lli_modPort _ _ attention mask cls

@[simp] theorem State.carrierChanged_pool (p : PortId) (f : Port → Port) (on : Bool) (s : State) :
    (s.carrierChanged p f on).pool = s.pool := by simp [State.carrierChanged]

@[simp] theorem State.carrierChanged_roll (p : PortId) (f : Port → Port) (on : Bool) (s : State) :
    (s.carrierChanged p f on).roll = s.roll := by simp [State.carrierChanged]

theorem State.modPort_congr {p : PortId} {f g : Port → Port} {s : State} (h : f (s.port p) = g (s.port p)) :
    s.modPort p f = s.modPort p g := congrArg (fun q => s.setPort p q) h

theorem State.modPort_fixed {p : PortId} {f : Port → Port} {s : State} (h : f (s.port p) = s.port p) : s.modPort p f = s := by
  rw [State.modPort, h, State.setPort_self]

theorem Port.afterLoss_of_not_attaching {q : Port} (attached : q.st ≠ .attached) (attaching : q.st ≠ .attaching) :
    q.afterLoss = { q with st := .idle } := by
  unfold Port.afterLoss
  split
  next st => exact absurd st attached
  next st => exact absurd st attaching
  next => rfl

/-- A carrier loss notices the change, then releases the port or ends what it was doing (R24). -/
theorem exec_gateCarrierLoss {p : PortId} {s : State} (h : (s.port p).carrier = true) : exec (.gateCarrierLoss p) s =
    .next (if (s.port p).releasedByLoss = true then (s.carrierChanged p Port.loseCarrier false).release p .idle
      else (s.carrierChanged p Port.loseCarrier false).modPort p Port.afterLoss) := by
  have st : ((s.carrierChanged p Port.loseCarrier false).port p).st = (s.port p).st := by rw [State.carrierChanged_port]; rfl
  have auto : ((s.carrierChanged p Port.loseCarrier false).port p).autoDetach = (s.port p).autoDetach := by
    rw [State.carrierChanged_port]; rfl
  have step : exec (.gateCarrierLoss p) s = (let t := s.carrierChanged p Port.loseCarrier false
      match (t.port p).st with
      | .idle => .next t
      | .present => .next (t.modPort p fun q => { q with st := .idle })
      | .faulted => .next (t.modPort p fun q => { q with st := .idle })
      | .attaching => .next (t.modPort p (Port.leaveAttaching .idle))
      | .detaching => .next (t.release p .idle)
      | .attached => .next (if (t.port p).autoDetach then t.release p .idle else t)) := if_pos h
  rw [step]
  generalize s.carrierChanged p Port.loseCarrier false = t at st auto
  dsimp only
  rw [auto]
  cases hs : (s.port p).st <;> rw [hs] at st <;> simp only [st, Port.releasedByLoss, hs]
  case attached =>
    cases (s.port p).autoDetach
    · exact congrArg _ (State.modPort_fixed (by simp [Port.afterLoss, st])).symm
    · rfl
  case detaching => rfl
  case idle => 
    refine congrArg _ (State.modPort_fixed ?_).symm
    rw [Port.afterLoss_of_not_attaching (by simp [st]) (by simp [st]), ← st]
  all_goals exact congrArg _ (State.modPort_congr (by simp [Port.afterLoss, st]))

/-- A port with carrier that a loss does not release, after it. -/
theorem Port.afterLoss_eq {q : Port} (h : q.releasedByLoss = false) : q.afterLoss = { q with
    st := if q.st = .attached ∧ q.autoDetach = false then .attached else .idle
    attachDeadline := if q.st = .attaching then none else q.attachDeadline
    attachFallenDue := if q.st = .attaching then false else q.attachFallenDue } := by
  obtain ⟨st, carrier, auto⟩ := q
  cases st <;> simp_all [Port.afterLoss, Port.releasedByLoss, Port.leaveAttaching]

/-- Settles O21: the port released, or left by its state (`exec_gateCarrierLoss`). -/
theorem gateCarrierLoss : Obligations.GateCarrierLoss := by
  intro p s carrier
  have changed : State.AgreeOutside [.ports, .pool, .roll, .lli] s (s.carrierChanged p Port.loseCarrier false) :=
    ((State.AgreeOutside.refl _ s).modPort p _).raise _ _ _
  have others := State.OtherPortsKept.carrierChanged p Port.loseCarrier false s
  have lli : (s.carrierChanged p Port.loseCarrier false).lli = (s.raise p .carrierChange (.carrier false)).lli :=
    State.carrierChanged_lli rfl rfl rfl
  refine ⟨_, exec_gateCarrierLoss carrier, ?_⟩
  by_cases released : (s.port p).releasedByLoss = true
  · have left : (s.port p).st ≠ .attaching ∧ ¬((s.port p).st = .attached ∧ (s.port p).autoDetach = false) := by
      simp only [Port.releasedByLoss, Bool.or_eq_true, Bool.and_eq_true, beq_iff_eq] at released
      constructor <;> rintro h <;> simp_all
    rw [if_pos released]
    simp only [released, left.1, left.2, if_true, if_false]
    refine ⟨changed.release p _, others.release _, ?_, ?_, ?_, ?_⟩
    · rw [State.release_lli, lli]
    · rw [← State.carrierChanged_roll p Port.loseCarrier false s]; exact State.release_roll _ _ _
    · rw [State.release_pool, State.carrierChanged_pool, State.carrierChanged_port]; rfl
    · rw [State.release_port, State.carrierChanged_port]; rfl
  · rw [if_neg released]
    simp only [released]
    refine ⟨changed.modPort p _, others.modPort _, lli, ?_, ?_, ?_⟩
    · rw [State.modPort_roll, State.carrierChanged_roll]
    · rw [State.modPort_pool, State.carrierChanged_pool]; rfl
    · rw [State.modPort_port, State.carrierChanged_port]
      refine (Port.afterLoss_eq ?_).trans rfl
      exact Bool.eq_false_of_not_eq_true released

theorem Port.afterReturn_eq (q : Port) : q.afterReturn =
    if q.st = .idle then { q with st := .present }
    else if q.st = .attached then q.placeFreeCredit
    else q := by
  cases hs : q.st <;> simp [Port.afterReturn, hs]

/-- A carrier return notices the change, then acts by the port's state (R24). -/
theorem exec_gateCarrierReturn {p : PortId} {s : State} (h : (s.port p).carrier = false) : exec (.gateCarrierReturn p) s =
    .next ((s.carrierChanged p Port.regainCarrier true).modPort p Port.afterReturn) := by
  have step : exec (.gateCarrierReturn p) s = (let t := s.carrierChanged p Port.regainCarrier true
      match (t.port p).st with
      | .idle => .next (t.modPort p fun q => { q with st := .present })
      | .attached => .next (t.modPort p Port.placeFreeCredit)
      | _ => .next t) := if_neg (by simp [h])
  rw [step]
  generalize s.carrierChanged p Port.regainCarrier true = t
  dsimp only
  cases st : (t.port p).st
  case idle => exact congrArg _ (State.modPort_congr (by simp [Port.afterReturn_eq, st]))
  case attached => exact congrArg _ (State.modPort_congr (by simp [Port.afterReturn_eq, st]))
  all_goals exact congrArg _ (State.modPort_fixed (by simp [Port.afterReturn_eq, st])).symm

/-- Settles O22, from `exec_gateCarrierReturn`. -/
theorem gateCarrierReturn : Obligations.GateCarrierReturn := by
  intro p s carrier
  refine ⟨_, exec_gateCarrierReturn carrier, State.AgreeOutside.modPort (State.AgreeOutside.raise
    ((State.AgreeOutside.refl _ s).modPort p _) p _ _) p _, (State.OtherPortsKept.carrierChanged p _ true s).modPort _,
    State.carrierChanged_lli rfl rfl rfl, ?_⟩
  rw [State.modPort_port, State.carrierChanged_port, Port.afterReturn_eq]
  rfl

/-! ## Good frames (R30 to R32) -/

theorem Port.frameCase_of_st {q : Port} (carrier : q.carrier = true) :
    (q.st = .present ∨ q.st = .attaching → q.frameCase = .unexpected) ∧ (q.st = .faulted → q.frameCase = .ignored) := by
  unfold Port.frameCase
  rw [if_pos carrier]
  cases q.st <;> simp

theorem Port.ackCase_of_st {q : Port} (carrier : q.carrier = true) :
    (q.st = .present ∨ q.st = .attached ∨ q.st = .detaching → q.ackCase = .unexpected) ∧
      (q.st = .faulted → q.ackCase = .ignored) := by
  unfold Port.ackCase
  rw [if_pos carrier]
  cases q.st <;> simp

/-- Settles O23: the case of R30 decides, whatever the frame carries. -/
theorem unexpectedFrames : Obligations.UnexpectedFrames := by
  intro p s carrier
  obtain ⟨unexpected, ignored⟩ := Port.frameCase_of_st carrier
  obtain ⟨ackUnexpected, ackIgnored⟩ := Port.ackCase_of_st carrier
  refine ⟨fun i kind => ?_, fun b e n => ⟨fun st => ?_, fun st => ?_⟩⟩
  · obtain ⟨act, step⟩ : ∃ act, exec i s = .next (s.onFrame p (s.port p).frameCase act) := by
      rcases kind with ⟨f, rfl⟩ | ⟨h, d, rfl⟩ | ⟨a, c, rfl⟩ <;> exact ⟨_, rfl⟩
    rw [step]
    exact ⟨fun st => by rw [unexpected st]; rfl, fun st => by rw [ignored st]; rfl⟩
  · change Host.Outcome.next (s.onFrame p (s.port p).ackCase _) = _
    rw [ackUnexpected st]; rfl
  · change Host.Outcome.next (s.onFrame p (s.port p).ackCase _) = _
    rw [ackIgnored st]; rfl

/-- A frame taken acts once the bad-frame run is cleared (R30). -/
theorem State.onFrame_taken {p : PortId} {s : State} {c : FrameCase} (h : c = .taken) (act : State → State) :
    s.onFrame p c act = act (s.clearRun p) := by rw [h]; rfl

/-- Settles O26: a HUB_STATE as it is taken (`State.onFrame_taken`), a sent frame by the carrier. -/
theorem hubStatesAndSentFrames : Obligations.HubStatesAndSentFrames := by
  refine ⟨fun p code s carrier st => ?_, fun p f rest s list => ⟨fun carrier => ?_, fun carrier => ?_⟩⟩
  · have taken : (s.port p).frameCase = .taken := Port.frameCase_eq_taken.2 ⟨carrier, Port.inReservation_eq_true.2 st⟩
    exact ⟨congrArg _ (State.onFrame_taken taken _), congrArg _ (State.onFrame_taken taken _)⟩
  · have sent : execGateFrameSent p s = .next (s.modPort p fun q => { q with transmit := q.transmit.tail }) := if_pos carrier
    change execGateFrameSent p s = _
    rw [sent, State.modPort, list]
    rfl
  · exact if_neg (by simp [carrier])

end Sys2Proof.Machine
end

section
/-! PROOFS. The gate ports (R27 to R42): attaching, bad frames, deadlines, the endings of taps, gate answers, taps. -/

namespace Sys2Proof.Machine

open Sys2Proof

/-! ## Attaching (R28, R29) -/

theorem State.raise_lli_clearRun (p : PortId) (k : AttnKind) (d : AttnDetail) (s : State) :
    ((s.clearRun p).raise p k d).lli = (s.raise p k d).lli := State.raise_lli_modPort k d rfl rfl rfl

theorem State.failAttach_port (p : PortId) (c : AttachCause) (s : State) : (s.failAttach p c).port p =
    { s.port p with
      st := .faulted, attachDeadline := none, attachFallenDue := false
      attention := (s.port p).attention ||| AttnKind.attachFailed.only } := by
  rw [State.failAttach, State.raise_port, State.modPort_port]
  rfl

theorem State.failAttach_lli (p : PortId) (c : AttachCause) (s : State) :
    (s.failAttach p c).lli = (s.raise p .attachFailed (.cause c)).lli := State.raise_lli_modPort _ _ rfl rfl rfl

theorem State.AgreeOutside.failAttach {l : List Part} {s u : State} (h : State.AgreeOutside l s u) (p : PortId)
    (c : AttachCause) (ports : .ports ∈ l := by decide) (lli : .lli ∈ l := by decide) :
    State.AgreeOutside l s (u.failAttach p c) := (h.modPort p _ ports).raise p _ _ ports lli

theorem State.OtherPortsKept.failAttach {p : PortId} {s u : State} (h : s.OtherPortsKept p u) (c : AttachCause) :
    s.OtherPortsKept p (u.failAttach p c) := (h.modPort _).raise _ _

/-- What an ATTACH_ACK that is taken does (R28). -/
theorem exec_attachAck_taken {p : PortId} {s : State} (carrier : (s.port p).carrier = true)
    (st : (s.port p).st = .attaching) (b : Bool) (echo : Byte) (first : TapNo) :
    exec (.attachAck p b echo first) s = .next (
      if b then
        if echo.toNat = p.val then ((s.clearRun p).modPort p (Port.attach first)).raise p .attachDone (.firstTap first)
        else (s.clearRun p).failAttach p .wrongPort
      else (s.clearRun p).failAttach p .negative) :=
  congrArg _ (State.onFrame_taken (Port.ackCase_eq_taken.2 ⟨carrier, st⟩) _)

/-- Settles O27: the attach done, or failed with its cause (`exec_attachAck_taken`). -/
theorem attachAckEndsAttach : Obligations.AttachAckEndsAttach := by
  intro p b echo first s carrier st
  dsimp only
  have cleared : State.AgreeOutside [.ports, .lli] s (s.clearRun p) := (State.AgreeOutside.refl _ s).modPort p _
  have others : s.OtherPortsKept p (s.clearRun p) := (State.otherPortsKept_refl p s).modPort _
  have failed : ∀ c : AttachCause, ((s.clearRun p).failAttach p c).lli = (s.raise p .attachFailed (.cause c)).lli := fun c => by
    rw [State.failAttach_lli, State.raise_lli_clearRun]
  refine ⟨_, exec_attachAck_taken carrier st b echo first, ?_⟩
  cases b with
  | false =>
    refine ⟨cleared.failAttach p _, others.failAttach _, nofun, nofun, fun _ => ⟨failed _, ?_⟩⟩
    exact (State.failAttach_port _ _ _).trans (by rw [State.clearRun_port])
  | true =>
    by_cases same : echo.toNat = p.val
    · rw [if_pos rfl, if_pos same]
      refine ⟨State.AgreeOutside.raise (cleared.modPort p _) p _ _, (others.modPort _).raise _ _, fun _ _ => ⟨?_, ?_⟩,
        fun _ h => absurd same h, nofun⟩
      · rw [State.raise_lli_modPort _ _ rfl rfl rfl, State.raise_lli_clearRun]
      · rw [State.raise_port, State.modPort_port, State.clearRun_port]
        rfl
    · rw [if_pos rfl, if_neg same]
      refine ⟨cleared.failAttach p _, others.failAttach _, fun _ h => absurd h same, fun _ _ => ⟨failed _, ?_⟩, nofun⟩
      rw [State.failAttach_port, State.clearRun_port]

/-! ## Bad frames (R31) -/

/-- A run below its sixteenth bad frame only advances. -/
theorem State.advanceRun_below {p : PortId} {s : State} (h : (s.port p).badRun + 1 < 16) :
    s.advanceRun p = s.setPort p { s.port p with badRun := (s.port p).badRun + 1 } := by
  have run : min 16 ((s.port p).badRun + 1) = (s.port p).badRun + 1 := by omega
  have kept : s.advanceRun p = s.setPort p { s.port p with badRun := min 16 ((s.port p).badRun + 1) } := if_neg (by omega)
  rw [kept, run]

/-- The sixteenth faults the port: its attach abandoned, or the port released. -/
theorem State.advanceRun_sixteenth {p : PortId} {s : State} (h : (s.port p).badRun = 15) :
    s.advanceRun p = State.raise p .fault .nothing
      (let t := s.modPort p fun q => { q with badRun := 16 }
       if (s.port p).st = .attaching then t.modPort p (Port.leaveAttaching .faulted) else t.release p .faulted) := by
  have run : (s.modPort p fun q => { q with badRun := min 16 (q.badRun + 1) }) = s.modPort p fun q => { q with badRun := 16 } :=
    State.modPort_congr (by rw [h]; rfl)
  unfold State.advanceRun
  rw [run, h]
  rfl

theorem State.raise_lli_release {p : PortId} {s : State} (st : PortState) (k : AttnKind) (d : AttnDetail) :
    ((s.release p st).raise p k d).lli = (s.raise p k d).lli :=
  State.raise_lli_congr _ _ (by rw [State.release_port]) (by rw [State.release_port]) (by rw [State.release_port])
    (State.release_lli _ _ _)

theorem exec_badFrame {p : PortId} {s : State} (carrier : (s.port p).carrier = true) :
    ((s.port p).st = .present ∨ (s.port p).st = .faulted → exec (.badFrame p) s = .next (s.bump (.port p .badFrames))) ∧
    ((s.port p).st = .attaching ∨ (s.port p).st = .attached ∨ (s.port p).st = .detaching →
      exec (.badFrame p) s = .next ((s.bump (.port p .badFrames)).advanceRun p)) := by
  simp only [exec, execBadFrame, carrier, if_true]
  cases (s.port p).st <;> simp

/-- The sixteenth bad frame of a run counted, before the port is faulted. -/
def State.countSixteenth (p : PortId) (s : State) : State :=
  (s.bump (.port p .badFrames)).modPort p fun q => { q with badRun := 16 }

section
variable (p : PortId) (s : State)

theorem State.countSixteenth_port : (s.countSixteenth p).port p = { s.port p with badRun := 16 } := State.modPort_port _ p _

theorem State.countSixteenth_others : s.OtherPortsKept p (s.countSixteenth p) := State.OtherPortsKept.modPort (fun _ _ => rfl) _

theorem State.countSixteenth_raise_lli (k : AttnKind) (d : AttnDetail) :
    ((s.countSixteenth p).raise p k d).lli = (s.raise p k d).lli :=
  (State.raise_lli_modPort k d rfl rfl rfl).trans (State.raise_lli_congr k d rfl rfl rfl rfl)

end

theorem State.AgreeOutside.countSixteenth {l : List Part} {s u : State} (h : State.AgreeOutside l s u) (p : PortId)
    (ports : .ports ∈ l := by decide) (counters : .counters ∈ l := by decide) :
    State.AgreeOutside l s (u.countSixteenth p) := (h.bump _ counters).modPort p _ ports

/-- Settles O28: counted, and the run advanced below and at its sixteenth. -/
theorem badFrameCounted : Obligations.BadFrameCounted := by
  intro p s carrier
  dsimp only
  obtain ⟨only, run⟩ := exec_badFrame carrier
  have others := s.countSixteenth_others p
  refine ⟨only, fun st below => ?_, fun st last => ?_, fun st last => ?_⟩
  · rw [run st, State.advanceRun_below (s := s.bump _) below]
    rfl
  · have faulted : exec (.badFrame p) s =
        .next (((s.countSixteenth p).modPort p (Port.leaveAttaching .faulted)).raise p .fault .nothing) := by
      rw [run (.inl st), State.advanceRun_sixteenth (s := s.bump _) last]
      exact congrArg (fun t : State => Host.Outcome.next (t.raise p .fault .nothing)) (if_pos st)
    refine ⟨_, faulted,
      State.AgreeOutside.raise (State.AgreeOutside.modPort ((State.AgreeOutside.refl _ s).countSixteenth p) p _) p _ _,
      (others.modPort _).raise _ _, State.raise_counters _ _ _ _, ?_, ?_⟩
    · exact (State.raise_lli_modPort _ _ rfl rfl rfl).trans (s.countSixteenth_raise_lli p _ _)
    · rw [State.raise_port, State.modPort_port, State.countSixteenth_port]
      rfl
  · have stays : (s.port p).st ≠ .attaching := by rcases st with st | st <;> rw [st] <;> decide
    have faulted : exec (.badFrame p) s = .next (((s.countSixteenth p).release p .faulted).raise p .fault .nothing) := by
      rw [run (.inr st), State.advanceRun_sixteenth (s := s.bump _) last]
      exact congrArg (fun t : State => Host.Outcome.next (t.raise p .fault .nothing)) (if_neg stays)
    refine ⟨_, faulted,
      State.AgreeOutside.raise (State.AgreeOutside.release ((State.AgreeOutside.refl _ s).countSixteenth p) p _) p _ _,
      (others.release _).raise _ _, ?_, ?_, ?_, ?_, ?_⟩
    · rw [State.raise_counters, State.release_counters]
      rfl
    · exact (State.raise_lli_release _ _ _).trans (s.countSixteenth_raise_lli p _ _)
    · rw [State.raise_pool, State.release_pool, State.countSixteenth_port]
      rfl
    · rw [State.raise_roll]
      exact State.release_roll _ _ _
    · rw [State.raise_port, State.release_port, State.countSixteenth_port]

/-! ## Deadlines (R29, R47, R52) -/

/-- A deadline is due at or below line time, or where it has become due before (R47). -/
theorem State.isDue_iff (s : State) (fallen : Bool) (d : Nat) : s.isDue fallen d = true ↔ d ≤ s.clock.time ∨ fallen = true := by
  simp [State.isDue, or_comm]

theorem State.isDue_eq_false {s : State} {fallen : Bool} {d : Nat} (later : s.clock.time < d) (h : fallen = false) :
    s.isDue fallen d = false := by simp [State.isDue, h, later]

/-- Settles O29: each deadline by whether it is due (`State.isDue_iff`). -/
theorem portDeadlinesFire : Obligations.PortDeadlinesFire := by
  intro p d s
  refine ⟨fun deadline st => ⟨fun due => ?_, fun later fallen => ?_⟩, fun deadline => ⟨fun due => ?_, fun later fallen => ?_⟩⟩
  · have acts : (s.port p).st = .attaching ∧ s.isDue (s.port p).attachFallenDue d = true := ⟨st, (s.isDue_iff _ _).2 due⟩
    simp only [exec, execAttachTimeout, deadline, if_pos acts]
    rfl
  · simp [exec, execAttachTimeout, deadline, State.isDue_eq_false later fallen]
  · simp only [exec, execBeaconTimeout, deadline, (s.isDue_iff _ _).2 due, if_true]
    rfl
  · simp [exec, execBeaconTimeout, deadline, State.isDue_eq_false later fallen]

/-! ## Endings of taps and gate answers (R34, R42, R104) -/

section
variable {p : PortId} {n : BitVec 16} {s : State}

theorem State.endTap_attached (current : (s.port p).attachment = n) (st : (s.port p).st = .attached) : s.endTap p n =
    s.setPort p (let q := { s.port p with outstanding := (s.port p).outstanding - 1 }
      if (s.port p).carrier = true then q.placeFreeCredit else q) := by
  simp only [State.endTap, current, st, if_true]

theorem State.endTap_detaching (current : (s.port p).attachment = n) (st : (s.port p).st = .detaching) : s.endTap p n =
    (s.setPort p { s.port p with outstanding := (s.port p).outstanding - 1 }).completeDetachIfDone p := by
  simp only [State.endTap, current, st, if_true]

theorem State.endTap_elsewhere (current : (s.port p).attachment = n) (attached : (s.port p).st ≠ .attached)
    (detaching : (s.port p).st ≠ .detaching) : s.endTap p n = s := by
  unfold State.endTap
  dsimp only
  rw [if_pos current]
  split
  next st => exact absurd st attached
  next st => exact absurd st detaching
  next => rfl

theorem State.endTap_earlier (h : (s.port p).attachment ≠ n) : s.endTap p n = State.offerSweepIfFell s.reservation
    { s with pool := { s.pool with releasedTaps := s.pool.releasedTaps - 1 } } := if_neg h

theorem State.completeDetachIfDone_of_not (h : ¬((s.port p).st = .detaching ∧ (s.port p).outstanding = 0)) :
    s.completeDetachIfDone p = s := if_neg h

theorem State.completeDetachIfDone_done (st : (s.port p).st = .detaching) (none : (s.port p).outstanding = 0) :
    s.completeDetachIfDone p = s.completeDetach p := if_pos ⟨st, none⟩

end

/-- Settles O30, an ending by the port's attachment and state. -/
theorem tapEnding : Obligations.TapEnding := by
  intro p n s
  dsimp only
  refine ⟨fun current st carrier => ?_, fun current st carrier => ?_, fun current st more => ?_, fun current st last => ?_,
    State.endTap_elsewhere, fun earlier => ?_⟩
  · rw [State.endTap_attached current st]
    simp only [carrier, if_true]
    rfl
  · rw [State.endTap_attached current st]
    simp only [carrier, Bool.false_eq_true, if_false]
  · rw [State.endTap_detaching current st, State.completeDetachIfDone_of_not]
    rw [State.setPort_port]
    rintro ⟨-, none⟩
    dsimp only at none
    omega
  · have ended : (s.port p).outstanding - 1 = 0 := Nat.sub_eq_zero_of_le (Nat.le_of_eq last)
    rw [State.endTap_detaching current st, State.completeDetachIfDone_done (by rw [State.setPort_port]; exact st)
      (by rw [State.setPort_port]; exact ended), State.completeDetach_port, State.setPort_port]
    exact ⟨rfl, ended, rfl, rfl, ((State.otherPortsKept_refl p s).setPort _).completeDetach⟩
  · rw [State.endTap_earlier earlier]
    exact ⟨State.offerSweepIfFell_ports _ _, State.offerSweepIfFell_pool _ _⟩

/-- Settles O31: the one condition that R42 asks. -/
theorem gateAnswerDelivered : Obligations.GateAnswerDelivered := by
  intro p n k a s q
  exact ⟨fun current => if_pos current, fun other => if_neg other⟩

/-! ## Tap items (R37) -/

theorem usedItems_of_no_last {items : List TapItem} (h : ∀ x ∈ items, x.last = false) : usedItems items = items := by
  induction items with
  | nil => rfl
  | cons i l ih => simp [usedItems, h i (by simp), ih fun x hx => h x (by simp [hx])]

theorem usedItems_to_last {before : List TapItem} {i : TapItem} (h : ∀ x ∈ before, x.last = false) (last : i.last = true)
    (after : List TapItem) : usedItems (before ++ i :: after) = before ++ [i] := by
  induction before with
  | nil => simp [usedItems, last]
  | cons b l ih => simp [usedItems, h b (by simp), ih fun x hx => h x (by simp [hx])]

theorem attrKindOf_code (k : AttrKind) : attrKindOf k.code = some k := by cases k <;> rfl

theorem attrKindOf_eq_none {n : Nat} (h : n = 0 ∨ 4 < n) : attrKindOf n = none := by
  unfold attrKindOf
  split
  case h_5 => rfl
  all_goals omega

theorem attrKindOf_eq_authRef {n : Nat} : attrKindOf n = some .authRef ↔ n = 4 := by
  unfold attrKindOf
  split <;> simp_all

/-- A kind that is not AUTH_REF, its JOIN flag clear, gives one attribute. -/
theorem decodeItems_single {k : AttrKind} (hk : k ≠ .authRef) {i : TapItem} (kind : i.kind.toNat = k.code)
    (join : i.join = false) (l : List TapItem) :
    decodeItems (i :: l) = (⟨k, i.value.toNat⟩ :: (decodeItems l).1, (decodeItems l).2) := by
  rw [decodeItems, kind, attrKindOf_code]
  cases k
  case authRef => exact absurd rfl hk
  all_goals simp [join]

/-- Two joined AUTH_REF items give one attribute of both values. -/
theorem decodeItems_joined {i j : TapItem} (hi : i.kind = 4) (iJoin : i.join = true) (hj : j.kind = 4) (jJoin : j.join = false)
    (l : List TapItem) : decodeItems (i :: j :: l) =
      (⟨.authRef, i.value.toNat * 65536 + j.value.toNat⟩ :: (decodeItems l).1, (decodeItems l).2) := by
  have kind : attrKindOf (4 : Byte).toNat = some .authRef := rfl
  rw [decodeItems.eq_def]
  simp only [hi, hj, kind, iJoin, jJoin, and_self, if_true]

/-- An item whose kind is no kind is malformed. -/
theorem decodeItems_unknown {i : TapItem} (h : i.kind = 0 ∨ 4 < i.kind.toNat) (l : List TapItem) :
    decodeItems (i :: l) = ([], true) := by
  have kind : attrKindOf i.kind.toNat = none := attrKindOf_eq_none (h.imp_left fun h => by rw [h]; rfl)
  rw [decodeItems.eq_def]
  simp only [kind]

/-- A joined item that is not AUTH_REF is malformed. -/
theorem decodeItems_joined_other {i : TapItem} (join : i.join = true) (h : i.kind ≠ 4) (l : List TapItem) :
    decodeItems (i :: l) = ([], true) := by
  have kind : attrKindOf i.kind.toNat ≠ some .authRef := fun e => h (BitVec.eq_of_toNat_eq (attrKindOf_eq_authRef.1 e))
  rw [decodeItems.eq_def]
  dsimp only
  split
  next => rfl
  next auth => exact absurd auth kind
  next => rw [if_pos join]

/-- An AUTH_REF item is malformed unless it is joined to an AUTH_REF item whose own JOIN flag is clear. -/
theorem decodeItems_authRef_alone {i : TapItem} (h : i.kind = 4) {l : List TapItem}
    (alone : i.join = false ∨ ∀ j m, l = j :: m → j.kind ≠ 4 ∨ j.join = true) : decodeItems (i :: l) = ([], true) := by
  have kind : attrKindOf (4 : Byte).toNat = some .authRef := rfl
  rw [decodeItems.eq_def]
  simp only [h, kind]
  cases join : i.join
  · rfl
  · cases l with
    | nil => rfl
    | cons j m =>
      have other := (alone.resolve_left (by simp [join])) j m rfl
      refine if_neg ?_
      rintro ⟨auth, clear⟩
      rcases other with other | joined
      · exact other (BitVec.eq_of_toNat_eq (attrKindOf_eq_authRef.1 auth))
      · rw [clear] at joined; cases joined

/-- Every malformed item ends the decoding with nothing more (R37). -/
theorem decodeItems_malformed {i : TapItem} {l : List TapItem}
    (h : (i.kind = 0 ∨ 4 < i.kind.toNat) ∨ (i.join = true ∧ l = []) ∨ (i.join = true ∧ ∃ j m, l = j :: m ∧ j.kind ≠ i.kind) ∨
      (i.join = true ∧ i.kind ≠ 4) ∨ (i.join = false ∧ i.kind = 4) ∨
      (i.join = true ∧ i.kind = 4 ∧ ∃ j m, l = j :: m ∧ j.kind = 4 ∧ j.join = true)) :
    decodeItems (i :: l) = ([], true) := by
  by_cases auth : i.kind = 4
  · refine decodeItems_authRef_alone auth ?_
    rcases h with (zero | big) | ⟨-, rfl⟩ | ⟨-, j, m, rfl, differs⟩ | ⟨-, other⟩ | ⟨clear, -⟩ | ⟨-, -, j, m, rfl, -, joined⟩
    · rw [auth] at zero; cases zero
    · rw [auth] at big; exact absurd big (by decide)
    · exact .inr nofun
    · refine .inr fun j' m' e => .inl ?_
      cases e
      rwa [auth] at differs
    · exact absurd auth other
    · exact .inl clear
    · refine .inr fun j' m' e => .inr ?_
      cases e
      exact joined
  · rcases h with unknown | ⟨join, -⟩ | ⟨join, -⟩ | ⟨join, -⟩ | ⟨-, other⟩ | ⟨-, other, -⟩
    · exact decodeItems_unknown unknown l
    · exact decodeItems_joined_other join auth l
    · exact decodeItems_joined_other join auth l
    · exact decodeItems_joined_other join auth l
    · exact absurd other auth
    · exact absurd other auth

/-! ## Taps (R33, R53) -/

/-- The corrected time and the unsettled mark of a decoded tap (R53). -/
theorem decodeTap_eq (p : PortId) (q : Port) (f : TapFrame) :
    let sum : Int := (f.hubTime.toNat : Int) + q.tracker.estimate
    decodeTap p q f =
      { port := p, attachment := q.attachment, tapNumber := f.tapNumber, live := f.live, direction := f.direction
        card := f.card, station := f.station.toNat, product := f.product, hubSeq := f.hubSeq, hubDay := f.hubDay
        time := if sum < 0 then 0 else if 129599 < sum then 129599 else sum.toNat
        unsettled := decide (q.tracker.seeded = false ∨ q.tracker.settled = false ∨ sum < 0 ∨ 129599 < sum)
        attrs := (decodeItems (usedItems f.items)).1 } := by
  intro sum
  have time : q.tracker.correct f.hubTime.toNat = if sum < 0 then 0 else if 129599 < sum then 129599 else sum.toNat := by
    change min 129599 sum.toNat = _
    split
    · omega
    · split <;> omega
  have marks : q.tracker.marks f.hubTime.toNat =
      decide (q.tracker.seeded = false ∨ q.tracker.settled = false ∨ sum < 0 ∨ 129599 < sum) := by
    change (!q.tracker.seeded || !q.tracker.settled || decide (sum < 0) || decide (129599 < sum)) = _
    cases q.tracker.seeded <;> cases q.tracker.settled <;> simp
  rw [decodeTap, time, marks]

section
variable (p : PortId) (f : TapFrame) (step : Nat) (s : State)

theorem State.countTap_lli : (s.countTap p f step).lli =
    if 1 < step then (s.raise p .tapGap (.lost (step - 1))).lli else s.lli := by
  have gap : ((s.count (.port p .lostTaps) (step - 1)).raise p .tapGap (.lost (step - 1))).lli =
      (s.raise p .tapGap (.lost (step - 1))).lli := State.raise_lli_congr _ _ rfl rfl rfl rfl
  unfold State.countTap
  dsimp only
  split <;> split
  · exact gap
  · rfl
  · exact gap
  · rfl

theorem State.countTap_counters : (s.countTap p f step).counters =
    (let cs := if 1 < step then s.counters.add (.port p .lostTaps) (step - 1) else s.counters
     if (decodeItems (usedItems f.items)).2 = true then cs.add (.port p .malformedItems) 1 else cs) := by
  have bumped : ∀ (c : CounterId) (t : State), (t.bump c).counters = t.counters.add c 1 := fun _ _ => rfl
  have gap : ((s.count (.port p .lostTaps) (step - 1)).raise p .tapGap (.lost (step - 1))).counters =
      s.counters.add (.port p .lostTaps) (step - 1) := State.raise_counters _ _ _ _
  unfold State.countTap
  dsimp only
  split <;> split <;> simp only [bumped, gap]

theorem State.countTap_value_lost : (s.countTap p f step).counters.value (.port p .lostTaps) =
    if 1 < step then min Config.counterMax (s.counters.value (.port p .lostTaps) + (step - 1))
    else s.counters.value (.port p .lostTaps) := by
  have apart : CounterId.port p .lostTaps ≠ .port p .malformedItems := by simp
  rw [State.countTap_counters]
  dsimp only
  split <;> split <;> simp only [Counters.value_add_other _ _ apart, Counters.value_add_same]

theorem State.countTap_value_malformed : (s.countTap p f step).counters.value (.port p .malformedItems) =
    if (decodeItems (usedItems f.items)).2 = true then min Config.counterMax (s.counters.value (.port p .malformedItems) + 1)
    else s.counters.value (.port p .malformedItems) := by
  have apart : CounterId.port p .malformedItems ≠ .port p .lostTaps := by simp
  rw [State.countTap_counters]
  dsimp only
  split <;> split <;> simp only [Counters.value_add_other _ _ apart, Counters.value_add_same]

theorem State.countTap_value_other {c : CounterId} (lost : c ≠ .port p .lostTaps) (malformed : c ≠ .port p .malformedItems) :
    (s.countTap p f step).counters.value c = s.counters.value c := by
  rw [State.countTap_counters]
  dsimp only
  split <;> split <;> simp only [Counters.value_add_other _ _ lost, Counters.value_add_other _ _ malformed]

theorem State.AgreeOutside.countTap {l : List Part} {u : State} (h : State.AgreeOutside l s u) (ports : .ports ∈ l := by decide)
    (lli : .lli ∈ l := by decide) (counters : .counters ∈ l := by decide) : State.AgreeOutside l s (u.countTap p f step) := by
  have gap := (h.count (.port p .lostTaps) (step - 1) counters).raise p .tapGap (.lost (step - 1)) ports lli
  unfold State.countTap
  dsimp only
  split <;> split
  · exact gap.bump _ counters
  · exact h.bump _ counters
  · exact gap
  · exact h

theorem State.OtherPortsKept.countTap {u : State} (h : s.OtherPortsKept p u) : s.OtherPortsKept p (u.countTap p f step) := by
  have gap : s.OtherPortsKept p ((u.count (.port p .lostTaps) (step - 1)).raise p .tapGap (.lost (step - 1))) :=
    State.OtherPortsKept.raise (u := u.count _ _) (fun r hr => h r hr) _ _
  unfold State.countTap
  dsimp only
  split <;> split
  · exact fun r hr => gap r hr
  · exact fun r hr => h r hr
  · exact gap
  · exact h

end

/-- A port that takes a tap, field by field. -/
theorem Port.takeTap_eq (p : PortId) (f : TapFrame) (step : Nat) (q : Port) : q.takeTap p f step =
    (let limit := f.tapNumber + BitVec.ofNat 16 (q.creditLimit - (q.outstanding + 1))
     { q with
       lastTaken := f.tapNumber, outstanding := q.outstanding + 1, intake := q.intake ++ [decodeTap p q f]
       transmit := if 1 < step then q.transmit.filter (fun x => !x.isCredit) ++ [.credit limit] else q.transmit
       advertised := if 1 < step then limit else q.advertised }) := by
  unfold Port.takeTap
  dsimp only
  split <;> rfl

/-- A TAP that is taken by the port's state is measured against the credit window (R33). -/
theorem exec_tap_taken {p : PortId} {s : State} (carrier : (s.port p).carrier = true)
    (st : (s.port p).st = .attached ∨ (s.port p).st = .detaching) (f : TapFrame) :
    exec (.tap p f) s = .next ((s.clearRun p).measureTap p f) :=
  congrArg _ (State.onFrame_taken (Port.frameCase_eq_taken.2 ⟨carrier, Port.inReservation_eq_true.2 st⟩) _)

theorem State.measureTap_outside {p : PortId} {s : State} {f : TapFrame}
    (h : (s.port p).step f.tapNumber = 0 ∨ (s.port p).window < (s.port p).step f.tapNumber) :
    s.measureTap p f = s.bump (.port p .overCreditTaps) := if_pos h

theorem State.measureTap_inside {p : PortId} {s : State} {f : TapFrame} (more : 1 ≤ (s.port p).step f.tapNumber)
    (inside : (s.port p).step f.tapNumber ≤ (s.port p).window) :
    s.measureTap p f = (s.countTap p f ((s.port p).step f.tapNumber)).modPort p
      (Port.takeTap p f ((s.port p).step f.tapNumber)) := if_neg (by omega)

/-- Settles O24: the window first, then what the taking does (`State.takeTap_eq`), then the tap decoded. -/
theorem tapTakenOrCounted : Obligations.TapTakenOrCounted := by
  refine ⟨fun p f s carrier st => ?_, decodeTap_eq, fun _ => usedItems_of_no_last, fun _ after _ h last =>
    usedItems_to_last h last after, rfl, fun _ _ l hk kind join => decodeItems_single hk kind join l,
    fun _ _ l hi iJoin hj jJoin => decodeItems_joined hi iJoin hj jJoin l, fun _ _ => decodeItems_malformed⟩
  intro q k w malformed
  have cPort : (s.clearRun p).port p = { q with badRun := 0 } := s.clearRun_port p
  have step : ((s.clearRun p).port p).step f.tapNumber = k := by rw [cPort]; rfl
  have window : ((s.clearRun p).port p).window = w := by rw [cPort]; rfl
  refine ⟨fun outside => ?_, fun more inside => ?_⟩
  · rw [exec_tap_taken carrier st, State.measureTap_outside (by rw [step, window]; exact outside)]
    rfl
  · have taken := State.measureTap_inside (s := s.clearRun p) (f := f) (by rw [step]; exact more)
      (by rw [step, window]; exact inside)
    have skips : 1 < k ↔ ¬k = 1 := by omega
    rw [step] at taken
    refine ⟨_, (exec_tap_taken carrier st f).trans (congrArg _ taken), ?_⟩
    refine ⟨State.AgreeOutside.modPort (State.AgreeOutside.countTap p f k s ((State.AgreeOutside.refl _ s).modPort p _)) p _,
      (State.OtherPortsKept.countTap p f k s ((State.otherPortsKept_refl p s).modPort _)).modPort _, fun c lost bad => ?_,
      ?_, ?_, ?_, ?_⟩
    · exact State.countTap_value_other p f k _ lost bad
    · refine (State.countTap_value_lost p f k _).trans ?_
      simp only [skips, ite_not]
      rfl
    · exact State.countTap_value_malformed p f k _
    · refine (State.countTap_lli p f k _).trans ?_
      simp only [skips, ite_not, State.raise_lli_clearRun]
      rfl
    · rw [State.modPort_port, State.countTap_port, Port.takeTap_eq, cPort]
      simp only [skips, ite_not]
      rfl

end Sys2Proof.Machine
end

section
/-! PROOFS. The commands of a gate port (R27, R36, R40, R41) and the owed notices (R39, R45, R174). -/

namespace Sys2Proof.Machine

open Sys2Proof

/-! ## A command taken from the receive list (R179, R193) -/

section
variable {s : State} {f : DownFrame} {rest : List DownFrame}

theorem State.Takes.answering (h : s.Takes f rest) {c : CommandCode} {args : List Byte} (hc : f.IsCommand c args)
    (g : DownFrame → State → State) : answering (s.takeCommand c) g s = .next (g f (s.taking rest)) := by
  rw [h.takeCommand hc]
  rfl

/-- The REPLY of a frame whose taking has changed a port. -/
theorem State.taking_setPort_reply (h : s.Takes f rest) (p : PortId) (q : Port) (st : Status) :
    ((s.taking rest).setPort p q).reply f st = State.answered f rest st (s.setPort p q) :=
  State.taking_reply (s := s.setPort p q) h.between st

end

/-- What a REPLY makes of the line link depends on the line link alone. -/
theorem State.reply_lli_congr {s t : State} (h : t.lli = s.lli) (f : DownFrame) (st : Status) :
    (t.reply f st).lli = (s.reply f st).lli := by
  rw [State.reply_lli, State.reply_lli, h]

theorem State.setPort_modPort (s : State) (p : PortId) (q : Port) (g : Port → Port) :
    (s.setPort p q).modPort p g = s.setPort p (g q) := by
  rw [State.modPort, State.setPort_port, State.setPort_setPort]

section
variable {l : List Part} {s u : State}

theorem State.AgreeOutside.taking (h : State.AgreeOutside l s u) (rest : List DownFrame) (lli : .lli ∈ l := by decide) :
    State.AgreeOutside l s (u.taking rest) := h.withLli _ lli

theorem State.AgreeOutside.reply (h : State.AgreeOutside l s u) (f : DownFrame) (st : Status) (lli : .lli ∈ l := by decide) :
    State.AgreeOutside l s (u.reply f st) := h.withLli _ lli

theorem State.OtherPortsKept.reply {p : PortId} (h : s.OtherPortsKept p u) (f : DownFrame) (st : Status) :
    s.OtherPortsKept p (u.reply f st) := fun r hr => h r hr

theorem State.taking_others (p : PortId) (rest : List DownFrame) (s : State) : s.OtherPortsKept p (s.taking rest) :=
  fun _ _ => rfl

end

/-- A byte at an offset. -/
theorem fieldAt_byte {body : List Byte} {n : Nat} {b : Byte} (h : body[n]? = some b) : fieldAt body n 1 = b.toNat := by
  obtain ⟨hn, rfl⟩ := List.getElem?_eq_some_iff.1 h
  rw [fieldAt, List.drop_eq_getElem_cons hn]
  exact Nat.zero_add _

/-- Two bytes at an offset, the more significant first. -/
theorem fieldAt_word {body : List Byte} {n : Nat} {hi lo : Byte} (h : body[n]? = some hi) (l : body[n + 1]? = some lo) :
    fieldAt body n 2 = 256 * hi.toNat + lo.toNat := by
  obtain ⟨hn, rfl⟩ := List.getElem?_eq_some_iff.1 h
  obtain ⟨hm, rfl⟩ := List.getElem?_eq_some_iff.1 l
  rw [fieldAt, List.drop_eq_getElem_cons hn, List.drop_eq_getElem_cons hm]
  change 256 * (256 * 0 + (body[n]).toNat) + (body[n + 1]).toNat = _
  rw [Nat.mul_zero, Nat.zero_add]

/-! ## PORT_ATTACH (R27, R47) -/

/-- An attach begun before line time is held waits for its ATTACH_ACK. -/
theorem State.beginAttach_before {s : State} (h : s.clock.time < Config.lineTimeMax) (p : PortId) (limit : Nat) :
    s.beginAttach p limit = s.setPort p { s.port p with
      creditLimit := limit, badRun := 0, attachFallenDue := false
      transmit := (s.port p).transmit ++ [.attachReq p limit 10 (s.tables.stationList p)]
      st := .attaching, attachDeadline := some (min Config.lineTimeMax (s.clock.time + 5)) } :=
  if_neg (by
    have ahead : s.clock.time < min Config.lineTimeMax (s.clock.time + 5) := by omega
    exact Nat.not_le.2 ahead)

/-- An attach begun while line time is held at 129,599 fails as it begins (R47). -/
theorem State.beginAttach_held {s : State} (h : s.clock.time = Config.lineTimeMax) (p : PortId) (limit : Nat) :
    s.beginAttach p limit = (s.setPort p { s.port p with
      creditLimit := limit, badRun := 0, attachFallenDue := false
      transmit := (s.port p).transmit ++ [.attachReq p limit 10 (s.tables.stationList p)]
      st := .faulted, attachDeadline := none }).raise p .attachFailed (.cause .timeout) := by
  have due : min Config.lineTimeMax (s.clock.time + 5) ≤ s.clock.time := by omega
  refine (if_pos due).trans ?_
  exact congrArg (fun t : State => t.raise p .attachFailed (.cause .timeout)) (s.setPort_modPort p _ _)

section
variable {s : State} {f : DownFrame}

theorem portAttachTaken_refused {n limit : Nat} (port : fieldAt f.args 0 1 = n) (asked : fieldAt f.args 1 1 = limit)
    (range : 8 ≤ n ∨ limit < 4 ∨ 64 < limit) : portAttachTaken f s = s.reply f .badArgument := by
  unfold portAttachTaken
  rw [port, asked]
  dsimp only
  split
  next => rfl
  next known =>
    have : n < 8 := by
      by_contra big
      rw [portOf_eq_none (Nat.le_of_not_lt big)] at known
      cases known
    rw [if_pos (by omega)]

/-- A PORT_ATTACH in range is decided by the port's state (R27). -/
theorem portAttachTaken_inRange {p : PortId} {limit : Nat} (port : fieldAt f.args 0 1 = p.val)
    (asked : fieldAt f.args 1 1 = limit) (low : 4 ≤ limit) (high : limit ≤ 64) :
    ((s.port p).st = .attaching ∨ (s.port p).st = .detaching → portAttachTaken f s = s.reply f .busy) ∧
    ((s.port p).st = .idle ∨ (s.port p).st = .attached → portAttachTaken f s = s.reply f .badState) ∧
    ((s.port p).st = .present ∨ (s.port p).st = .faulted →
      portAttachTaken f s = (s.beginAttach p limit).reply f .done) := by
  have admitted : ¬(limit < 4 ∨ 64 < limit) := by omega
  simp only [portAttachTaken, port, asked, portOf_val, if_neg admitted]
  cases (s.port p).st <;> simp

end

/-- Settles O43: a limit or port out of range, then the port's state. -/
theorem portAttachDecided : Obligations.PortAttachDecided := by
  intro s f rest b limit h hc
  have taken : exec .portAttach s = .next (portAttachTaken f (s.taking rest)) := h.answering hc _
  have port : fieldAt f.args 0 1 = b.toNat := by rw [hc.args_eq]; exact fieldAt_byte rfl
  have asked : fieldAt f.args 1 1 = limit.toNat := by rw [hc.args_eq]; exact fieldAt_byte rfl
  rw [taken]
  refine ⟨fun range => ?_, fun p hp low high => ?_⟩
  · rw [portAttachTaken_refused port asked range, State.taking_reply h.between]
  · obtain ⟨busy, badState, begun⟩ :=
      portAttachTaken_inRange (s := s.taking rest) (port.trans hp) asked low high
    refine ⟨fun st => ?_, fun st => ?_, fun st => ⟨fun before => ?_, fun held => ?_⟩⟩
    · rw [busy st, State.taking_reply h.between]
    · rw [badState st, State.taking_reply h.between]
    · rw [begun st, State.beginAttach_before (s := s.taking rest) before, State.taking_setPort_reply h]
      rfl
    · rw [begun st, State.beginAttach_held (s := s.taking rest) held]
      rfl

/-! ## PORT_DETACH (R36) -/

section
variable {s : State} {f : DownFrame} {p : PortId}

theorem portDetachTaken_unknown (port : 8 ≤ fieldAt f.args 0 1) : portDetachTaken f s = s.reply f .badArgument := by
  unfold portDetachTaken
  rw [portOf_eq_none port]

theorem portDetachTaken_refused (port : fieldAt f.args 0 1 = p.val)
    (refused : ¬((s.port p).st = .attached ∧ (s.port p).carrier = true)) :
    portDetachTaken f s = s.reply f .badState := by
  unfold portDetachTaken
  rw [port, portOf_val]
  exact if_neg refused

/-- A PORT_DETACH of an ATTACHED port with carrier closes the window, and the detach completes where nothing is outstanding. -/
theorem portDetachTaken_begun (port : fieldAt f.args 0 1 = p.val) (st : (s.port p).st = .attached)
    (carrier : (s.port p).carrier = true) : portDetachTaken f s =
      ((s.setPort p (s.port p).beginDetach).completeDetachIfDone p).reply f .done := by
  unfold portDetachTaken
  rw [port, portOf_val]
  exact if_pos ⟨st, carrier⟩

end

/-- Settles O44: refused, or the window closed and the detach completed where nothing is outstanding. -/
theorem portDetachDecided : Obligations.PortDetachDecided := by
  intro s f rest b h hc
  have taken : exec .portDetach s = .next (portDetachTaken f (s.taking rest)) := h.answering hc _
  have port : fieldAt f.args 0 1 = b.toNat := by rw [hc.args_eq]; exact fieldAt_byte rfl
  rw [taken]
  refine ⟨fun range => ?_, fun p hp => ?_⟩
  · rw [portDetachTaken_unknown (port ▸ range), State.taking_reply h.between]
  · have shut : ((s.taking rest).setPort p (s.port p).beginDetach).port p = (s.port p).beginDetach := State.setPort_port _ _ _
    refine ⟨fun refused => ?_, fun st carrier more => ?_, fun st carrier none => ?_⟩
    · rw [portDetachTaken_refused (s := s.taking rest) (port.trans hp) refused, State.taking_reply h.between]
    · rw [portDetachTaken_begun (s := s.taking rest) (port.trans hp) st carrier, State.completeDetachIfDone_of_not]
      · exact congrArg _ (State.taking_setPort_reply h _ _ _)
      · rw [State.setPort_port]
        exact fun done => more.ne' done.2
    · have completed : ((s.taking rest).setPort p (s.port p).beginDetach).completeDetachIfDone p =
          ((s.taking rest).setPort p (s.port p).beginDetach).completeDetach p :=
        State.completeDetachIfDone_done (by rw [shut]; rfl) (by rw [shut]; exact none)
      have begun := (portDetachTaken_begun (s := s.taking rest) (port.trans hp) st carrier).trans
        (congrArg (fun t : State => t.reply f .done) completed)
      refine ⟨_, congrArg _ begun, ?_, ?_, ?_, ?_, ?_⟩
      · exact State.AgreeOutside.reply (State.AgreeOutside.completeDetach
          (((State.AgreeOutside.refl _ s).taking rest).setPort p _) p) f _
      · exact State.OtherPortsKept.reply (State.OtherPortsKept.completeDetach ((State.taking_others p rest s).setPort _)) f _
      · exact State.completeDetach_roll p _
      · refine State.reply_lli_congr ?_ f .done
        rw [State.completeDetach_lli]
        exact State.raise_lli_modPort (s := s.taking rest) (f := Port.beginDetach) _ _ rfl rfl rfl
      · rw [State.reply_port, State.completeDetach_port, shut]
        rfl

/-! ## SET_PORT_OPTIONS and CLEAR_ATTENTION (R40, R41) -/

theorem yesNoOf_eq_none {n : Nat} (h : 2 ≤ n) : yesNoOf n = none := by
  unfold yesNoOf
  split
  case h_3 => rfl
  all_goals omega

theorem classOf_eq_none {n : Nat} (h : 2 ≤ n) : classOf n = none := by
  unfold classOf
  split
  case h_3 => rfl
  all_goals omega

/-- A word whose high byte is not 0 names a kind that is none (R193). -/
theorem attnSetOf_eq_none {h : Byte} (high : h ≠ 0) (l : Byte) : attnSetOf (256 * h.toNat + l.toNat) = none := by
  have pos : h.toNat ≠ 0 := fun zero => high (BitVec.eq_of_toNat_eq zero)
  exact if_neg (by omega)

theorem attnSetOf_low (l : Byte) : attnSetOf (256 * (0 : Byte).toNat + l.toNat) = some l := by
  have low : 256 * (0 : Byte).toNat + l.toNat = l.toNat := Nat.zero_add _
  rw [low, attnSetOf, if_pos l.isLt, BitVec.ofNat_toNat, BitVec.setWidth_eq]

/-- A port with its three options replaced (R40). -/
def Port.withOptions (auto : Bool) (mask : AttnSet) (cls : AttnClass) (q : Port) : Port :=
  { q with autoDetach := auto, mask := mask, cls := cls }

/-- The options of a port replaced, and a release where auto-detach is turned on for an ATTACHED port without carrier (R40). -/
theorem State.setOptions_eq (p : PortId) (auto : Bool) (mask : AttnSet) (cls : AttnClass) (s : State) :
    s.setOptions p auto mask cls =
      (let t := s.setPort p ((s.port p).withOptions auto mask cls)
       if auto = true ∧ (s.port p).st = .attached ∧ (s.port p).carrier = false then t.release p .idle else t) := by
  unfold State.setOptions
  dsimp only
  rw [State.modPort_port]
  rfl

section
variable {s : State} {f : DownFrame}

theorem setPortOptionsTaken_refused
    (h : portOf (fieldAt f.args 0 1) = none ∨ yesNoOf (fieldAt f.args 1 1) = none ∨ attnSetOf (fieldAt f.args 2 2) = none ∨
      classOf (fieldAt f.args 4 1) = none) : setPortOptionsTaken f s = s.reply f .badArgument := by
  unfold setPortOptionsTaken
  split
  next port auto mask cls => simp [port, auto, mask, cls] at h
  next => rfl

theorem setPortOptionsTaken_set {p : PortId} {auto : Bool} {mask : AttnSet} {cls : AttnClass}
    (port : portOf (fieldAt f.args 0 1) = some p) (yes : yesNoOf (fieldAt f.args 1 1) = some auto)
    (kinds : attnSetOf (fieldAt f.args 2 2) = some mask) (named : classOf (fieldAt f.args 4 1) = some cls) :
    setPortOptionsTaken f s = (s.setOptions p auto mask cls).reply f .done := by
  simp only [setPortOptionsTaken, port, yes, kinds, named]

theorem clearAttentionTaken_refused (h : portOf (fieldAt f.args 0 1) = none ∨ attnSetOf (fieldAt f.args 1 2) = none) :
    clearAttentionTaken f s = s.reply f .badArgument := by
  unfold clearAttentionTaken
  split
  next port kinds => simp [port, kinds] at h
  next => rfl

theorem clearAttentionTaken_cleared {p : PortId} {kinds : AttnSet} (port : portOf (fieldAt f.args 0 1) = some p)
    (word : attnSetOf (fieldAt f.args 1 2) = some kinds) :
    clearAttentionTaken f s = (s.unlatch p kinds).reply f .done := by
  simp only [clearAttentionTaken, port, word]

end

/-- A port's kinds removed from the owed list, with nothing left to examine for where that empties it (R41). -/
def LineLink.unlatch (p : PortId) (kinds : AttnSet) (l : LineLink) : LineLink :=
  let owed := l.owed.filter fun o => !(o.port == p && kinds.getLsbD o.kind.bitNo)
  { l with owed := owed, owedOffers := if owed = [] then 0 else l.owedOffers }

theorem State.unlatch_lli (p : PortId) (kinds : AttnSet) (s : State) : (s.unlatch p kinds).lli = s.lli.unlatch p kinds := by
  simp only [State.unlatch, LineLink.unlatch, List.isEmpty_iff]
  rfl

theorem State.unlatch_port (p : PortId) (kinds : AttnSet) (s : State) : (s.unlatch p kinds).port p =
    { s.port p with attention := (s.port p).attention &&& ~~~kinds } :=
  s.modPort_port p fun q => { q with attention := q.attention &&& ~~~kinds }

theorem State.OtherPortsKept.unlatch {p : PortId} {s u : State} (h : s.OtherPortsKept p u) (kinds : AttnSet) :
    s.OtherPortsKept p (u.unlatch p kinds) := h.modPort fun q => { q with attention := q.attention &&& ~~~kinds }

/-- SET_PORT_OPTIONS (R40): the first half of O45. -/
theorem setPortOptions_decided {s : State} {f : DownFrame} {rest : List DownFrame} {b a h l c : Byte} (takes : s.Takes f rest)
    (hc : f.IsCommand .setPortOptions [b, a, h, l, c]) :
    (8 ≤ b.toNat ∨ 2 ≤ a.toNat ∨ h ≠ 0 ∨ 2 ≤ c.toNat → exec .setPortOptions s = .next (s.answered f rest .badArgument)) ∧
    ∀ (p : PortId) (auto : Bool) (cls : AttnClass), b.toNat = p.val → a = (if auto then 1 else 0) → h = 0 →
      c = (if cls = .urgent then 1 else 0) →
      exec .setPortOptions s = .next (((s.taking rest).setOptions p auto l cls).reply f .done) := by
  have taken : exec .setPortOptions s = .next (setPortOptionsTaken f (s.taking rest)) := takes.answering hc _
  have port : fieldAt f.args 0 1 = b.toNat := by rw [hc.args_eq]; exact fieldAt_byte rfl
  have yes : fieldAt f.args 1 1 = a.toNat := by rw [hc.args_eq]; exact fieldAt_byte rfl
  have word : fieldAt f.args 2 2 = 256 * h.toNat + l.toNat := by rw [hc.args_eq]; exact fieldAt_word rfl rfl
  have code : fieldAt f.args 4 1 = c.toNat := by rw [hc.args_eq]; exact fieldAt_byte rfl
  rw [taken]
  refine ⟨fun range => ?_, fun p auto cls hp ha hh hcls => ?_⟩
  · rw [setPortOptionsTaken_refused, State.taking_reply takes.between]
    rw [port, yes, word, code]
    exact range.imp portOf_eq_none (Or.imp yesNoOf_eq_none (Or.imp (fun high => attnSetOf_eq_none high l) classOf_eq_none))
  · have yesCode : yesNoOf a.toNat = some auto := by rw [ha]; cases auto <;> rfl
    have clsCode : classOf c.toNat = some cls := by rw [hcls]; cases cls <;> rfl
    rw [setPortOptionsTaken_set (by rw [port, hp, portOf_val]) (by rw [yes, yesCode]) (by rw [word, hh, attnSetOf_low])
      (by rw [code, clsCode])]

/-- CLEAR_ATTENTION (R41): the second half of O45. -/
theorem clearAttention_decided {s : State} {f : DownFrame} {rest : List DownFrame} {b h l : Byte} (takes : s.Takes f rest)
    (hc : f.IsCommand .clearAttention [b, h, l]) :
    (8 ≤ b.toNat ∨ h ≠ 0 → exec .clearAttention s = .next (s.answered f rest .badArgument)) ∧
    ∀ p : PortId, b.toNat = p.val → h = 0 →
      exec .clearAttention s = .next (((s.taking rest).unlatch p l).reply f .done) := by
  have taken : exec .clearAttention s = .next (clearAttentionTaken f (s.taking rest)) := takes.answering hc _
  have port : fieldAt f.args 0 1 = b.toNat := by rw [hc.args_eq]; exact fieldAt_byte rfl
  have word : fieldAt f.args 1 2 = 256 * h.toNat + l.toNat := by rw [hc.args_eq]; exact fieldAt_word rfl rfl
  rw [taken]
  refine ⟨fun range => ?_, fun p hp hh => ?_⟩
  · rw [clearAttentionTaken_refused, State.taking_reply takes.between]
    rw [port, word]
    exact range.imp portOf_eq_none fun high => attnSetOf_eq_none high l
  · rw [clearAttentionTaken_cleared (by rw [port, hp, portOf_val]) (by rw [word, hh, attnSetOf_low])]

/-- Settles O45: what each of the two commands sets (`setPortOptions_decided`, `clearAttention_decided`), then its frame. -/
theorem portOptionsAndAttention : Obligations.PortOptionsAndAttention := by
  refine ⟨fun s f rest b a h l c takes hc => ?_, fun s f rest b h l takes hc => ?_⟩
  · obtain ⟨refused, set⟩ := setPortOptions_decided takes hc
    refine ⟨refused, fun p auto cls hp ha hh hcls => ?_⟩
    rw [set p auto cls hp ha hh hcls]
    refine ⟨fun stays => ?_, fun yes st carrier => ?_⟩
    · rw [State.setOptions_eq]
      exact congrArg (fun t : State => Host.Outcome.next (t.reply f .done)) (if_neg stays) |>.trans
        (congrArg _ (State.taking_setPort_reply takes _ _ _))
    · have released : (s.taking rest).setOptions p auto l cls =
          ((s.taking rest).setPort p ((s.port p).withOptions auto l cls)).release p .idle := by
        rw [State.setOptions_eq]
        exact if_pos ⟨yes, st, carrier⟩
      rw [released]
      refine ⟨_, rfl, ?_, ?_, ?_, ?_, ?_, ?_⟩
      · exact State.AgreeOutside.reply (State.AgreeOutside.release
          (((State.AgreeOutside.refl _ s).taking rest).setPort p _) p _) f _
      · exact State.OtherPortsKept.reply (((State.taking_others p rest s).setPort _).release _) f _
      · rw [← State.taking_reply takes.between]
        exact State.reply_lli_congr (State.release_lli _ _ _) f .done
      · exact State.release_roll p .idle _
      · rw [State.reply_pool, State.release_pool, State.setPort_port]
        rfl
      · rw [State.reply_port, State.release_port, State.setPort_port]
        rfl
  · obtain ⟨refused, cleared⟩ := clearAttention_decided takes hc
    refine ⟨refused, fun p hp hh => ⟨_, cleared p hp hh, ?_, ?_, ?_, ?_⟩⟩
    · exact State.AgreeOutside.reply (State.AgreeOutside.withLli (((State.AgreeOutside.refl _ s).taking rest).modPort p _) _) f _
    · exact State.OtherPortsKept.reply (State.OtherPortsKept.unlatch (State.taking_others p rest s) l) f _
    · exact State.unlatch_port p l (s.taking rest)
    · have answered := State.taking_reply (f := f) (rest := rest)
        (s := { s with lli := s.lli.unlatch p l }) takes.between .done
      exact (State.reply_lli_congr (State.unlatch_lli p l (s.taking rest)) f .done).trans (congrArg State.lli answered)

/-! ## Owed notices (R39, R45, R174) -/

theorem State.pushFor_owed (c : AttnClass) (f : UpFrame) (s : State) : (s.pushFor c f).lli.owed = s.lli.owed := by
  cases c <;> exact LineLink.startSending_owed _

theorem State.AgreeOutside.pushFor {l : List Part} {s u : State} (h : State.AgreeOutside l s u) (c : AttnClass) (f : UpFrame)
    (lli : .lli ∈ l := by decide) : State.AgreeOutside l s (u.pushFor c f) := by
  cases c <;> exact h.withLli _ lli

/-- An examination of the owed list stops at the first entry that is ready; of those before it the latched ones stay. -/
theorem State.examineOwed_first {s : State} {before : List OwedNotice} {o : OwedNotice}
    (waits : ∀ x ∈ before, s.owedReady x = false) (ready : s.owedReady o = true) (after : List OwedNotice) :
    s.examineOwed (before ++ o :: after) = (before.filter s.owedLatched ++ after, some o) := by
  induction before with
  | nil => simp [State.examineOwed, ready]
  | cons x l ih =>
    have tail := ih fun y hy => waits y (by simp [hy])
    have unready : s.owedReady x = false := waits x (by simp)
    cases latched : s.owedLatched x <;> simp [State.examineOwed, unready, tail, latched]

/-- Settles O38: a port notice is the first that the examination finds ready (`State.examineOwed_first`). -/
theorem owedNoticesPlaced : Obligations.OwedNoticesPlaced := by
  refine ⟨fun s owed place => ?_, fun s d owed place => ?_, fun s before after o owed offers waits latched unmasked place => ?_⟩
  · exact (if_pos (by rw [owed, place]; rfl)).trans rfl
  · simp only [exec, execOwedRollDone, owed, place, if_true]
    rfl
  · have ready : s.owedReady o = true := by simp [State.owedReady, State.owedLatched, latched, unmasked, place]
    have found := State.examineOwed_first waits ready after
    rw [← owed] at found
    have step : exec .owedPortNotice s = .next (State.pushFor (s.port o.port).cls
        (.portNotice o.port o.kind o.detail (s.port o.port).attention)
        { s with lli := s.lli.withOwed (before.filter s.owedLatched ++ after) }) := by
      simp only [exec, execOwedPortNotice, if_pos offers, found]
      rfl
    refine ⟨_, step, ?_, ?_, fun cls => ?_, fun cls => ?_⟩
    · exact State.AgreeOutside.pushFor ((State.AgreeOutside.refl _ s).withLli _) _ _
    · rw [State.pushFor_owed]
      rfl
    · rw [cls]
      exact ⟨LineLink.startSending_bulk _, LineLink.startSending_urgent _⟩
    · rw [cls]
      exact ⟨LineLink.startSending_urgent _, LineLink.startSending_bulk _⟩

end Sys2Proof.Machine
end

section
/-! PROOFS. The line clock (R44 to R48): which commands act on it, what each makes of line time, and that line time stays in
range. -/

namespace Sys2Proof.Machine

open Sys2Proof

/-! ## The operations that leave the line clock -/

section
variable {s u : State}

theorem State.takeHead_clock {p : PortId} {t : Tap} (taken : s.takeHead p = some (t, u)) : u.clock = s.clock := by
  unfold State.takeHead at taken
  split at taken
  next => cases taken; rfl
  next => cases taken

@[simp] theorem State.holdOrDisplace_clock (r : Record) (t : Tap) (s : State) : (s.holdOrDisplace r t).clock = s.clock := by
  unfold State.holdOrDisplace
  split
  · split
    · exact s.holdTap_clock r t
    · exact s.displaceAndHold_clock r t _ _
  · exact s.holdTap_clock r t

@[simp] theorem State.pairTapIn_clock (r : Record) (t : Tap) (s : State) : (s.pairTapIn r t).clock = s.clock := by
  unfold State.pairTapIn
  split
  · exact s.pairWithHeld_clock r t _
  · split
    · split
      · exact s.replaceOpen_clock r t _
      · exact s.closeOlder_clock r t
    · exact s.openWith_clock r t

@[simp] theorem State.pairTapOut_clock (r : Record) (t : Tap) (s : State) : (s.pairTapOut r t).clock = s.clock := by
  unfold State.pairTapOut
  split
  · split
    · exact s.pairWithOpen_clock r t _
    · exact s.holdOrDisplace_clock r t
  · exact s.holdOrDisplace_clock r t

@[simp] theorem State.tapInRecord_clock (t : Tap) (r : Record) (s : State) : (s.tapInRecord t r).clock = s.clock := by
  unfold State.tapInRecord
  dsimp only
  split
  · exact s.dropDuplicate_clock t
  · split
    · exact State.noticeTap_clock t _ _ _
    · split
      · exact s.pairTapIn_clock _ t
      · exact s.pairTapOut_clock _ t

@[simp] theorem State.findAndPair_clock (t : Tap) (s : State) : (s.findAndPair t).clock = s.clock := by
  unfold State.findAndPair
  split
  next r _ => exact s.tapInRecord_clock t r
  next jt r _ => exact State.tapInRecord_clock t r { s with jt := jt }
  next => exact State.noticeTap_clock t _ _ _
  next => exact State.noticeTap_clock t _ _ _

@[simp] theorem State.stepTap_clock (t : Tap) (s : State) : (s.stepTap t).clock = s.clock := by
  unfold State.stepTap
  split
  · exact s.noticeTap_clock t _ _
  · split
    · rw [State.findAndPair_clock, State.closeRecord_clock]
    · exact s.findAndPair_clock t

@[simp] theorem State.countConditions_clock (e : WorkEntry) (cs : CondSet) (s : State) :
    (s.countConditions e cs).clock = s.clock := by
  rw [State.countConditions_eq]
  rfl

@[simp] theorem State.chargeRecord_clock (e : WorkEntry) (c : Copies) (k : Reckoning) (r : Record) (b : Bool) (s : State) :
    (s.chargeRecord e c k r b).2.clock = s.clock := by
  cases b <;> simp [State.chargeRecord]

@[simp] theorem State.outcomeUpdate_clock (e : WorkEntry) (c : Copies) (k : Reckoning) (s : State) :
    (s.outcomeUpdate e c k).2.clock = s.clock := by
  unfold State.outcomeUpdate
  split
  next => simp [State.chargeGone]
  next =>
    dsimp only
    split
    · exact s.chargeRecord_clock e c _ _ false
    · split
      · simp [State.divert]
      · exact s.chargeRecord_clock e c _ _ true

@[simp] theorem State.priceEntry_clock (e : WorkEntry) (s : State) : (s.priceEntry e).clock = s.clock := by
  simp [State.priceEntry]

@[simp] theorem State.createReferralWork_clock (i : Fin 256) (rest : List (Fin 256)) (s : State) :
    (s.createReferralWork i rest).clock = s.clock := by
  unfold State.createReferralWork
  dsimp only
  split
  · split <;> simp
  · rfl

@[simp] theorem State.decideAnswer_clock (ticket : BitVec 16) (a : RefAnswer) (s : State) :
    (s.decideAnswer ticket a).2.clock = s.clock := by
  unfold State.decideAnswer
  dsimp only
  split
  · rfl
  · split
    · rfl
    · split <;> rfl

@[simp] theorem State.answerView_clock (f : DownFrame) (v : ViewSel) (s : State) : (s.answerView f v).clock = s.clock := by
  unfold State.answerView
  split <;> rfl

@[simp] theorem State.leaveVisit_clock (rest : List Card) (s : State) : (s.leaveVisit rest).clock = s.clock :=
  State.checkRoll_clock _

@[simp] theorem State.sweepCard_clock (c : Card) (rest : List Card) (s : State) : (s.sweepCard c rest).clock = s.clock := by
  unfold State.sweepCard
  split
  · split
    · split
      · rw [State.leaveVisit_clock, State.closeRecord_clock]
      · rfl
    · exact s.leaveVisit_clock rest
  · exact s.leaveVisit_clock rest

@[simp] theorem State.summarise_clock (r : Record) (s : State) : (s.summarise r).clock = s.clock :=
  State.checkRoll_clock _

@[simp] theorem State.receiveGood_clock (source : BitVec 48) (f : DownFrame) (s : State) :
    (s.receiveGood source f).clock = s.clock := by
  unfold State.receiveGood
  split <;> rfl

/-! ## The frames taken from the line that leave it -/

theorem loadTaken_clock (f : DownFrame) (s : State) : (loadTaken f s).clock = s.clock := by
  unfold loadTaken
  dsimp only
  split <;> rfl

theorem referralAnswerTaken_clock (f : DownFrame) (s : State) : (referralAnswerTaken f s).clock = s.clock := by
  unfold referralAnswerTaken
  split
  · rfl
  · exact s.decideAnswer_clock _ _

theorem viewTaken_clock (f : DownFrame) (s : State) : (viewTaken f s).clock = s.clock := by
  unfold viewTaken
  split
  · exact State.answerView_clock f _ _
  · exact s.answerView_clock f _
  · rfl

theorem portAttachTaken_clock (f : DownFrame) (s : State) : (portAttachTaken f s).clock = s.clock := by
  unfold portAttachTaken
  dsimp only
  split
  · rfl
  · split
    · rfl
    · split <;> simp

theorem portDetachTaken_clock (f : DownFrame) (s : State) : (portDetachTaken f s).clock = s.clock := by
  unfold portDetachTaken
  split
  · rfl
  · dsimp only
    split
    · exact State.completeDetachIfDone_clock _ _
    · rfl

theorem setPortOptionsTaken_clock (f : DownFrame) (s : State) : (setPortOptionsTaken f s).clock = s.clock := by
  unfold setPortOptionsTaken
  split
  · exact s.setOptions_clock _ _ _ _
  · rfl

theorem clearAttentionTaken_clock (f : DownFrame) (s : State) : (clearAttentionTaken f s).clock = s.clock := by
  unfold clearAttentionTaken
  split <;> rfl

theorem armTaken_clock (f : DownFrame) (s : State) : (armTaken f s).clock = s.clock := by
  unfold armTaken
  dsimp only
  split <;> rfl

theorem disarmTaken_clock (f : DownFrame) (s : State) : (disarmTaken f s).clock = s.clock := by
  unfold disarmTaken
  split <;> rfl

theorem copyActiveTaken_clock (f : DownFrame) (s : State) : (copyActiveTaken f s).clock = s.clock := by
  unfold copyActiveTaken
  split
  · rfl
  · split <;> rfl

theorem setDispositionTaken_clock (f : DownFrame) (s : State) : (setDispositionTaken f s).clock = s.clock := by
  unfold setDispositionTaken
  split <;> rfl

theorem captureTaken_clock (f : DownFrame) (s : State) : (captureTaken f s).clock = s.clock := by
  unfold captureTaken
  split <;> rfl

/-! ## The commands that leave it -/

/-- An outcome is a next state with the line clock as it was. -/
def State.LeavesClock (s : State) (o : Host.Outcome State Fault Refusal) : Prop := ∃ u, o = .next u ∧ u.clock = s.clock

theorem State.leavesClock_next (h : u.clock = s.clock) : s.LeavesClock (.next u) := ⟨u, rfl, h⟩

theorem State.leavesClock_self (s : State) : s.LeavesClock (.next s) := State.leavesClock_next rfl

theorem State.leavesClock_ite {p : Prop} [Decidable p] (h : u.clock = s.clock) :
    s.LeavesClock (if p then .next u else .next s) := by
  split
  · exact State.leavesClock_next h
  · exact s.leavesClock_self

/-- A good gate frame leaves the clock where its taking does (R30). -/
theorem State.leavesClock_onFrame {p : PortId} {c : FrameCase} {act : State → State}
    (h : (act (s.clearRun p)).clock = s.clock) : s.LeavesClock (.next (s.onFrame p c act)) := by
  refine State.leavesClock_next ?_
  cases c with
  | absent => rfl
  | ignored => rfl
  | unexpected => rfl
  | taken => exact h

/-- A frame taken from the line leaves the clock where its effect does. -/
theorem State.leavesClock_takeKind {k : DownKind} {g : DownFrame → State → State}
    (h : ∀ f t, (g f t).clock = t.clock) : s.LeavesClock (answering (s.takeKind k) g s) := by
  unfold answering
  split
  next taken =>
    obtain ⟨rest, -, -, -, rfl⟩ := State.takeKind_some taken
    exact State.leavesClock_next (h _ _)
  next => exact s.leavesClock_self

theorem State.leavesClock_takeCommand {c : CommandCode} {g : DownFrame → State → State}
    (h : ∀ f t, (g f t).clock = t.clock) : s.LeavesClock (answering (s.takeCommand c) g s) := by
  unfold answering
  split
  next taken =>
    obtain ⟨rest, -, -, -, rfl⟩ := State.takeCommand_some taken
    exact State.leavesClock_next (h _ _)
  next => exact s.leavesClock_self

end

section
variable (s : State)

theorem State.leavesClock_gateCarrierLoss (p : PortId) : s.LeavesClock (exec (.gateCarrierLoss p) s) := by
  by_cases carrier : (s.port p).carrier = true
  · rw [exec_gateCarrierLoss carrier]
    refine State.leavesClock_next ?_
    split <;> simp [State.carrierChanged]
  · exact ⟨s, if_neg carrier, rfl⟩

theorem State.leavesClock_gateCarrierReturn (p : PortId) : s.LeavesClock (exec (.gateCarrierReturn p) s) := by
  by_cases carrier : (s.port p).carrier = true
  · exact ⟨s, if_pos carrier, rfl⟩
  · rw [exec_gateCarrierReturn (Bool.eq_false_of_not_eq_true carrier)]
    exact State.leavesClock_next (by simp [State.carrierChanged])

theorem State.leavesClock_attachAck (p : PortId) (b : Bool) (echo : Byte) (first : TapNo) :
    s.LeavesClock (execAttachAck p b echo first s) := by
  refine State.leavesClock_onFrame ?_
  split
  · split
    · exact State.raise_clock _ _ _ _
    · exact State.failAttach_clock _ _ _
  · exact State.failAttach_clock _ _ _

theorem State.leavesClock_badFrame (p : PortId) : s.LeavesClock (execBadFrame p s) := by
  unfold execBadFrame
  split
  · dsimp only
    split
    · exact State.leavesClock_next (State.advanceRun_clock _ _)
    · exact State.leavesClock_next (State.advanceRun_clock _ _)
    · exact State.leavesClock_next (State.advanceRun_clock _ _)
    · exact State.leavesClock_next rfl
  · exact s.leavesClock_self

theorem State.leavesClock_attachTimeout (p : PortId) : s.LeavesClock (execAttachTimeout p s) := by
  unfold execAttachTimeout
  dsimp only
  split
  · exact State.leavesClock_ite (State.failAttach_clock _ _ _)
  · exact s.leavesClock_self

theorem State.leavesClock_beaconTimeout (p : PortId) : s.LeavesClock (execBeaconTimeout p s) := by
  unfold execBeaconTimeout
  dsimp only
  split
  · exact State.leavesClock_ite rfl
  · exact s.leavesClock_self

theorem State.leavesClock_lineFrameReceived (bytes : List Byte) : s.LeavesClock (execLineFrameReceived bytes s) := by
  unfold execLineFrameReceived
  split
  · split
    · exact State.leavesClock_next rfl
    · exact State.leavesClock_next rfl
    · exact State.leavesClock_next rfl
    · exact State.leavesClock_next (s.receiveGood_clock _ _)
  · exact s.leavesClock_self

theorem State.leavesClock_lineCarrierReturn : s.LeavesClock (execLineCarrierReturn s) := by
  unfold execLineCarrierReturn
  split
  · exact s.leavesClock_self
  · exact State.leavesClock_next rfl

theorem State.leavesClock_upstreamFrameSent : s.LeavesClock (execUpstreamFrameSent s) := by
  unfold execUpstreamFrameSent
  split
  · exact State.leavesClock_next rfl
  · exact s.leavesClock_self

theorem State.leavesClock_unknownCommand : s.LeavesClock (execUnknownCommand s) := by
  unfold execUnknownCommand
  split
  next taken =>
    obtain ⟨rest, -, -, -, rfl⟩ := State.takeKind_some taken
    exact State.leavesClock_ite rfl
  next => exact s.leavesClock_self

theorem State.leavesClock_tapStep : s.LeavesClock (execTapStep s) := by
  unfold execTapStep
  split
  · split
    next taken => exact State.leavesClock_next ((State.stepTap_clock _ _).trans (State.takeHead_clock taken))
    next => exact s.leavesClock_self
  · exact s.leavesClock_self

theorem State.leavesClock_tapNotice : s.LeavesClock (execTapNotice s) := by
  unfold execTapNotice
  split
  · exact State.leavesClock_ite (State.endTap_clock _ _ _)
  · exact s.leavesClock_self

theorem State.leavesClock_expiryStep : s.LeavesClock (execExpiryStep s) := by
  unfold execExpiryStep
  split
  · exact State.leavesClock_next (State.expire_clock _ _)
  · exact s.leavesClock_self

theorem State.leavesClock_slotWaitResume : s.LeavesClock (execSlotWaitResume s) := by
  unfold execSlotWaitResume
  split
  · exact State.leavesClock_ite (State.handToWaiting_clock _ _ _)
  · exact s.leavesClock_self

theorem State.leavesClock_grant : s.LeavesClock (execGrant s) := by
  unfold execGrant
  split
  · refine State.leavesClock_next ((State.priceEntry_clock _ _).trans ?_)
    split <;> rfl
  · exact s.leavesClock_self

theorem State.leavesClock_stallResume : s.LeavesClock (execStallResume s) := by
  unfold execStallResume
  split
  · exact State.leavesClock_ite (State.finishPricing_clock _ _)
  · exact s.leavesClock_self

theorem State.leavesClock_referralWork : s.LeavesClock (execReferralWork s) := by
  unfold execReferralWork
  split
  · exact State.leavesClock_ite (s.createReferralWork_clock _ _)
  · exact s.leavesClock_self

theorem State.leavesClock_chainVisit : s.LeavesClock (execChainVisit s) :=
  State.leavesClock_ite (State.checkRoll_clock _)

theorem State.leavesClock_sweepItem : s.LeavesClock (execSweepItem s) := by
  unfold execSweepItem
  split
  · exact State.leavesClock_next (State.sweepCard_clock _ _ _)
  · exact s.leavesClock_self

theorem State.leavesClock_daySummary : s.LeavesClock (execDaySummary s) := by
  unfold execDaySummary
  split
  · split
    · dsimp only
      split
      · split
        · exact State.leavesClock_next (State.summarise_clock _ _)
        · exact State.leavesClock_next rfl
      · exact State.leavesClock_next rfl
    · exact s.leavesClock_self
  · exact s.leavesClock_self

theorem State.leavesClock_owedPortNotice : s.LeavesClock (execOwedPortNotice s) := by
  unfold execOwedPortNotice
  split
  · dsimp only
    split
    · exact State.leavesClock_next (State.pushFor_clock _ _ _)
    · exact State.leavesClock_next rfl
  · exact s.leavesClock_self

theorem State.leavesClock_owedRollDone : s.LeavesClock (execOwedRollDone s) := by
  unfold execOwedRollDone
  split
  · exact State.leavesClock_ite rfl
  · exact s.leavesClock_self

end

/-- The commands that act on the line clock: line time, the service day, the overrun flag or the owed DAY_OVERRUN (R44 to R48). -/
def actsOnClock : Instr → Bool
  | .powerOnReset | .lineTimeAdvance | .setTime | .rollDay | .engineReset | .owedDayOverrun => true
  | _ => false

/-- No other command touches the line clock. -/
theorem exec_leavesClock {c : Instr} (other : actsOnClock c = false) (s : State) : s.LeavesClock (exec c s) := by
  cases c
  case powerOnReset => cases other
  case gateCarrierLoss p => exact s.leavesClock_gateCarrierLoss p
  case gateCarrierReturn p => exact s.leavesClock_gateCarrierReturn p
  case tap p f => exact State.leavesClock_onFrame (State.measureTap_clock _ _ _)
  case beacon p n d => exact State.leavesClock_onFrame (State.applyBeacon_clock _ _ _ _)
  case hubState p alarm code =>
    cases alarm
    · exact State.leavesClock_onFrame rfl
    · exact State.leavesClock_onFrame (State.raise_clock _ _ _ _)
  case attachAck p b echo first => exact s.leavesClock_attachAck p b echo first
  case badFrame p => exact s.leavesClock_badFrame p
  case gateFrameSent p => exact State.leavesClock_ite rfl
  case attachTimeout p => exact s.leavesClock_attachTimeout p
  case beaconTimeout p => exact s.leavesClock_beaconTimeout p
  case lineTimeAdvance => cases other
  case expiryDue => exact State.leavesClock_next rfl
  case referralDue slot => exact State.leavesClock_ite rfl
  case lineFrameReceived bytes => exact s.leavesClock_lineFrameReceived bytes
  case lineCarrierLoss => exact State.leavesClock_ite rfl
  case lineCarrierReturn => exact s.leavesClock_lineCarrierReturn
  case upstreamFrameSent => exact s.leavesClock_upstreamFrameSent
  case load => exact State.leavesClock_takeKind loadTaken_clock
  case referralAnswer => exact State.leavesClock_takeKind referralAnswerTaken_clock
  case view => exact State.leavesClock_takeKind viewTaken_clock
  case portAttach => exact State.leavesClock_takeCommand portAttachTaken_clock
  case portDetach => exact State.leavesClock_takeCommand portDetachTaken_clock
  case setPortOptions => exact State.leavesClock_takeCommand setPortOptionsTaken_clock
  case clearAttention => exact State.leavesClock_takeCommand clearAttentionTaken_clock
  case setTime => cases other
  case rollDay => cases other
  case arm => exact State.leavesClock_takeCommand armTaken_clock
  case disarm => exact State.leavesClock_takeCommand disarmTaken_clock
  case copyActive => exact State.leavesClock_takeCommand copyActiveTaken_clock
  case copyRow => exact State.leavesClock_next rfl
  case copyComplete => exact State.leavesClock_ite (State.copyReply_clock _ _)
  case setDisposition => exact State.leavesClock_takeCommand setDispositionTaken_clock
  case captureCounters => exact State.leavesClock_takeCommand captureTaken_clock
  case engineReset => cases other
  case unknownCommand => exact s.leavesClock_unknownCommand
  case tapStep => exact s.leavesClock_tapStep
  case tapNotice => exact s.leavesClock_tapNotice
  case expiryStep => exact s.leavesClock_expiryStep
  case chainVisit => exact s.leavesClock_chainVisit
  case sweepItem => exact s.leavesClock_sweepItem
  case slotWaitResume => exact s.leavesClock_slotWaitResume
  case grant => exact s.leavesClock_grant
  case stallResume => exact s.leavesClock_stallResume
  case referralWork => exact s.leavesClock_referralWork
  case daySummary => exact s.leavesClock_daySummary
  case owedPortNotice => exact s.leavesClock_owedPortNotice
  case owedDayOverrun => cases other
  case owedRollDone => exact s.leavesClock_owedRollDone

/-! ## Line time after the commands that act on the clock (R44 to R48) -/

/-- Short of an arrival at 129,599 with the overrun flag clear, nothing is noticed (R45). -/
theorem State.checkOverrun_of_not {s : State} (h : ¬(s.clock.time = Config.lineTimeMax ∧ s.clock.overrun = false)) :
    s.checkOverrun = s := if_neg h

/-- An arrival sets the flag and makes a DAY_OVERRUN, placed where the urgent queue has a place. -/
theorem State.checkOverrun_placed {s : State} (arrives : s.clock.time = Config.lineTimeMax ∧ s.clock.overrun = false)
    (place : s.lli.urgentHasPlace = true) : s.checkOverrun = State.pushUrgent (.dayOverrun s.clock.day s.clock.time)
      { s with clock := { s.clock with overrun := true } } := (if_pos arrives).trans (if_pos place)

/-- Where it has none, the DAY_OVERRUN is owed. -/
theorem State.checkOverrun_owed {s : State} (arrives : s.clock.time = Config.lineTimeMax ∧ s.clock.overrun = false)
    (full : s.lli.urgentHasPlace = false) :
    s.checkOverrun = { s with clock := { s.clock with overrun := true, owedOverrun := true } } :=
  (if_pos arrives).trans (if_neg (by simp [full]))

/-- Of the clock, the check touches the two overrun flags alone. -/
theorem State.checkOverrun_clock (s : State) : s.checkOverrun.clock = { s.clock with
    overrun := s.clock.overrun || decide (s.clock.time = Config.lineTimeMax)
    owedOverrun := s.checkOverrun.clock.owedOverrun } := by
  by_cases arrives : s.clock.time = Config.lineTimeMax ∧ s.clock.overrun = false
  · cases place : s.lli.urgentHasPlace
    · simp [State.checkOverrun_owed arrives place, arrives]
    · simp [State.checkOverrun_placed arrives place, arrives]
  · have flag : s.clock.overrun = (s.clock.overrun || decide (s.clock.time = Config.lineTimeMax)) := by
      cases h : s.clock.overrun <;> simp_all
    rw [State.checkOverrun_of_not arrives, ← flag]

theorem State.checkOverrun_time (s : State) : s.checkOverrun.clock.time = s.clock.time := by rw [State.checkOverrun_clock]

theorem State.setLineTime_time (t : Nat) (s : State) : (s.setLineTime t).clock.time = t := State.checkOverrun_time _

theorem setTimeTaken_timeInRange {s : State} (h : s.TimeInRange) (f : DownFrame) : (setTimeTaken f s).TimeInRange := by
  unfold setTimeTaken
  dsimp only
  split
  next => exact h
  next inside => exact (s.setLineTime_time _).le.trans (Nat.le_of_not_lt inside)

/-- A ROLL_DAY that is not refused names a start time in range (R164). -/
theorem rollDecision_start_le {s : State} {day : Day} {start : Nat} {d : RollDecision} (h : rollDecision s day start = d)
    (taken : ∀ st, d ≠ .refused st) : start ≤ Config.lineTimeMax := by
  by_contra beyond
  by_cases busy : s.roll.state = .rolling
  · exact taken .busy (h.symm.trans (if_pos busy))
  · exact taken .badArgument (h.symm.trans ((if_neg busy).trans (if_pos (Nat.lt_of_not_le beyond))))

theorem rollDayTaken_timeInRange {s : State} (h : s.TimeInRange) (f : DownFrame) : (rollDayTaken f s).TimeInRange := by
  unfold rollDayTaken
  dsimp only
  split
  next => exact h
  next decided =>
    rw [State.TimeInRange, State.makeRollDone_clock]
    exact (State.setLineTime_time _ _).le.trans (rollDecision_start_le decided nofun)
  next decided => exact (State.setLineTime_time _ _).le.trans (rollDecision_start_le decided nofun)

theorem execLineTimeAdvance_timeInRange {s : State} (h : s.TimeInRange) :
    ∃ u, execLineTimeAdvance s = .next u ∧ u.TimeInRange := by
  unfold execLineTimeAdvance
  split
  next before => exact ⟨_, rfl, (State.checkOverrun_time _).le.trans before⟩
  next => exact ⟨s, rfl, h⟩

theorem answering_takeCommand_timeInRange {s : State} (h : s.TimeInRange) {c : CommandCode} {g : DownFrame → State → State}
    (taken : ∀ f t, t.TimeInRange → (g f t).TimeInRange) :
    ∃ u, answering (s.takeCommand c) g s = .next u ∧ u.TimeInRange := by
  unfold answering
  split
  next found =>
    obtain ⟨rest, -, -, -, rfl⟩ := State.takeCommand_some found
    exact ⟨_, rfl, taken _ _ h⟩
  next => exact ⟨s, rfl, h⟩

/-- Every command leaves line time in range. -/
theorem exec_timeInRange (c : Instr) {s : State} (h : s.TimeInRange) : ∃ u, exec c s = .next u ∧ u.TimeInRange := by
  cases acts : actsOnClock c with
  | false =>
    obtain ⟨u, completes, clock⟩ := exec_leavesClock acts s
    exact ⟨u, completes, by rwa [State.TimeInRange, clock]⟩
  | true =>
    cases c
    case powerOnReset => exact ⟨_, rfl, Nat.zero_le _⟩
    case lineTimeAdvance => exact execLineTimeAdvance_timeInRange h
    case setTime => exact answering_takeCommand_timeInRange h fun f _ inRange => setTimeTaken_timeInRange inRange f
    case rollDay => exact answering_takeCommand_timeInRange h fun f _ inRange => rollDayTaken_timeInRange inRange f
    case engineReset =>
      refine answering_takeCommand_timeInRange h fun f t inRange => ?_
      rwa [State.TimeInRange, engineResetTaken_clock]
    case owedDayOverrun =>
      change ∃ u, execOwedDayOverrun s = .next u ∧ u.TimeInRange
      unfold execOwedDayOverrun
      split
      · exact ⟨_, rfl, h⟩
      · exact ⟨s, rfl, h⟩
    all_goals cases acts

/-- Settles O5: a step runs a command (`exec_timeInRange`) or idles. -/
theorem lineTimeStaysInRange : Obligations.LineTimeStaysInRange := by
  intro s u inRange h
  unfold step at h
  split at h
  next => cases h; exact inRange
  next c rest _ =>
    obtain ⟨v, completes, kept⟩ := exec_timeInRange c (s := { s with pending := rest }) inRange
    obtain rfl : v = u := by simpa [completes] using h
    exact kept

end Sys2Proof.Machine
end

section
/-! PROOFS. Line time passing and set (R44 to R47), the deadlines of the expiry queue and the Referral Table, and the beacons of
the gate clock trackers (R50 to R52). -/

namespace Sys2Proof.Machine

open Sys2Proof

/-! ## LINE_TIME_ADVANCE (R44, R45, R47) -/

/-- A counted second, before any deadline is compared with it. -/
def State.tick (s : State) : State := { s with clock := { s.clock with time := s.clock.time + 1 } }

theorem exec_lineTimeAdvance {s : State} (before : s.clock.time < Config.lineTimeMax) :
    exec .lineTimeAdvance s = .next s.tick.checkOverrun.compareDeadlines := if_pos before

theorem exec_lineTimeAdvance_held {s : State} (held : s.clock.time = Config.lineTimeMax) : exec .lineTimeAdvance s = .next s :=
  if_neg held.not_lt

theorem State.advanced_agreeOutside (s : State) :
    State.AgreeOutside [.clock, .ports, .expiry, .rt, .lli] s s.tick.checkOverrun.compareDeadlines := by
  intro part outside
  cases part
  case clock | ports | expiry | rt | lli => exact absurd (by decide) outside
  all_goals simp [Part.same, State.tick]

/-- What comparing deadlines makes of their owners, once line time is known. -/
theorem State.compareDeadlines_owners {s : State} {t : Nat} (time : s.clock.time = t) :
    s.compareDeadlines.ports = s.ports.map (Port.compareDeadlines t) ∧
    s.compareDeadlines.expiry = s.expiry.map (ExpiryEntry.compareDeadline t) ∧
    s.compareDeadlines.rt = { s.rt with entries := s.rt.entries.map (RefEntry.compareDeadline t) } := by
  subst time
  exact ⟨rfl, rfl, rfl⟩

/-- Settles O32: the second counted, then the overrun check by its three cases (`State.checkOverrun_placed`,
`State.checkOverrun_owed`, `State.checkOverrun_of_not`). -/
theorem lineTimeAdvances : Obligations.LineTimeAdvances := by
  intro s
  refine ⟨fun before => ?_, exec_lineTimeAdvance_held⟩
  have clock := s.tick.checkOverrun_clock
  obtain ⟨ports, expiry, rt⟩ := State.compareDeadlines_owners s.tick.checkOverrun_time
  rw [State.checkOverrun_ports] at ports
  rw [State.checkOverrun_expiry] at expiry
  rw [State.checkOverrun_rt] at rt
  refine ⟨_, exec_lineTimeAdvance before, s.advanced_agreeOutside, s.tick.checkOverrun_time, ?_, ?_, ports, expiry, rt,
    fun arrives => ⟨fun place => ?_, fun full => ?_⟩, fun none => ?_⟩
  · rw [State.compareDeadlines_clock, clock]; rfl
  · rw [State.compareDeadlines_clock, clock]; rfl
  · rw [State.checkOverrun_placed (s := s.tick) arrives place, ← arrives.1]
    exact ⟨rfl, rfl⟩
  · rw [State.checkOverrun_owed (s := s.tick) arrives full]
    exact ⟨rfl, rfl⟩
  · rw [State.checkOverrun_of_not (s := s.tick) none]
    exact ⟨rfl, rfl⟩

/-! ## SET_TIME (R45 to R47) -/

section
variable {s : State} {f : DownFrame} {rest : List DownFrame}

theorem setTimeTaken_refused (beyond : Config.lineTimeMax < fieldAt f.args 0 4) :
    setTimeTaken f s = s.reply f .badArgument := if_pos beyond

theorem setTimeTaken_set (inside : fieldAt f.args 0 4 ≤ Config.lineTimeMax) :
    setTimeTaken f s = (s.setLineTime (fieldAt f.args 0 4)).reply f .done := if_neg (Nat.not_lt.2 inside)

/-- While a frame is taken, the place held for its REPLY is one more in use (R177, R179). -/
theorem State.Takes.taking_urgentHasPlace (h : s.Takes f rest) :
    (s.taking rest).lli.urgentHasPlace = decide (s.lli.urgentUsed + 1 < Config.urgentPlaces) := by
  have used : (s.taking rest).lli.urgentUsed = s.lli.urgentUsed + 1 := by
    unfold LineLink.urgentUsed
    rw [h.between]
    rfl
  rw [LineLink.urgentHasPlace, used]

/-- A frame placed while another is taken stands before its REPLY (R45, R179). -/
theorem State.taking_pushUrgent_reply (between : s.lli.replyHeld = false) (x : UpFrame) (st : Status) :
    ((s.taking rest).pushUrgent x).reply f st =
      State.answered f rest st { s with lli := { s.lli with urgent := s.lli.urgent ++ [x] } } := by
  have sending := LineLink.startSending_urgent_more
    { s.lli with receive := rest, replyHeld := true, urgent := s.lli.urgent ++ [x] }
    [.reply f.request f.requestKind st none none] false (by simp)
  simp only [State.reply, State.replyFull, State.pushUrgent, State.taking, State.answered, State.answeredFull, between]
  simp only [LineLink.startSending_urgent] at sending ⊢
  rw [sending]

end

/-- A DAY_OVERRUN owed (R45). -/
def State.oweOverrun (s : State) : State := { s with clock := { s.clock with owedOverrun := true } }

/-- The clock, ports, expiry queue and referral table with line time set to `t` and every deadline compared with it (R46, R47). -/
def State.atTime (t : Nat) (overrun : Bool) (s : State) : State := { s with
  clock := { s.clock with time := t, overrun := overrun }
  ports := s.ports.map (Port.compareDeadlines t)
  expiry := s.expiry.map (ExpiryEntry.compareDeadline t)
  rt := { s.rt with entries := s.rt.entries.map (RefEntry.compareDeadline t) } }

/-- A setting of line time that arrives nowhere (R46). -/
theorem State.setLineTime_quiet {s : State} {t : Nat}
    (quiet : t < Config.lineTimeMax ∨ t = Config.lineTimeMax ∧ s.clock.overrun = true) :
    s.setLineTime t = s.atTime t (s.clock.overrun && decide (t = Config.lineTimeMax)) := by
  have flag : decide (t = Config.lineTimeMax) = (s.clock.overrun && decide (t = Config.lineTimeMax)) := by
    rcases quiet with below | ⟨held, flag⟩
    · simp [below.ne]
    · simp [held, flag]
  have quiet' : ¬(t = Config.lineTimeMax ∧ s.clock.overrun = false) := by
    rintro ⟨held, clear⟩
    simp [held, clear] at flag
  rw [State.setLineTime_eq t s (by omega), ← flag]
  simp only [quiet', false_and, if_false, decide_false, Bool.or_false]
  rfl

/-- A setting to 129,599 with the overrun flag clear makes a DAY_OVERRUN, placed where the urgent queue has a place (R45). -/
theorem State.setLineTime_placed {s : State} (clear : s.clock.overrun = false) (place : s.lli.urgentHasPlace = true) :
    s.setLineTime Config.lineTimeMax =
      (s.atTime Config.lineTimeMax true).pushUrgent (.dayOverrun s.clock.day Config.lineTimeMax) := by
  rw [State.setLineTime_eq _ s le_rfl]
  simp [clear, place, State.pushUrgent, State.atTime]

theorem State.setLineTime_owed {s : State} (clear : s.clock.overrun = false) (full : s.lli.urgentHasPlace = false) :
    s.setLineTime Config.lineTimeMax = (s.atTime Config.lineTimeMax true).oweOverrun := by
  rw [State.setLineTime_eq _ s le_rfl]
  simp [clear, full, State.oweOverrun, State.atTime]

/-- Settles O34 (the plain name is the model's operation): refused beyond the range, else the setting with and without an
arrival, and with and without a second place. -/
theorem setTimeTaken_holds : Obligations.SetTimeTaken := by
  intro s f rest args h hc
  dsimp only
  have taken : exec .setTime s = .next (setTimeTaken f (s.taking rest)) := h.answering hc _
  have named : fieldAt f.args 0 4 = beNat args := by
    rw [hc.args_eq, fieldAt, List.drop_zero, List.take_of_length_le (i := 4) hc.length.le]
  rw [taken]
  refine ⟨fun beyond => ?_, fun quiet => ?_, fun held flag => ⟨fun second => ?_, fun last => ?_⟩⟩
  · rw [setTimeTaken_refused (named ▸ beyond), State.taking_reply h.between]
  · rw [setTimeTaken_set (by omega), named, State.setLineTime_quiet (s := s.taking rest) quiet]
    exact congrArg _ (State.taking_reply (s := s.atTime _ _) h.between _)
  · have place : (s.taking rest).lli.urgentHasPlace = true := by simpa [h.taking_urgentHasPlace] using second
    rw [setTimeTaken_set (by omega), named, held, State.setLineTime_placed (s := s.taking rest) flag place]
    exact congrArg _ (State.taking_pushUrgent_reply (s := s.atTime _ true) h.between _ _)
  · have full : (s.taking rest).lli.urgentHasPlace = false := by simp [h.taking_urgentHasPlace, last]
    rw [setTimeTaken_set (by omega), named, held, State.setLineTime_owed (s := s.taking rest) flag full]
    exact congrArg _ (State.taking_reply
      (s := (s.atTime _ true).oweOverrun) h.between _)

/-! ## EXPIRY_DUE and REFERRAL_DUE (R47, R93, R95, R160) -/

section
variable {s : State} {before : List ExpiryEntry}

/-- Entries that are marked, or not yet due, are passed over (log 6). -/
theorem markFirstDue_append (passed : ∀ x ∈ before, x.due = true ∨ (x.fallenDue = false ∧ s.clock.time < x.dueTime))
    (l : List ExpiryEntry) : markFirstDue s (before ++ l) = before ++ markFirstDue s l := by
  induction before with
  | nil => rfl
  | cons x before ih =>
    have skip : (!x.due && s.isDue x.fallenDue x.dueTime) = false := by
      rcases passed x (by simp) with marked | ⟨fallen, later⟩
      · simp [marked]
      · simp [State.isDue_eq_false later fallen]
    rw [List.cons_append, markFirstDue, skip, if_neg Bool.false_ne_true, ih fun y hy => passed y (by simp [hy])]
    rfl

theorem markFirstDue_cons_due {e : ExpiryEntry} (unmarked : e.due = false) (due : s.isDue e.fallenDue e.dueTime = true)
    (after : List ExpiryEntry) : markFirstDue s (e :: after) = { e with due := true } :: after :=
  if_pos (by rw [unmarked, due]; rfl)

end

/-- Where no entry is due and unmarked, none is marked. -/
theorem markFirstDue_self {s : State} {l : List ExpiryEntry}
    (passed : ∀ x ∈ l, x.due = true ∨ (x.fallenDue = false ∧ s.clock.time < x.dueTime)) : markFirstDue s l = l := by
  have all := markFirstDue_append passed []
  rwa [List.append_nil, markFirstDue, List.append_nil] at all

/-- Settles O33: an expiry entry by its place in the queue (`markFirstDue_append`), a referral by whether it is due. -/
theorem deadlinesMarked : Obligations.DeadlinesMarked := by
  refine ⟨fun s before after e queue passed unmarked due => ?_, fun s passed => ?_,
    fun i s waits unmarked => ⟨fun due => ?_, fun later fallen => ?_⟩⟩
  · change Host.Outcome.next { s with expiry := markFirstDue s s.expiry } = _
    rw [queue, markFirstDue_append passed, markFirstDue_cons_due unmarked ((s.isDue_iff _ _).2 due)]
  · change Host.Outcome.next { s with expiry := markFirstDue s s.expiry } = _
    rw [markFirstDue_self passed]
  · exact if_pos ⟨waits, unmarked, (s.isDue_iff _ _).2 due⟩
  · exact if_neg fun acts => by simp [State.isDue_eq_false later fallen] at acts

/-! ## BEACON (R50 to R52) -/

section
variable (k : Tracker) (m : Int) (time : Nat)

theorem Tracker.jumps_iff : k.jumps m = true ↔ k.seeded = true ∧ 30 < (m - k.estimate).natAbs := by
  rw [Tracker.jumps, Bool.and_eq_true, decide_eq_true_eq]
  rfl

/-- The estimate takes the measurement, or moves one second towards it (R51). -/
theorem Tracker.nextEstimate_eq : k.nextEstimate m =
    if k.seeded = false ∨ (m - k.estimate).natAbs ≤ 1 ∨ 30 < (m - k.estimate).natAbs then m
    else if k.estimate < m then k.estimate + 1 else k.estimate - 1 := by
  unfold Tracker.nextEstimate intDistance
  split
  next unseeded => rw [if_pos (.inl unseeded)]
  next seeded =>
    split
    next near => rw [if_pos (.inr (.inl near))]
    next off =>
      split
      next inside => exact (if_neg (not_or.2 ⟨seeded, by omega⟩)).symm
      next beyond => rw [if_pos (.inr (.inr (by omega)))]

/-- But at a seed or a re-seed the estimate moves by at most one second (R51). -/
theorem Tracker.nextEstimate_near (seeded : k.seeded = true) (near : (m - k.estimate).natAbs ≤ 30) :
    (k.nextEstimate m - k.estimate).natAbs ≤ 1 := by
  rw [Tracker.nextEstimate_eq]
  split
  next taken =>
    rcases taken with unseeded | close | far
    · simp [seeded] at unseeded
    · exact close
    · omega
  next => split <;> omega

/-- Before line time is held, a beacon starts the beacon deadline, and the second of two close measurements settles (R51, R52). -/
theorem Tracker.apply_before (before : time < Config.lineTimeMax) :
    (k.apply m time).deadline = some (min Config.lineTimeMax (time + 120)) ∧
      ((k.apply m time).settled = true ↔ k.seeded = true ∧ (m - k.estimate).natAbs ≤ 1) := by
  have ahead : time < min Config.lineTimeMax (time + 120) := by omega
  refine ⟨if_pos ahead, ?_⟩
  rw [Tracker.apply, decide_eq_true ahead, Bool.and_true, Bool.and_eq_true, decide_eq_true_eq]
  rfl

/-- While line time is held, the beacon deadline is reached as it is set, and the tracker is left unsettled (R52). -/
theorem Tracker.apply_held (held : time = Config.lineTimeMax) :
    (k.apply m time).deadline = none ∧ (k.apply m time).settled = false := by
  have reached : ¬time < min Config.lineTimeMax (time + 120) := by omega
  refine ⟨if_neg reached, ?_⟩
  simp only [Tracker.apply, reached, decide_false, Bool.and_false]

end

section
variable {p : PortId} {s : State}

/-- A BEACON on a port that takes it clears the bad-frame run and is applied (R30, R50). -/
theorem exec_beacon_taken (carrier : (s.port p).carrier = true) (st : (s.port p).st = .attached ∨ (s.port p).st = .detaching)
    (h : BitVec 32) (d : Day) : exec (.beacon p h d) s = .next ((s.clearRun p).applyBeacon p h.toNat d) :=
  congrArg _ (State.onFrame_taken (Port.frameCase_eq_taken.2 ⟨carrier, Port.inReservation_eq_true.2 st⟩) _)

theorem State.applyBeacon_badDay {d : Day} (other : d ≠ s.clock.day) (n : Nat) :
    s.applyBeacon p n d = s.bump (.port p .badDayBeacons) := if_pos other

theorem State.applyBeacon_badTime {n : Nat} (beyond : Config.lineTimeMax < n) :
    s.applyBeacon p n s.clock.day = s.bump (.port p .badTimeBeacons) := (if_neg (not_not.2 rfl)).trans (if_pos beyond)

/-- The tracker of a port with a measurement applied (R51). -/
def State.measured (p : PortId) (m : Int) (s : State) : State :=
  s.modPort p fun q => { q with tracker := q.tracker.apply m s.clock.time }

/-- A beacon that passes moves the tracker, and a jump is noticed with the new estimate (R51). -/
def State.beaconPassed (p : PortId) (m : Int) (s : State) : State :=
  if (s.port p).tracker.seeded = true ∧ 30 < (m - (s.port p).tracker.estimate).natAbs then
    (s.measured p m).raise p .clockJump (.estimate m)
  else s.measured p m

theorem State.applyBeacon_passed {n : Nat} (inside : n ≤ Config.lineTimeMax) :
    s.applyBeacon p n s.clock.day = s.beaconPassed p ((s.clock.time : Int) - (n : Int)) := by
  refine (if_neg (not_not.2 rfl)).trans ((if_neg (Nat.not_lt.2 inside)).trans ?_)
  unfold State.beaconPassed
  dsimp only
  split
  next jumps =>
    have jump := (Tracker.jumps_iff _ _).1 jumps
    rw [if_pos jump, Tracker.nextEstimate_eq, if_pos (.inr (.inr jump.2))]
    rfl
  next stays =>
    rw [if_neg (mt (Tracker.jumps_iff _ _).2 stays)]
    rfl

variable (p : PortId) (m : Int) (s : State)

theorem State.beaconPassed_agreeOutside : State.AgreeOutside [.ports, .lli] s (s.beaconPassed p m) := by
  have moved : State.AgreeOutside [.ports, .lli] s (s.measured p m) := (State.AgreeOutside.refl _ s).modPort p _
  unfold State.beaconPassed
  split
  · exact moved.raise p _ _
  · exact moved

theorem State.beaconPassed_others : s.OtherPortsKept p (s.beaconPassed p m) := by
  have moved : s.OtherPortsKept p (s.measured p m) := (State.otherPortsKept_refl p s).modPort _
  unfold State.beaconPassed
  split
  · exact moved.raise _ _
  · exact moved

theorem State.beaconPassed_lli : (s.beaconPassed p m).lli =
    if (s.port p).tracker.seeded = true ∧ 30 < (m - (s.port p).tracker.estimate).natAbs then
      (s.raise p .clockJump (.estimate m)).lli
    else s.lli := by
  unfold State.beaconPassed
  split
  · exact State.raise_lli_modPort _ _ rfl rfl rfl
  · rfl

theorem State.beaconPassed_port : (s.beaconPassed p m).port p = { s.port p with
    tracker := (s.port p).tracker.apply m s.clock.time
    attention := if (s.port p).tracker.seeded = true ∧ 30 < (m - (s.port p).tracker.estimate).natAbs then
        (s.port p).attention ||| AttnKind.clockJump.only
      else (s.port p).attention } := by
  have moved : (s.measured p m).port p = { s.port p with tracker := (s.port p).tracker.apply m s.clock.time } :=
    s.modPort_port p _
  unfold State.beaconPassed
  split
  · rw [State.raise_port, moved]
  · exact moved

end

/-- Settles O25: counted, or applied to the tracker with a jump noticed (`State.beaconPassed`). -/
theorem beaconApplied : Obligations.BeaconApplied := by
  intro p h d s carrier st
  dsimp only
  rw [exec_beacon_taken carrier st]
  refine ⟨fun other => ?_, ?_, ?_⟩
  · exact congrArg _ (State.applyBeacon_badDay (s := s.clearRun p) other _)
  · rintro rfl beyond
    exact congrArg _ (State.applyBeacon_badTime (s := s.clearRun p) beyond)
  · rintro rfl inside -
    have cleared := s.clearRun_port p
    refine ⟨_, congrArg _ (State.applyBeacon_passed (s := s.clearRun p) inside),
      ((State.AgreeOutside.refl _ s).modPort p _).trans (State.beaconPassed_agreeOutside p _ _), fun r hr => ?_, ?_, _, ?_,
      rfl, rfl, rfl, Tracker.nextEstimate_eq _ _, Tracker.nextEstimate_near _ _, Tracker.apply_before _ _ _,
      Tracker.apply_held _ _ _⟩
    · exact (State.beaconPassed_others p _ _ r hr).trans ((State.otherPortsKept_refl p s).modPort _ r hr)
    · rw [State.beaconPassed_lli, cleared, State.raise_lli_clearRun]
      rfl
    · rw [State.beaconPassed_port, cleared]
      rfl

end Sys2Proof.Machine
end

section
/-! PROOFS. The journey table (R55 to R75): what its buckets hold, how its chains run, and what a write, an insertion and a
removal do to both. -/

namespace Sys2Proof.Machine

open Sys2Proof

/-! ## What one bucket holds (R55) -/

/-- The records of a bucket, slot by slot. -/
def Bucket.records (b : Bucket) : List Record := b.slots.toList.filterMap id

theorem Bucket.used_eq_length (b : Bucket) : b.used = b.records.length := by
  have filtered : ∀ l : List (Option Record), (l.filter Option.isSome).length = (l.filterMap id).length := by
    intro l
    induction l with
    | nil => rfl
    | cons x l ih => cases x <;> simp [ih]
  exact filtered _

theorem Bucket.mem_records {b : Bucket} {r : Record} : r ∈ b.records ↔ ∃ i : Fin 4, b.slots[i] = some r := by
  simp only [Bucket.records, List.mem_filterMap, id_eq, exists_eq_right, Vector.mem_toList_iff, Vector.mem_iff_getElem]
  exact ⟨fun ⟨i, hi, h⟩ => ⟨⟨i, hi⟩, h⟩, fun ⟨i, h⟩ => ⟨i.val, i.isLt, h⟩⟩

/-- A slot written: what it held leaves the bucket's records, and what it holds now joins them. -/
theorem Bucket.records_set_perm (b : Bucket) (i : Fin 4) (v : Option Record) :
    (Bucket.records { b with slots := b.slots.set i v } ++ b.slots[i].toList).Perm (b.records ++ v.toList) := by
  have hi : i.val < b.slots.toList.length := by simp
  have split : b.slots.toList = b.slots.toList.take i ++ b.slots[i] :: b.slots.toList.drop (i + 1) := by
    conv_lhs => rw [← List.take_append_drop i b.slots.toList, List.drop_eq_getElem_cons hi]
    simp
  have cons : ∀ (x : Option Record) (l : List (Option Record)), (x :: l).filterMap id = x.toList ++ l.filterMap id := by
    intro x l; cases x <;> rfl
  have written : Bucket.records { b with slots := b.slots.set i v } =
      (b.slots.toList.take i).filterMap id ++ (v.toList ++ (b.slots.toList.drop (i + 1)).filterMap id) := by
    rw [Bucket.records, Vector.toList_set, List.set_eq_take_append_cons_drop, if_pos hi, List.filterMap_append, cons]
  have before : b.records =
      (b.slots.toList.take i).filterMap id ++ (b.slots[i].toList ++ (b.slots.toList.drop (i + 1)).filterMap id) := by
    rw [← cons, ← List.filterMap_append, ← split, Bucket.records]
  rw [written, before, List.perm_iff_count]
  intro x
  simp only [List.count_append]
  omega

theorem Bucket.records_empty : Bucket.empty.records = [] := by simp [Bucket.records, Bucket.empty]

/-! ## What the buckets of a table hold -/

/-- A bucket is as reset left it or stands in the list. -/
theorem bucketGet_eq_empty_or_mem (k : Nat) (l : List (Nat × Bucket)) :
    bucketGet k l = Bucket.empty ∨ (k, bucketGet k l) ∈ l := by
  induction l with
  | nil => exact .inl rfl
  | cons a l ih =>
    obtain ⟨j, c⟩ := a
    by_cases h : j = k
    · subst h; simp [bucketGet]
    · simp only [bucketGet, h, if_false]
      exact ih.imp id (List.mem_cons_of_mem _)

/-- A listed bucket is the bucket of its number. -/
theorem bucketGet_of_mem {e : Nat × Bucket} {l : List (Nat × Bucket)} (h : bucketsWf l = true) (mem : e ∈ l) :
    bucketGet e.1 l = e.2 := by
  induction l with
  | nil => cases mem
  | cons a l ih =>
    obtain ⟨j, c⟩ := a
    obtain ⟨rising, -, rest⟩ := (bucketsWf_cons j c l).1 h
    rcases List.mem_cons.1 mem with rfl | mem
    · simp [bucketGet]
    · have : j ≠ e.1 := (rising e mem).ne
      simp only [bucketGet, this, if_false]
      exact ih rest mem

section
variable {α : Type} {f : Bucket → List α}

theorem mem_flatMap_buckets {l : List (Nat × Bucket)} (h : bucketsWf l = true) (none : f Bucket.empty = []) {x : α} :
    (x ∈ l.flatMap fun e => f e.2) ↔ ∃ k, x ∈ f (bucketGet k l) := by
  rw [List.mem_flatMap]
  constructor
  · rintro ⟨e, mem, hx⟩
    exact ⟨e.1, by rwa [bucketGet_of_mem h mem]⟩
  · rintro ⟨k, hx⟩
    rcases bucketGet_eq_empty_or_mem k l with empty | mem
    · rw [empty, none] at hx; cases hx
    · exact ⟨_, mem, hx⟩

/-- A bucket replaced in a list: what it gave leaves, and what the new one gives joins. -/
theorem flatMap_bucketSet_perm (none : f Bucket.empty = []) (k : Nat) (b : Bucket) {l : List (Nat × Bucket)}
    (h : bucketsWf l = true) : (((bucketSet k b l).flatMap fun e => f e.2) ++ f (bucketGet k l)).Perm
      ((l.flatMap fun e => f e.2) ++ f b) := by
  classical
  have given : ∀ {c : Bucket}, c.isEmpty = true → f c = [] := fun hc => (Bucket.isEmpty_iff _).1 hc ▸ none
  rw [List.perm_iff_count]
  intro x
  induction l with
  | nil =>
    simp only [bucketSet]
    split
    next empty => simp [bucketGet, none, given empty]
    next => simp [bucketGet, none]
  | cons a l ih =>
    obtain ⟨j, c⟩ := a
    obtain ⟨rising, -, rest⟩ := (bucketsWf_cons j c l).1 h
    simp only [List.count_append] at ih ⊢
    simp only [bucketSet]
    split
    next before =>
      have absent : bucketGet k ((j, c) :: l) = Bucket.empty :=
        bucketGet_of_lt fun e mem => by
          rcases List.mem_cons.1 mem with rfl | mem
          · exact before
          · exact before.trans (rising e mem)
      rw [absent]
      split
      next empty => simp [none, given empty]
      next => simp [none]; omega
    next =>
      split
      next here =>
        subst here
        split
        next empty => simp [bucketGet, given empty]; omega
        next => simp [bucketGet]; omega
      next apart =>
        have other : j ≠ k := fun e => apart e.symm
        have ih := ih rest
        simp only [bucketGet, other, if_false, List.flatMap_cons, List.count_append]
        omega

/-- What the buckets of a table give, bucket by bucket. -/
def JourneyTable.collect (jt : JourneyTable) (f : Bucket → List α) : List α := (jt.home ++ jt.exts).flatMap fun e => f e.2

variable {jt : JourneyTable}

theorem JourneyTable.mem_collect (wf : jt.wf = true) (none : f Bucket.empty = []) {x : α} :
    x ∈ jt.collect f ↔ ∃ b, x ∈ f (jt.bucket b) := by
  obtain ⟨home, exts⟩ := jt.wf_iff.1 wf
  rw [JourneyTable.collect, List.flatMap_append, List.mem_append, mem_flatMap_buckets home none, mem_flatMap_buckets exts none]
  constructor
  · rintro (⟨k, hx⟩ | ⟨k, hx⟩)
    · exact ⟨.home k, hx⟩
    · exact ⟨.ext k, hx⟩
  · rintro ⟨b | b, hx⟩
    · exact .inl ⟨b, hx⟩
    · exact .inr ⟨b, hx⟩

theorem JourneyTable.collect_setBucket_perm (wf : jt.wf = true) (none : f Bucket.empty = []) (r : BucketRef) (b : Bucket) :
    ((jt.setBucket r b).collect f ++ f (jt.bucket r)).Perm (jt.collect f ++ f b) := by
  classical
  obtain ⟨home, exts⟩ := jt.wf_iff.1 wf
  rw [List.perm_iff_count]
  intro x
  cases r with
  | home n =>
    have := List.perm_iff_count.1 (flatMap_bucketSet_perm none n b home) x
    simp only [JourneyTable.collect, JourneyTable.setBucket, JourneyTable.bucket, List.flatMap_append, List.count_append] at this ⊢
    omega
  | ext n =>
    have := List.perm_iff_count.1 (flatMap_bucketSet_perm none n b exts) x
    simp only [JourneyTable.collect, JourneyTable.setBucket, JourneyTable.bucket, List.flatMap_append, List.count_append] at this ⊢
    omega

end

theorem JourneyTable.all_eq (jt : JourneyTable) : jt.all = jt.collect Bucket.records := rfl

theorem JourneyTable.linked_eq (jt : JourneyTable) : jt.linked = jt.collect fun b => b.ext.toList := by
  rw [JourneyTable.linked, List.filterMap_eq_flatMap_toList]; rfl

section
variable {jt : JourneyTable}

theorem JourneyTable.mem_all (wf : jt.wf = true) {r : Record} : r ∈ jt.all ↔ ∃ p, jt.slot p = some r := by
  rw [JourneyTable.all_eq, JourneyTable.mem_collect wf Bucket.records_empty]
  simp only [Bucket.mem_records, JourneyTable.slot, Prod.exists]

theorem JourneyTable.mem_linked (wf : jt.wf = true) {n : Nat} : n ∈ jt.linked ↔ ∃ b, (jt.bucket b).ext = some n := by
  rw [JourneyTable.linked_eq, JourneyTable.mem_collect wf rfl]
  simp

theorem JourneyTable.linked_setBucket_perm (wf : jt.wf = true) (r : BucketRef) (b : Bucket) :
    ((jt.setBucket r b).linked ++ (jt.bucket r).ext.toList).Perm (jt.linked ++ b.ext.toList) := by
  simpa only [JourneyTable.linked_eq] using jt.collect_setBucket_perm wf rfl r b

/-- A slot written: what it held leaves the table's records, and what it holds now joins them. -/
theorem JourneyTable.all_setSlot_perm (wf : jt.wf = true) (p : SlotRef) (v : Option Record) :
    ((jt.setSlot p v).all ++ (jt.slot p).toList).Perm (jt.all ++ v.toList) := by
  have table := jt.collect_setBucket_perm wf Bucket.records_empty p.1
    { jt.bucket p.1 with slots := (jt.bucket p.1).slots.set p.2 v }
  have bucket := (jt.bucket p.1).records_set_perm p.2 v
  rw [List.perm_iff_count] at table bucket ⊢
  intro x
  have table := table x
  have bucket := bucket x
  simp only [JourneyTable.all_eq, JourneyTable.setSlot, JourneyTable.slot, List.count_append] at table bucket ⊢
  omega

theorem JourneyTable.linked_setSlot_perm (wf : jt.wf = true) (p : SlotRef) (v : Option Record) :
    (jt.setSlot p v).linked.Perm jt.linked :=
  (List.perm_append_right_iff _).1 (jt.linked_setBucket_perm wf p.1 { jt.bucket p.1 with slots := _ })

/-- Each extension bucket is named by one pointer alone (R57). -/
theorem JourneyTable.ext_inj (wf : jt.wf = true) (once : jt.linked.Nodup) {a b : BucketRef} {n : Nat}
    (ha : (jt.bucket a).ext = some n) (hb : (jt.bucket b).ext = some n) : a = b := by
  by_contra ne
  let u := jt.setBucket a { jt.bucket a with ext := none }
  have left : (u.linked ++ [n]).Perm jt.linked := by
    simpa [ha] using jt.linked_setBucket_perm wf a { jt.bucket a with ext := none }
  have still : n ∈ u.linked := by
    rw [JourneyTable.mem_linked (JourneyTable.setBucket_wf wf _ _)]
    exact ⟨b, by rw [JourneyTable.bucket_setBucket_other wf _ (Ne.symm ne), hb]⟩
  have twice := left.nodup_iff.2 once
  rw [List.nodup_append] at twice
  exact twice.2.2 n still n (by simp) rfl

/-- A card and a day have one slot alone (R59). -/
theorem JourneyTable.slot_inj (wf : jt.wf = true) (once : (jt.all.map fun r => (r.card, r.day)).Nodup) {p q : SlotRef}
    {r x : Record} (hp : jt.slot p = some r) (hq : jt.slot q = some x) (card : r.card = x.card) (day : r.day = x.day) :
    p = q := by
  by_contra ne
  have left : ((jt.setSlot p none).all ++ [r]).Perm jt.all := by
    simpa [hp] using jt.all_setSlot_perm wf p none
  have still : x ∈ (jt.setSlot p none).all := by
    rw [JourneyTable.mem_all (JourneyTable.setSlot_wf wf _ _)]
    exact ⟨q, by rw [JourneyTable.slot_setSlot wf, if_neg (Ne.symm ne), hq]⟩
  have twice := (left.map fun r => (r.card, r.day)).nodup_iff.2 once
  rw [List.map_append, List.nodup_append] at twice
  exact twice.2.2 (x.card, x.day) (List.mem_map_of_mem still) (r.card, r.day) (by simp) (by rw [card, day])

end

/-! ## Chains (R57) -/

/-- The bucket that a bucket's extension pointer names. -/
def JourneyTable.next (jt : JourneyTable) (b : BucketRef) : Option BucketRef := (jt.bucket b).ext.map .ext

/-- The buckets in `l` are those reached from `p`, each from the pointer of the one before it, to the last. -/
def JourneyTable.Follows (jt : JourneyTable) : Option BucketRef → List BucketRef → Prop
  | p, [] => p = none
  | p, b :: l => p = some b ∧ jt.Follows (jt.next b) l

section
variable {jt u : JourneyTable} {p : Option BucketRef} {l : List BucketRef}

theorem JourneyTable.next_ne_home (jt : JourneyTable) (b : BucketRef) (n : Nat) : jt.next b ≠ some (.home n) := by
  simp [JourneyTable.next]

theorem JourneyTable.next_eq_some {b : BucketRef} {n : Nat} : jt.next b = some (.ext n) ↔ (jt.bucket b).ext = some n := by
  simp [JourneyTable.next]

theorem JourneyTable.next_eq_none {b : BucketRef} : jt.next b = none ↔ (jt.bucket b).ext = none := by
  simp [JourneyTable.next]

theorem JourneyTable.next_inj (wf : jt.wf = true) (once : jt.linked.Nodup) {a b c : BucketRef}
    (ha : jt.next a = some c) (hb : jt.next b = some c) : a = b := by
  cases c with
  | home n => exact absurd ha (jt.next_ne_home a n)
  | ext n => exact JourneyTable.ext_inj wf once (JourneyTable.next_eq_some.1 ha) (JourneyTable.next_eq_some.1 hb)

theorem JourneyTable.follows_unique {m : List BucketRef} (hl : jt.Follows p l) (hm : jt.Follows p m) : l = m := by
  induction l generalizing p m with
  | nil =>
    cases m with
    | nil => rfl
    | cons b m => cases hl; cases hm.1
  | cons a l ih =>
    obtain ⟨rfl, hl⟩ := hl
    cases m with
    | nil => cases hm
    | cons b m =>
      obtain ⟨same, hm⟩ := hm
      cases same
      rw [ih hl hm]

theorem JourneyTable.Follows.suffix {before after : List BucketRef} {b : BucketRef}
    (h : jt.Follows p (before ++ b :: after)) : jt.Follows (some b) (b :: after) := by
  induction before generalizing p with
  | nil => exact ⟨rfl, h.2⟩
  | cons a before ih => exact ih h.2

/-- A list of buckets that ends does not come back to a bucket. -/
theorem JourneyTable.Follows.nodup (h : jt.Follows p l) : l.Nodup := by
  induction l generalizing p with
  | nil => exact List.nodup_nil
  | cons b l ih =>
    refine List.nodup_cons.2 ⟨fun again => ?_, ih h.2⟩
    obtain ⟨before, after, rfl⟩ := List.append_of_mem again
    have whole : jt.Follows (some b) (b :: (before ++ b :: after)) := ⟨rfl, h.2⟩
    have same := JourneyTable.follows_unique h.2.suffix whole
    have lengths := congrArg List.length same
    simp at lengths
    omega

/-- A bucket reached is the first, or is named by the pointer of another. -/
theorem JourneyTable.Follows.eq_or_next {b : BucketRef} (h : jt.Follows p l) (hb : b ∈ l) :
    p = some b ∨ ∃ a ∈ l, jt.next a = some b := by
  induction l generalizing p with
  | nil => cases hb
  | cons c l ih =>
    obtain ⟨rfl, h⟩ := h
    rcases List.mem_cons.1 hb with rfl | hb
    · exact .inl rfl
    · rcases ih h hb with hc | ⟨a, ha, hab⟩
      · exact .inr ⟨c, by simp, hc⟩
      · exact .inr ⟨a, List.mem_cons_of_mem _ ha, hab⟩

/-- Tables whose pointers agree along a list agree on the list. -/
theorem JourneyTable.Follows.congr (h : jt.Follows p l) (same : ∀ b ∈ l, u.next b = jt.next b) : u.Follows p l := by
  induction l generalizing p with
  | nil => exact h
  | cons b l ih =>
    refine ⟨h.1, ?_⟩
    rw [same b (by simp)]
    exact ih h.2 fun c hc => same c (List.mem_cons_of_mem _ hc)

/-- A list goes on where the pointer of its last bucket comes to name one more. -/
theorem JourneyTable.Follows.extend {b e : BucketRef} (h : jt.Follows p (l ++ [b])) (same : ∀ a ∈ l, u.next a = jt.next a)
    (link : u.next b = some e) (ended : u.next e = none) : u.Follows p (l ++ [b, e]) := by
  induction l generalizing p with
  | nil => exact ⟨h.1, link, ended⟩
  | cons a l ih =>
    refine ⟨h.1, ?_⟩
    rw [same a (by simp)]
    exact ih h.2 fun c hc => same c (List.mem_cons_of_mem _ hc)

/-! ### A chain as the model finds it -/

theorem JourneyTable.extensions_eq {fuel : Nat} {q : Option Nat} (h : jt.Follows (q.map .ext) l) (bound : l.length ≤ fuel) :
    jt.extensions fuel q = l := by
  induction l generalizing fuel q with
  | nil =>
    obtain rfl : q = none := by simpa [JourneyTable.Follows] using h
    cases fuel <;> rfl
  | cons b l ih =>
    obtain ⟨first, h⟩ := h
    cases q with
    | none => cases first
    | some n =>
      cases first
      cases fuel with
      | zero => simp at bound
      | succ fuel => rw [JourneyTable.extensions, ih h (by simpa using bound)]

theorem JourneyTable.follows_extensions {fuel : Nat} {q : Option Nat} {b : BucketRef} (first : jt.next b = q.map .ext)
    (ended : jt.next ((jt.extensions fuel q).getLastD b) = none) : jt.Follows (q.map .ext) (jt.extensions fuel q) := by
  induction fuel generalizing q b with
  | zero => exact first.symm.trans ended
  | succ fuel ih =>
    cases q with
    | none => rfl
    | some n =>
      refine ⟨rfl, ih rfl ?_⟩
      rwa [JourneyTable.extensions, List.getLastD_cons] at ended

theorem JourneyTable.extensions_length (jt : JourneyTable) (fuel : Nat) (q : Option Nat) :
    (jt.extensions fuel q).length ≤ fuel := by
  induction fuel generalizing q with
  | zero => exact Nat.le_refl 0
  | succ fuel ih =>
    cases q with
    | none => exact Nat.zero_le _
    | some n => exact Nat.succ_le_succ (ih _)

theorem JourneyTable.chain_length_le (jt : JourneyTable) (h : Nat) : (jt.chain h).length ≤ 4 :=
  Nat.succ_le_succ (jt.extensions_length 3 _)

theorem JourneyTable.lastBucket_eq (jt : JourneyTable) (h : Nat) :
    jt.lastBucket h = (jt.extensions 3 (jt.bucket (.home h)).ext).getLastD (.home h) := by
  rw [JourneyTable.lastBucket, JourneyTable.chain, List.getLastD_cons]

theorem JourneyTable.follows_chain {h : Nat} (short : (jt.bucket (jt.lastBucket h)).ext = none) :
    jt.Follows (some (.home h)) (jt.chain h) := by
  refine ⟨rfl, JourneyTable.follows_extensions rfl ?_⟩
  rw [← JourneyTable.lastBucket_eq]
  exact JourneyTable.next_eq_none.2 short

theorem JourneyTable.chain_eq {h : Nat} (follow : jt.Follows (some (.home h)) l) (bound : l.length ≤ 4) : jt.chain h = l := by
  cases l with
  | nil => cases follow
  | cons b l =>
    obtain ⟨first, follow⟩ := follow
    cases first
    exact congrArg _ (JourneyTable.extensions_eq follow (Nat.le_of_succ_le_succ bound))

/-- The last bucket of a list that ends points at none. -/
theorem JourneyTable.Follows.last (h : jt.Follows p l) (ne : l ≠ []) : jt.next (l.getLast ne) = none := by
  have follow := h
  rw [← List.dropLast_append_getLast ne] at follow
  exact follow.suffix.2

theorem JourneyTable.chain_ne_nil (jt : JourneyTable) (h : Nat) : jt.chain h ≠ [] := List.cons_ne_nil _ _

theorem JourneyTable.lastBucket_eq_getLast (jt : JourneyTable) (h : Nat) :
    jt.lastBucket h = (jt.chain h).getLast (jt.chain_ne_nil h) := by
  rw [JourneyTable.lastBucket, List.getLastD_eq_getLast?, List.getLast?_eq_some_getLast (jt.chain_ne_nil h)]
  rfl

/-- A chain is what stands before its last bucket, and that bucket. -/
theorem JourneyTable.chain_split (jt : JourneyTable) (h : Nat) : jt.chain h = (jt.chain h).dropLast ++ [jt.lastBucket h] := by
  rw [JourneyTable.lastBucket_eq_getLast, List.dropLast_append_getLast]

theorem JourneyTable.lastBucket_mem (jt : JourneyTable) (h : Nat) : jt.lastBucket h ∈ jt.chain h := by
  rw [JourneyTable.lastBucket_eq_getLast]
  exact List.getLast_mem _

theorem JourneyTable.short_of_follows {h : Nat} (follow : jt.Follows (some (.home h)) (jt.chain h)) :
    (jt.bucket (jt.lastBucket h)).ext = none := by
  rw [← JourneyTable.next_eq_none, JourneyTable.lastBucket_eq_getLast]
  exact follow.last _

end

/-! ### Chains of a sound table -/

section
variable {jt : JourneyTable}

theorem JourneyTable.Sound.linked_nodup (sound : jt.Sound) : jt.linked.Nodup :=
  (List.nodup_append.1 (sound.extensions.nodup_iff.2 List.nodup_range)).2.1

/-- A free extension bucket is named by no pointer (R58). -/
theorem JourneyTable.Sound.not_linked (sound : jt.Sound) {n : Nat} (free : n ∈ jt.pool) : n ∉ jt.linked := fun linked =>
  (List.nodup_append.1 (sound.extensions.nodup_iff.2 List.nodup_range)).2.2 n free n linked rfl

theorem JourneyTable.Sound.follows (sound : jt.Sound) (h : Nat) : jt.Follows (some (.home h)) (jt.chain h) :=
  JourneyTable.follows_chain (sound.short h)

theorem JourneyTable.Sound.chain_nodup (sound : jt.Sound) (h : Nat) : (jt.chain h).Nodup := (sound.follows h).nodup

/-- An extension bucket in a chain is named by the pointer of another bucket of the chain. -/
theorem JourneyTable.Sound.before (sound : jt.Sound) {h n : Nat} (mem : .ext n ∈ jt.chain h) :
    ∃ a ∈ jt.chain h, jt.next a = some (.ext n) := by
  rcases (sound.follows h).eq_or_next mem with first | before
  · cases first
  · exact before

/-- An extension bucket in a chain is a linked one. -/
theorem JourneyTable.Sound.linked_of_mem_chain (sound : jt.Sound) (wf : jt.wf = true) {h n : Nat}
    (mem : .ext n ∈ jt.chain h) : n ∈ jt.linked := by
  obtain ⟨a, -, ha⟩ := sound.before mem
  exact (JourneyTable.mem_linked wf).2 ⟨a, JourneyTable.next_eq_some.1 ha⟩

/-- No two chains share a bucket (R57). -/
theorem JourneyTable.Sound.home_unique (sound : jt.Sound) (wf : jt.wf = true) {h k : Nat} {b : BucketRef}
    (hb : b ∈ jt.chain h) (kb : b ∈ jt.chain k) : h = k := by
  obtain ⟨before, after, split⟩ := List.append_of_mem hb
  induction before using List.reverseRecOn generalizing b after with
  | nil =>
    obtain rfl : BucketRef.home h = b := (List.cons.inj split).1
    rcases (sound.follows k).eq_or_next kb with first | ⟨a, -, ha⟩
    · cases first; rfl
    · exact absurd ha (jt.next_ne_home a h)
  | append_singleton before a ih =>
    have link : jt.next a = some b := by
      have follow := sound.follows h
      rw [split, List.append_assoc] at follow
      exact follow.suffix.2.1
    rcases (sound.follows k).eq_or_next kb with first | ⟨c, hc, link'⟩
    · cases first; exact absurd link (jt.next_ne_home a k)
    · obtain rfl := JourneyTable.next_inj wf sound.linked_nodup link link'
      exact ih (by rw [split]; simp) hc (b :: after) (by rw [split]; simp)

end

/-! ## Lookups (R59) -/

/-- What a slot holds is the record of a card and day. -/
def Holding (c : Card) (d : Day) (x : Option Record) : Prop := ∃ r, x = some r ∧ r.card = c ∧ r.day = d

theorem not_holding_none (c : Card) (d : Day) : ¬Holding c d none := by rintro ⟨r, h, -⟩; cases h

theorem holding_some {c : Card} {d : Day} {r : Record} : Holding c d (some r) ↔ r.card = c ∧ r.day = d :=
  ⟨fun ⟨_, same, key⟩ => by cases same; exact key, fun key => ⟨r, rfl, key⟩⟩

section
variable {jt u : JourneyTable} {c : Card} {d : Day} {p : SlotRef} {v : Option Record}

theorem JourneyTable.holds_iff : jt.holds c d p = true ↔ Holding c d (jt.slot p) := by
  unfold JourneyTable.holds
  split
  next r held => rw [held, holding_some]; simp
  next empty => rw [empty]; simp [not_holding_none]

theorem JourneyTable.mem_slots {h : Nat} : p ∈ jt.slots h ↔ p.1 ∈ jt.chain h := by
  obtain ⟨b, i⟩ := p
  simp only [JourneyTable.slots, List.mem_flatMap, List.mem_cons, Prod.mk.injEq, List.not_mem_nil, or_false]
  constructor
  · rintro ⟨a, ha, ⟨rfl, -⟩ | ⟨rfl, -⟩ | ⟨rfl, -⟩ | ⟨rfl, -⟩⟩ <;> exact ha
  · intro hb
    exact ⟨b, hb, by fin_cases i <;> simp⟩

theorem JourneyTable.findSlot_some (h : jt.findSlot c d = some p) :
    p.1 ∈ jt.chain (homeIndex c) ∧ Holding c d (jt.slot p) :=
  ⟨JourneyTable.mem_slots.1 (List.mem_of_find?_eq_some h), JourneyTable.holds_iff.1 (List.find?_some h)⟩

theorem JourneyTable.lookup_of_findSlot (h : jt.findSlot c d = some p) : jt.lookup c d = jt.slot p := by
  simp only [JourneyTable.lookup, h]

theorem JourneyTable.lookup_eq_none :
    jt.lookup c d = none ↔ ∀ p : SlotRef, p.1 ∈ jt.chain (homeIndex c) → ¬Holding c d (jt.slot p) := by
  have absent : jt.findSlot c d = none ↔ ∀ p : SlotRef, p.1 ∈ jt.chain (homeIndex c) → ¬Holding c d (jt.slot p) := by
    simp only [JourneyTable.findSlot, List.find?_eq_none, JourneyTable.mem_slots, JourneyTable.holds_iff]
  rw [← absent]
  cases found : jt.findSlot c d with
  | none => simp [JourneyTable.lookup, found]
  | some p =>
    obtain ⟨r, held, -⟩ := (JourneyTable.findSlot_some found).2
    simp [JourneyTable.lookup_of_findSlot found, held]

theorem JourneyTable.findSlot_of_lookup {r : Record} (h : jt.lookup c d = some r) :
    ∃ p, jt.findSlot c d = some p ∧ jt.slot p = some r := by
  cases found : jt.findSlot c d with
  | none => simp [JourneyTable.lookup, found] at h
  | some p => exact ⟨p, rfl, JourneyTable.lookup_of_findSlot found ▸ h⟩

/-- Where one slot of its chain alone holds the record of a card and day, that slot is found. -/
theorem JourneyTable.findSlot_eq (mem : p.1 ∈ jt.chain (homeIndex c))
    (only : ∀ q : SlotRef, q.1 ∈ jt.chain (homeIndex c) → (Holding c d (jt.slot q) ↔ q = p)) : jt.findSlot c d = some p := by
  cases found : jt.findSlot c d with
  | none => exact absurd ((only p mem).2 rfl) (JourneyTable.lookup_eq_none.1 (by simp [JourneyTable.lookup, found]) p mem)
  | some q =>
    obtain ⟨hq, held⟩ := JourneyTable.findSlot_some found
    rw [(only q hq).1 held]

/-! ### Lookups after a slot is written -/

theorem JourneyTable.extensions_congr (same : ∀ b, (u.bucket b).ext = (jt.bucket b).ext) (fuel : Nat) (q : Option Nat) :
    u.extensions fuel q = jt.extensions fuel q := by
  induction fuel generalizing q with
  | zero => rfl
  | succ fuel ih =>
    cases q with
    | none => rfl
    | some n => simp only [JourneyTable.extensions, same, ih]

theorem JourneyTable.chain_congr (same : ∀ b, (u.bucket b).ext = (jt.bucket b).ext) (h : Nat) : u.chain h = jt.chain h := by
  simp only [JourneyTable.chain, same, JourneyTable.extensions_congr same]

/-- A lookup reads the buckets alone. -/
theorem JourneyTable.lookup_congr (same : ∀ b, u.bucket b = jt.bucket b) (c : Card) (d : Day) :
    u.lookup c d = jt.lookup c d := by
  have slot : u.slot = jt.slot := by funext p; simp only [JourneyTable.slot, same]
  have holds : u.holds c d = jt.holds c d := by funext p; simp only [JourneyTable.holds, slot]
  have slots : u.slots (homeIndex c) = jt.slots (homeIndex c) := by
    have chain : u.chain (homeIndex c) = jt.chain (homeIndex c) := JourneyTable.chain_congr (fun b => by rw [same]) _
    rw [JourneyTable.slots, chain]; rfl
  simp only [JourneyTable.lookup, JourneyTable.findSlot, holds, slots, slot]

theorem JourneyTable.chain_setSlot (wf : jt.wf = true) (p : SlotRef) (v : Option Record) (h : Nat) :
    (jt.setSlot p v).chain h = jt.chain h := JourneyTable.chain_congr (fun b => JourneyTable.ext_setSlot wf p b v) h

theorem JourneyTable.findSlot_setSlot (wf : jt.wf = true) (same : Holding c d v ↔ Holding c d (jt.slot p)) :
    (jt.setSlot p v).findSlot c d = jt.findSlot c d := by
  have holds : (jt.setSlot p v).holds c d = jt.holds c d := by
    funext q
    rw [Bool.eq_iff_iff, JourneyTable.holds_iff, JourneyTable.holds_iff, JourneyTable.slot_setSlot wf]
    split
    next here => rw [here, same]
    next => rfl
  rw [JourneyTable.findSlot, JourneyTable.slots_setSlot wf, holds]
  rfl

/-- A slot that held nothing of a card and day, and holds nothing of them now. -/
theorem JourneyTable.lookup_setSlot_other (wf : jt.wf = true) (before : ¬Holding c d (jt.slot p)) (after : ¬Holding c d v) :
    (jt.setSlot p v).lookup c d = jt.lookup c d := by
  have found := JourneyTable.findSlot_setSlot (p := p) (v := v) wf (iff_of_false after before)
  cases h : jt.findSlot c d with
  | none => simp only [JourneyTable.lookup, found, h]
  | some q =>
    have ne : q ≠ p := by rintro rfl; exact before (JourneyTable.findSlot_some h).2
    simp only [JourneyTable.lookup, found, h, JourneyTable.slot_setSlot wf, if_neg ne]

/-- The one slot of its chain that holds the record of a card and day, written. -/
theorem JourneyTable.lookup_setSlot_same (wf : jt.wf = true) (mem : p.1 ∈ jt.chain (homeIndex c))
    (only : ∀ q : SlotRef, q.1 ∈ jt.chain (homeIndex c) → q ≠ p → ¬Holding c d (jt.slot q)) (after : ∀ r ∈ v, r.card = c ∧ r.day = d) :
    (jt.setSlot p v).lookup c d = v := by
  cases v with
  | none =>
    refine JourneyTable.lookup_eq_none.2 fun q hq => ?_
    rw [JourneyTable.chain_setSlot wf] at hq
    rw [JourneyTable.slot_setSlot wf]
    split
    next => exact not_holding_none c d
    next ne => exact only q hq ne
  | some r =>
    have found : (jt.setSlot p (some r)).findSlot c d = some p := by
      refine JourneyTable.findSlot_eq (by rwa [JourneyTable.chain_setSlot wf]) fun q hq => ?_
      rw [JourneyTable.chain_setSlot wf] at hq
      rw [JourneyTable.slot_setSlot wf]
      split
      next here => exact iff_of_true (holding_some.2 (after r rfl)) here
      next ne => exact iff_of_false (only q hq ne) ne
    rw [JourneyTable.lookup_of_findSlot found, JourneyTable.slot_setSlot wf, if_pos rfl]

/-! ### A record written back (R73) -/

theorem JourneyTable.write_of_findSlot {r : Record} (h : jt.findSlot r.card r.day = some p) :
    jt.write r = jt.setSlot p (some r) := by
  simp only [JourneyTable.write, h]

theorem JourneyTable.write_of_absent {r : Record} (h : jt.lookup r.card r.day = none) : jt.write r = jt := by
  cases found : jt.findSlot r.card r.day with
  | none => simp only [JourneyTable.write, found]
  | some p =>
    obtain ⟨x, held, -⟩ := (JourneyTable.findSlot_some found).2
    rw [JourneyTable.lookup_of_findSlot found, held] at h
    cases h

section
variable {old r : Record} (wf : jt.wf = true) (held : jt.lookup r.card r.day = some old)
include wf held

theorem JourneyTable.lookup_write_same : (jt.write r).lookup r.card r.day = some r := by
  obtain ⟨p, found, slot⟩ := JourneyTable.findSlot_of_lookup held
  have same : Holding r.card r.day (some r) ↔ Holding r.card r.day (jt.slot p) :=
    iff_of_true (holding_some.2 ⟨rfl, rfl⟩) (JourneyTable.findSlot_some found).2
  rw [JourneyTable.write_of_findSlot found, JourneyTable.lookup_of_findSlot ((JourneyTable.findSlot_setSlot wf same).trans found),
    JourneyTable.slot_setSlot wf, if_pos rfl]

theorem JourneyTable.lookup_write_other (ne : (c, d) ≠ (r.card, r.day)) : (jt.write r).lookup c d = jt.lookup c d := by
  obtain ⟨p, found, slot⟩ := JourneyTable.findSlot_of_lookup held
  obtain ⟨card, day⟩ := JourneyTable.lookup_key held
  rw [JourneyTable.write_of_findSlot found]
  refine JourneyTable.lookup_setSlot_other wf ?_ ?_
  · rw [slot, holding_some, card, day]
    rintro ⟨rfl, rfl⟩; exact ne rfl
  · rw [holding_some]
    rintro ⟨rfl, rfl⟩; exact ne rfl

end

/-! ## The records of a chain -/

theorem JourneyTable.records_eq (jt : JourneyTable) (h : Nat) :
    jt.records h = (jt.chain h).flatMap fun b => (jt.bucket b).records := by
  have slots : ∀ b : BucketRef, List.filterMap jt.slot [(b, 0), (b, 1), (b, 2), (b, 3)] = (jt.bucket b).records := by
    intro b
    have four : ∀ x : Vector (Option Record) 4, x.toList = [x[0], x[1], x[2], x[3]] := by
      intro x
      apply List.ext_getElem (by simp)
      intro i hi _
      have : i < 4 := by simpa using hi
      interval_cases i <;> simp
    rw [Bucket.records, four]
    simp only [List.filterMap_cons, JourneyTable.slot, id_eq]
    rfl
  simp only [JourneyTable.records, JourneyTable.slots, List.filterMap_flatMap, slots]

/-- A lookup reads the records of the chain in chain order. -/
theorem JourneyTable.lookup_eq_find (jt : JourneyTable) (c : Card) (d : Day) :
    jt.lookup c d = (jt.records (homeIndex c)).find? fun r => r.card == c && r.day == d := by
  have holds : (fun p => (jt.slot p).any fun r => r.card == c && r.day == d) = jt.holds c d := by
    funext p
    unfold JourneyTable.holds
    cases jt.slot p <;> rfl
  rw [JourneyTable.records, List.find?_filterMap, holds, JourneyTable.lookup, JourneyTable.findSlot]
  cases (jt.slots (homeIndex c)).find? (jt.holds c d) <;> rfl

/-! ## A new extension bucket (R60) -/

section
variable {h n : Nat} {rest : List Nat} {r : Record}

/-- The bucket that an extension bucket becomes when it is linked: the record in its slot 0. -/
def Bucket.single (r : Record) : Bucket := { Bucket.empty with slots := Bucket.empty.slots.set 0 (some r) }

theorem Bucket.single_records (r : Record) : (Bucket.single r).records = [r] := by
  simp [Bucket.records, Bucket.single, Bucket.empty, Vector.toList_set, List.replicate]

theorem JourneyTable.bucket_linkExtension (wf : jt.wf = true) (b : BucketRef) :
    (jt.linkExtension h n rest r).bucket b = if b = .ext n then Bucket.single r
      else if b = jt.lastBucket h then { jt.bucket b with ext := some n } else jt.bucket b := by
  let t := jt.setBucket (jt.lastBucket h) { jt.bucket (jt.lastBucket h) with ext := some n }
  have twf : t.wf = true := JourneyTable.setBucket_wf wf _ _
  change (t.setBucket (.ext n) (Bucket.single r)).bucket b = _
  split
  next here => rw [here, JourneyTable.bucket_setBucket_same twf]
  next other =>
    rw [JourneyTable.bucket_setBucket_other twf _ other]
    split
    next last => rw [last, JourneyTable.bucket_setBucket_same wf]
    next inner => rw [JourneyTable.bucket_setBucket_other wf _ inner]

theorem JourneyTable.bucket_records_linkExtension (wf : jt.wf = true) {b : BucketRef} (ne : b ≠ .ext n) :
    ((jt.linkExtension h n rest r).bucket b).records = (jt.bucket b).records := by
  rw [JourneyTable.bucket_linkExtension wf, if_neg ne]
  split <;> rfl

variable (wf : jt.wf = true) (sound : jt.Sound) (pool : jt.pool = n :: rest)
include wf sound pool

theorem JourneyTable.Sound.pool_head_not_mem_chain (k : Nat) : .ext n ∉ jt.chain k := fun mem =>
  sound.not_linked (pool ▸ List.mem_cons_self ..) (sound.linked_of_mem_chain wf mem)

theorem JourneyTable.Sound.pool_head_ne_last (k : Nat) : jt.lastBucket k ≠ .ext n := fun same =>
  sound.pool_head_not_mem_chain wf pool k (same ▸ jt.lastBucket_mem k)

theorem JourneyTable.Sound.follows_linkExtension_same :
    (jt.linkExtension h n rest r).Follows (some (.home h)) (jt.chain h ++ [.ext n]) := by
  have follow := sound.follows h
  have once := sound.chain_nodup h
  rw [jt.chain_split h] at follow once ⊢
  rw [List.append_assoc]
  refine follow.extend (fun a ha => ?_) ?_ ?_
  · have new : a ≠ .ext n := by
      rintro rfl; exact sound.pool_head_not_mem_chain wf pool h (List.mem_of_mem_dropLast ha)
    have inner : a ≠ jt.lastBucket h := fun same => (List.nodup_append.1 once).2.2 a ha _ (by simp) same
    rw [JourneyTable.next, JourneyTable.bucket_linkExtension wf, if_neg new, if_neg inner]
    rfl
  · rw [JourneyTable.next, JourneyTable.bucket_linkExtension wf, if_neg (sound.pool_head_ne_last wf pool h), if_pos rfl]
    rfl
  · rw [JourneyTable.next, JourneyTable.bucket_linkExtension wf, if_pos rfl]
    rfl

theorem JourneyTable.Sound.follows_linkExtension_other {k : Nat} (ne : k ≠ h) :
    (jt.linkExtension h n rest r).Follows (some (.home k)) (jt.chain k) := by
  refine (sound.follows k).congr fun b hb => ?_
  have new : b ≠ .ext n := by rintro rfl; exact sound.pool_head_not_mem_chain wf pool k hb
  have inner : b ≠ jt.lastBucket h := by
    rintro rfl; exact ne (sound.home_unique wf hb (jt.lastBucket_mem h))
  rw [JourneyTable.next, JourneyTable.bucket_linkExtension wf, if_neg new, if_neg inner]
  rfl

theorem JourneyTable.Sound.chain_linkExtension_same (room : (jt.chain h).length < 4) :
    (jt.linkExtension h n rest r).chain h = jt.chain h ++ [.ext n] :=
  JourneyTable.chain_eq (sound.follows_linkExtension_same wf pool) (by simpa using room)

theorem JourneyTable.Sound.chain_linkExtension_other {k : Nat} (ne : k ≠ h) :
    (jt.linkExtension h n rest r).chain k = jt.chain k :=
  JourneyTable.chain_eq (sound.follows_linkExtension_other wf pool ne) (jt.chain_length_le k)

theorem JourneyTable.Sound.records_linkExtension (room : (jt.chain h).length < 4) (k : Nat) :
    (jt.linkExtension h n rest r).records k = if k = h then jt.records h ++ [r] else jt.records k := by
  have kept : ∀ i, ((jt.chain i).flatMap fun b => ((jt.linkExtension h n rest r).bucket b).records) = jt.records i := by
    intro i
    rw [JourneyTable.records_eq]
    refine List.flatMap_congr fun b hb => JourneyTable.bucket_records_linkExtension wf ?_
    rintro rfl; exact sound.pool_head_not_mem_chain wf pool i hb
  rw [JourneyTable.records_eq]
  split
  next here =>
    subst here
    rw [sound.chain_linkExtension_same wf pool room, List.flatMap_append, kept]
    simp [JourneyTable.bucket_linkExtension wf, Bucket.single_records]
  next other => rw [sound.chain_linkExtension_other wf pool other, kept]

theorem JourneyTable.Sound.lookup_linkExtension (place : h = homeIndex r.card) (room : (jt.chain h).length < 4)
    (absent : jt.lookup r.card r.day = none) (c : Card) (d : Day) :
    (jt.linkExtension h n rest r).lookup c d = if (c, d) = (r.card, r.day) then some r else jt.lookup c d := by
  rw [JourneyTable.lookup_eq_find] at absent
  rw [JourneyTable.lookup_eq_find, sound.records_linkExtension wf pool room, JourneyTable.lookup_eq_find]
  subst place
  by_cases same : (c, d) = (r.card, r.day)
  · cases same
    rw [if_pos rfl, if_pos rfl, List.find?_append, absent]
    simp
  · rw [if_neg same]
    split
    next here =>
      rw [List.find?_append, here]
      have other : (r.card == c && r.day == d) = false := by
        rw [Bool.and_eq_false_iff]
        by_contra both
        simp only [beq_eq_false_iff_ne, ne_eq, not_or, not_not] at both
        exact same (by rw [both.1, both.2])
      simp [other]
    next => rfl

end

end

/-! ## An extension bucket unlinked (R62) -/

/-- The bucket before an extension bucket in a chain is the one whose pointer names it. -/
theorem JourneyTable.Follows.before_of_mem {jt : JourneyTable} {p : Option BucketRef} {l : List BucketRef} {n : Nat}
    (h : jt.Follows p l) (mem : .ext n ∈ l) (first : p ≠ some (.ext n)) :
    ∃ a ∈ l, bucketBefore n l = some a ∧ jt.next a = some (.ext n) := by
  induction l generalizing p with
  | nil => cases mem
  | cons b l ih =>
    obtain ⟨rfl, h⟩ := h
    rcases List.mem_cons.1 mem with rfl | mem
    · exact absurd rfl first
    · cases l with
      | nil => cases mem
      | cons c l =>
        by_cases hc : c = .ext n
        · exact ⟨b, by simp, by simp [bucketBefore, hc], by rw [h.1, hc]⟩
        · obtain ⟨a, ha, before, link⟩ := ih h mem (by rw [h.1]; simpa using hc)
          exact ⟨a, List.mem_cons_of_mem _ ha, by simpa [bucketBefore, hc] using before, link⟩

/-- A pointer that skips an extension bucket. -/
def JourneyTable.skip (jt : JourneyTable) (n : Nat) (q : Option BucketRef) : Option BucketRef :=
  if q = some (.ext n) then jt.next (.ext n) else q

section
variable {jt : JourneyTable} {h n : Nat} {a : BucketRef}

theorem JourneyTable.unlink_of_before (before : bucketBefore n (jt.chain h) = some a) : jt.unlink h n =
    { (jt.setBucket a { jt.bucket a with ext := (jt.bucket (.ext n)).ext }).setBucket (.ext n) Bucket.empty with
      pool := (jt.setBucket a { jt.bucket a with ext := (jt.bucket (.ext n)).ext }).pool ++ [n] } := by
  simp only [JourneyTable.unlink, before]
  cases a <;> rfl

theorem JourneyTable.setBucket_pool (jt : JourneyTable) (r : BucketRef) (b : Bucket) : (jt.setBucket r b).pool = jt.pool := by
  cases r <;> rfl

theorem JourneyTable.setBucket_inUse (jt : JourneyTable) (r : BucketRef) (b : Bucket) :
    (jt.setBucket r b).inUse = jt.inUse := by
  cases r <;> rfl

variable (wf : jt.wf = true) (before : bucketBefore n (jt.chain h) = some a)

include before in
theorem JourneyTable.unlink_pool : (jt.unlink h n).pool = jt.pool ++ [n] := by
  rw [JourneyTable.unlink_of_before before]
  exact congrArg (· ++ [n]) (jt.setBucket_pool a _)

include before in
theorem JourneyTable.unlink_inUse : (jt.unlink h n).inUse = jt.inUse := by
  rw [JourneyTable.unlink_of_before before]
  exact jt.setBucket_inUse a _

include wf before

theorem JourneyTable.bucket_unlink (b : BucketRef) : (jt.unlink h n).bucket b = if b = .ext n then Bucket.empty
    else if b = a then { jt.bucket b with ext := (jt.bucket (.ext n)).ext } else jt.bucket b := by
  let t := jt.setBucket a { jt.bucket a with ext := (jt.bucket (.ext n)).ext }
  have twf : t.wf = true := JourneyTable.setBucket_wf wf _ _
  have read : (jt.unlink h n).bucket b = (t.setBucket (.ext n) Bucket.empty).bucket b := by
    rw [JourneyTable.unlink_of_before before]; cases b <;> rfl
  rw [read]
  split
  next here => rw [here, JourneyTable.bucket_setBucket_same twf]
  next other =>
    rw [JourneyTable.bucket_setBucket_other twf _ other]
    split
    next here => rw [here, JourneyTable.bucket_setBucket_same wf]
    next inner => rw [JourneyTable.bucket_setBucket_other wf _ inner]

variable (once : jt.linked.Nodup) (link : jt.next a = some (.ext n)) (apart : a ≠ .ext n)
include once link apart

theorem JourneyTable.next_unlink {b : BucketRef} (ne : b ≠ .ext n) : (jt.unlink h n).next b = jt.skip n (jt.next b) := by
  rw [JourneyTable.next, JourneyTable.bucket_unlink wf before, if_neg ne, JourneyTable.skip]
  split
  next here => subst here; rw [if_pos link]; rfl
  next other => rw [if_neg fun same => other (JourneyTable.next_inj wf once same link)]; rfl

/-- Every list that the pointers make loses the extension bucket, and nothing else. -/
theorem JourneyTable.Follows.unlink {p : Option BucketRef} {l : List BucketRef} (follow : jt.Follows p l) :
    (jt.unlink h n).Follows (jt.skip n p) (l.filter fun x => x != .ext n) := by
  have simple : jt.next (.ext n) ≠ some (.ext n) := fun loop => apart (JourneyTable.next_inj wf once link loop)
  induction l generalizing p with
  | nil => obtain rfl := follow; rfl
  | cons b l ih =>
    obtain ⟨rfl, follow⟩ := follow
    have ih := ih follow
    by_cases here : b = .ext n
    · subst here
      rw [JourneyTable.skip, if_neg simple] at ih
      rw [JourneyTable.skip, if_pos rfl, List.filter_cons_of_neg (by simp)]
      exact ih
    · rw [JourneyTable.skip, if_neg (by simpa using here), List.filter_cons_of_pos (by simpa using here)]
      exact ⟨rfl, by rwa [JourneyTable.next_unlink wf before once link apart here]⟩

theorem JourneyTable.chain_unlink {k : Nat} (follow : jt.Follows (some (.home k)) (jt.chain k)) :
    (jt.unlink h n).chain k = (jt.chain k).filter fun x => x != .ext n := by
  have result := follow.unlink wf before once link apart
  rw [JourneyTable.skip, if_neg (by simp)] at result
  exact JourneyTable.chain_eq result ((List.length_filter_le _ _).trans (jt.chain_length_le k))

/-- An extension bucket without records leaves the records of every chain as they are. -/
theorem JourneyTable.records_unlink (empty : (jt.bucket (.ext n)).records = []) {k : Nat}
    (follow : jt.Follows (some (.home k)) (jt.chain k)) : (jt.unlink h n).records k = jt.records k := by
  rw [JourneyTable.records_eq, JourneyTable.records_eq, JourneyTable.chain_unlink wf before once link apart follow]
  induction jt.chain k with
  | nil => rfl
  | cons b l ih =>
    by_cases here : b = .ext n
    · subst here
      rw [List.filter_cons_of_neg (by simp), ih, List.flatMap_cons, empty, List.nil_append]
    · have same : ((jt.unlink h n).bucket b).records = (jt.bucket b).records := by
        rw [JourneyTable.bucket_unlink wf before, if_neg here]
        split <;> rfl
      rw [List.filter_cons_of_pos (by simpa using here), List.flatMap_cons, List.flatMap_cons, ih, same]

omit once in
/-- The pointers of the table after an unlinking: the one to the bucket is gone, the one from it stands in its place. -/
theorem JourneyTable.linked_unlink_perm : ((jt.unlink h n).linked ++ [n]).Perm jt.linked := by
  have named : (jt.bucket a).ext = some n := JourneyTable.next_eq_some.1 link
  let t := jt.setBucket a { jt.bucket a with ext := (jt.bucket (.ext n)).ext }
  have twf : t.wf = true := JourneyTable.setBucket_wf wf _ _
  have first := jt.linked_setBucket_perm wf a { jt.bucket a with ext := (jt.bucket (.ext n)).ext }
  have second := t.linked_setBucket_perm twf (.ext n) Bucket.empty
  have read : (jt.unlink h n).linked = (t.setBucket (.ext n) Bucket.empty).linked := by
    rw [JourneyTable.unlink_of_before before]; rfl
  have pointer : (t.bucket (.ext n)).ext = (jt.bucket (.ext n)).ext := by
    rw [JourneyTable.bucket_setBucket_other wf _ (Ne.symm apart)]
  rw [named] at first
  rw [pointer] at second
  rw [read, List.perm_iff_count] at *
  intro x
  have first := first x
  have second := second x
  have none : (Bucket.empty.ext.toList : List Nat) = [] := rfl
  simp only [List.count_append, Option.toList_some, none, List.count_nil, Nat.add_zero, t] at first second ⊢
  omega

omit once link in
theorem JourneyTable.all_unlink_perm (empty : (jt.bucket (.ext n)).records = []) : ((jt.unlink h n).all).Perm jt.all := by
  let t := jt.setBucket a { jt.bucket a with ext := (jt.bucket (.ext n)).ext }
  have twf : t.wf = true := JourneyTable.setBucket_wf wf _ _
  have first := jt.collect_setBucket_perm wf Bucket.records_empty a { jt.bucket a with ext := (jt.bucket (.ext n)).ext }
  have second := t.collect_setBucket_perm twf Bucket.records_empty (.ext n) Bucket.empty
  have read : (jt.unlink h n).all = (t.setBucket (.ext n) Bucket.empty).collect Bucket.records := by
    rw [JourneyTable.unlink_of_before before]; rfl
  rw [JourneyTable.bucket_setBucket_other wf _ (Ne.symm apart), empty, Bucket.records_empty, List.append_nil,
    List.append_nil] at second
  rw [read, JourneyTable.all_eq]
  exact second.trans ((List.perm_append_right_iff _).1 first)

end

/-! ## A removal (R62) -/

/-- A slot freed, and one record fewer in use. -/
def JourneyTable.freed (jt : JourneyTable) (p : SlotRef) : JourneyTable := { jt.setSlot p none with inUse := jt.inUse - 1 }

section
variable {jt : JourneyTable} {c : Card} {d : Day} {p : SlotRef}

theorem JourneyTable.freed_wf (wf : jt.wf = true) : (jt.freed p).wf = true := JourneyTable.setSlot_wf wf p none

theorem JourneyTable.setSlot_pool (jt : JourneyTable) (p : SlotRef) (v : Option Record) : (jt.setSlot p v).pool = jt.pool :=
  jt.setBucket_pool _ _

theorem JourneyTable.freed_pool (jt : JourneyTable) (p : SlotRef) : (jt.freed p).pool = jt.pool := jt.setSlot_pool p none

theorem JourneyTable.freed_chain (wf : jt.wf = true) (p : SlotRef) (h : Nat) : (jt.freed p).chain h = jt.chain h :=
  (JourneyTable.chain_congr (u := jt.freed p) (jt := jt.setSlot p none) (fun b => by cases b <;> rfl) h).trans
    (JourneyTable.chain_setSlot wf p none h)

theorem JourneyTable.freed_bucket (wf : jt.wf = true) (p : SlotRef) (b : BucketRef) : (jt.freed p).bucket b =
    if b = p.1 then { jt.bucket b with slots := (jt.bucket b).slots.set p.2 none } else jt.bucket b := by
  have read : (jt.freed p).bucket b = (jt.setSlot p none).bucket b := by cases b <;> rfl
  rw [read, JourneyTable.setSlot]
  split
  next here => rw [here, JourneyTable.bucket_setBucket_same wf]
  next other => rw [JourneyTable.bucket_setBucket_other wf _ other]

theorem JourneyTable.freed_next (wf : jt.wf = true) (p : SlotRef) (b : BucketRef) : (jt.freed p).next b = jt.next b := by
  rw [JourneyTable.next, JourneyTable.freed_bucket wf]
  split <;> rfl

theorem JourneyTable.freed_slot (wf : jt.wf = true) (p q : SlotRef) : (jt.freed p).slot q = if q = p then none else jt.slot q := by
  have read : (jt.freed p).slot q = (jt.setSlot p none).slot q := by obtain ⟨b | b, i⟩ := q <;> rfl
  rw [read, JourneyTable.slot_setSlot wf]

theorem JourneyTable.freed_used (wf : jt.wf = true) {r : Record} (held : jt.slot p = some r) :
    ((jt.freed p).bucket p.1).used + 1 = (jt.bucket p.1).used := by
  have perm := ((jt.bucket p.1).records_set_perm p.2 none).length_eq
  have slot : (jt.bucket p.1).slots[p.2] = some r := held
  rw [slot] at perm
  rw [JourneyTable.freed_bucket wf, if_pos rfl, Bucket.used_eq_length, Bucket.used_eq_length]
  simpa using perm

theorem JourneyTable.freed_linked_perm (wf : jt.wf = true) (p : SlotRef) : (jt.freed p).linked.Perm jt.linked :=
  JourneyTable.linked_setSlot_perm wf p none

theorem JourneyTable.freed_all_perm (wf : jt.wf = true) {r : Record} (held : jt.slot p = some r) :
    ((jt.freed p).all ++ [r]).Perm jt.all := by
  have perm := JourneyTable.all_setSlot_perm wf p none
  rw [held, Option.toList_none, List.append_nil] at perm
  exact perm

theorem JourneyTable.remove_of_absent (absent : jt.lookup c d = none) : jt.remove c d = jt := by
  cases found : jt.findSlot c d with
  | none => simp only [JourneyTable.remove, found]
  | some p =>
    obtain ⟨r, held, -⟩ := (JourneyTable.findSlot_some found).2
    rw [JourneyTable.lookup_of_findSlot found, held] at absent
    cases absent

section
variable (wf : jt.wf = true) (found : jt.findSlot c d = some p)
include wf found

/-- The bucket stays where it is a home bucket or has another record. -/
theorem JourneyTable.remove_keeps_bucket (stays : (∃ n, p.1 = .home n) ∨ 2 ≤ (jt.bucket p.1).used) :
    jt.remove c d = jt.freed p := by
  obtain ⟨r, held, -⟩ := (JourneyTable.findSlot_some found).2
  have used := JourneyTable.freed_used wf held
  obtain ⟨b, i⟩ := p
  simp only [JourneyTable.remove, found]
  cases b with
  | home n => rfl
  | ext n =>
    have more : 2 ≤ (jt.bucket (.ext n)).used := stays.resolve_left (by rintro ⟨m, h⟩; cases h)
    exact if_neg (by change ¬((jt.freed (.ext n, i)).bucket (.ext n)).used = 0; dsimp only at used; omega)

/-- An extension bucket left without a record is unlinked. -/
theorem JourneyTable.remove_unlinks {n : Nat} (ext : p.1 = .ext n) (single : (jt.bucket p.1).used = 1) :
    jt.remove c d = (jt.freed p).unlink (homeIndex c) n ∧ ((jt.freed p).bucket (.ext n)).records = [] := by
  obtain ⟨r, held, -⟩ := (JourneyTable.findSlot_some found).2
  have used := JourneyTable.freed_used wf held
  obtain ⟨b, i⟩ := p
  obtain rfl : b = .ext n := ext
  have none : ((jt.freed (.ext n, i)).bucket (.ext n)).used = 0 := by dsimp only at used single; omega
  refine ⟨?_, by rwa [Bucket.used_eq_length, List.length_eq_zero_iff] at none⟩
  simp only [JourneyTable.remove, found]
  exact if_pos none

end

section
variable (wf : jt.wf = true) (sound : jt.Sound)
include wf sound

theorem JourneyTable.Sound.freed_follows (p : SlotRef) (h : Nat) :
    (jt.freed p).Follows (some (.home h)) ((jt.freed p).chain h) := by
  rw [JourneyTable.freed_chain wf]
  exact (sound.follows h).congr fun b _ => JourneyTable.freed_next wf p b

variable (found : jt.findSlot c d = some p)
include found

/-- A record's slot freed: no lookup finds the record, and every other lookup finds what it found. -/
theorem JourneyTable.Sound.lookup_freed (x : Card) (y : Day) :
    (jt.freed p).lookup x y = if (x, y) = (c, d) then none else jt.lookup x y := by
  obtain ⟨mem, r, held, card, day⟩ := JourneyTable.findSlot_some found
  rw [JourneyTable.lookup_congr (jt := jt.setSlot p none) fun b => by cases b <;> rfl]
  split
  next same =>
    cases same
    refine JourneyTable.lookup_setSlot_same wf mem (fun q _ ne => ?_) (by simp)
    rintro ⟨z, hz, zcard, zday⟩
    exact ne (JourneyTable.slot_inj wf sound.once hz held (zcard.trans card.symm) (zday.trans day.symm))
  next other =>
    refine JourneyTable.lookup_setSlot_other wf ?_ (not_holding_none x y)
    rw [held, holding_some, card, day]
    rintro ⟨rfl, rfl⟩; exact other rfl

/-- What an unlinking that follows a removal stands on: the bucket before the emptied one. -/
theorem JourneyTable.Sound.freed_before {n : Nat} (ext : p.1 = .ext n) : ∃ a,
    bucketBefore n ((jt.freed p).chain (homeIndex c)) = some a ∧ (jt.freed p).next a = some (.ext n) ∧ a ≠ .ext n := by
  have mem : .ext n ∈ jt.chain (homeIndex c) := ext ▸ (JourneyTable.findSlot_some found).1
  obtain ⟨a, -, before, link⟩ := (sound.follows (homeIndex c)).before_of_mem mem (by simp)
  refine ⟨a, by rwa [JourneyTable.freed_chain wf], by rwa [JourneyTable.freed_next wf], ?_⟩
  rintro rfl
  obtain ⟨pre, post, split⟩ := List.append_of_mem mem
  have follow := sound.follows (homeIndex c)
  rw [split] at follow
  have loop := follow.suffix.2
  rw [link] at loop
  cases post with
  | nil => cases loop
  | cons e post =>
    cases loop.1
    have once := follow.suffix.nodup
    simp at once

end

end

/-! ## What keeps a table sound -/

section
variable {jt u : JourneyTable} {c : Card} {d : Day} {p : SlotRef}

theorem JourneyTable.Sound.lookup_iff (sound : jt.Sound) (wf : jt.wf = true) {r : Record} :
    jt.lookup c d = some r ↔ r ∈ jt.all ∧ r.card = c ∧ r.day = d := by
  constructor
  · intro h
    obtain ⟨p, -, held⟩ := JourneyTable.findSlot_of_lookup h
    exact ⟨(JourneyTable.mem_all wf).2 ⟨p, held⟩, JourneyTable.lookup_key h⟩
  · rintro ⟨mem, rfl, rfl⟩; exact sound.found r mem

/-- At one card and day a record has left, joined or taken another's place: in the table's records and for its lookups alike. Then
every record is still the one that its lookup finds, and no two are of one card and day. -/
theorem JourneyTable.Sound.records_changed (sound : jt.Sound) {old new : Option Record} (held : jt.lookup c d = old)
    (key : ∀ r ∈ new, r.card = c ∧ r.day = d) (perm : (u.all ++ old.toList).Perm (jt.all ++ new.toList))
    (lookup : ∀ x y, u.lookup x y = if (x, y) = (c, d) then new else jt.lookup x y) :
    (∀ r ∈ u.all, u.lookup r.card r.day = some r) ∧ (u.all.map fun r => (r.card, r.day)).Nodup := by
  have allOnce : jt.all.Nodup := List.Nodup.of_map _ sound.once
  have keys := perm.map fun r : Record => (r.card, r.day)
  rw [List.map_append, List.map_append] at keys
  constructor
  · intro r mem
    have mem' := (perm.mem_iff (a := r)).1 (List.mem_append_left _ mem)
    rw [List.mem_append, Option.mem_toList] at mem'
    rw [lookup]
    split
    next here =>
      obtain ⟨rfl, rfl⟩ := Prod.mk.inj here
      refine mem'.elim (fun stood => ?_) id
      have : old = some r := held.symm.trans (sound.found r stood)
      subst this
      have count := List.perm_iff_count.1 perm r
      have one := List.nodup_iff_count_le_one.1 allOnce r
      have here := List.count_pos_iff.2 mem
      simp only [List.count_append, Option.toList_some, List.count_singleton_self] at count
      have joined : r ∈ new.toList := List.count_pos_iff.1 (by omega)
      simpa using joined
    next other =>
      refine mem'.elim (sound.found r) fun joined => absurd ?_ other
      obtain ⟨card, day⟩ := key r joined
      rw [card, day]
  · cases old with
    | none =>
      rw [Option.toList_none, List.map_nil, List.append_nil] at keys
      refine keys.nodup_iff.2 ?_
      cases new with
      | none => simpa using sound.once
      | some r =>
        obtain ⟨card, day⟩ := key r rfl
        refine List.nodup_append.2 ⟨sound.once, by simp, ?_⟩
        rintro a ha b hb rfl
        obtain ⟨x, hx, rfl⟩ := List.mem_map.1 ha
        have same : (x.card, x.day) = (r.card, r.day) := by simpa using hb
        obtain ⟨xcard, xday⟩ := Prod.mk.inj same
        have found := sound.found x hx
        rw [xcard, xday, card, day, held] at found
        cases found
    | some x =>
      obtain ⟨card, day⟩ := JourneyTable.lookup_key held
      cases new with
      | none => exact (List.nodup_append.1 (keys.nodup_iff.2 (by simpa using sound.once))).1
      | some r =>
        obtain ⟨rcard, rday⟩ := key r rfl
        simp only [Option.toList_some, List.map_cons, List.map_nil, card, day, rcard, rday] at keys
        exact ((List.perm_append_right_iff _).1 keys).nodup_iff.2 sound.once

/-- A slot of a chain written, so that an extension bucket still holds a record: pool and chains stay as they are. -/
theorem JourneyTable.Sound.setSlot (sound : jt.Sound) (wf : jt.wf = true) {h : Nat} (mem : p.1 ∈ jt.chain h)
    {v : Option Record} (used : ∀ n, p.1 = .ext n → 0 < ((jt.setSlot p v).bucket p.1).used) {m : Nat}
    (records : (∀ r ∈ (jt.setSlot p v).all, (jt.setSlot p v).lookup r.card r.day = some r) ∧
      ((jt.setSlot p v).all.map fun r => (r.card, r.day)).Nodup) (count : m = (jt.setSlot p v).all.length) :
    JourneyTable.Sound { jt.setSlot p v with inUse := m } := by
  have linked := JourneyTable.linked_setSlot_perm wf p v
  have pool := jt.setSlot_pool p v
  have bucket : ∀ b, ({ jt.setSlot p v with inUse := m } : JourneyTable).bucket b = (jt.setSlot p v).bucket b := by
    intro b; cases b <;> rfl
  have other : ∀ b, b ≠ p.1 → (jt.setSlot p v).bucket b = jt.bucket b := fun b hb =>
    JourneyTable.bucket_setBucket_other wf _ hb
  refine ⟨?_, fun n free => ?_, fun n hn => ?_, fun k => ?_, fun r hr => ?_, records.2, count⟩
  · change ((jt.setSlot p v).pool ++ (jt.setSlot p v).linked).Perm _
    rw [pool]
    exact (linked.append_left _).trans sound.extensions
  · have free : n ∈ jt.pool := pool ▸ free
    rw [bucket, other _ fun same => sound.not_linked free (sound.linked_of_mem_chain wf (same ▸ mem))]
    exact sound.free n free
  · rw [bucket]
    by_cases same : .ext n = p.1
    · rw [same]; exact used n same.symm
    · rw [other _ same]; exact sound.used n ((linked.mem_iff).1 hn)
  · refine JourneyTable.short_of_follows ?_
    have next : ∀ b, ({ jt.setSlot p v with inUse := m } : JourneyTable).next b = jt.next b := by
      intro b; simp only [JourneyTable.next, bucket, JourneyTable.ext_setSlot wf]
    rw [JourneyTable.chain_congr (jt := jt) fun b => by rw [bucket, JourneyTable.ext_setSlot wf]]
    exact (sound.follows k).congr fun b _ => next b
  · rw [JourneyTable.lookup_congr bucket]; exact records.1 r hr

/-- A slot that holds a record makes its bucket a used one. -/
theorem JourneyTable.used_setSlot_pos (wf : jt.wf = true) (p : SlotRef) (r : Record) :
    0 < ((jt.setSlot p (some r)).bucket p.1).used := by
  rw [Bucket.used_eq_length, List.length_pos_iff_exists_mem]
  refine ⟨r, Bucket.mem_records.2 ⟨p.2, ?_⟩⟩
  have held := JourneyTable.slot_setSlot wf p p (some r)
  rwa [if_pos rfl] at held

/-! ### A record written -/

theorem JourneyTable.all_write_perm (wf : jt.wf = true) {r old : Record} (held : jt.lookup r.card r.day = some old) :
    ((jt.write r).all ++ [old]).Perm (jt.all ++ [r]) := by
  obtain ⟨p, found, slot⟩ := JourneyTable.findSlot_of_lookup held
  have perm := JourneyTable.all_setSlot_perm wf p (some r)
  rw [slot] at perm
  rw [JourneyTable.write_of_findSlot found]
  exact perm

theorem JourneyTable.lookup_write (wf : jt.wf = true) {r old : Record} (held : jt.lookup r.card r.day = some old)
    (x : Card) (y : Day) : (jt.write r).lookup x y = if (x, y) = (r.card, r.day) then some r else jt.lookup x y := by
  split
  next same => cases same; exact JourneyTable.lookup_write_same wf held
  next other => exact JourneyTable.lookup_write_other wf held other

theorem JourneyTable.Sound.write (sound : jt.Sound) (wf : jt.wf = true) (r : Record) : (jt.write r).Sound := by
  cases held : jt.lookup r.card r.day with
  | none => rwa [JourneyTable.write_of_absent held]
  | some old =>
    have perm := JourneyTable.all_write_perm wf held
    have records := sound.records_changed (new := some r) held (by simp) perm (JourneyTable.lookup_write wf held)
    have length := perm.length_eq
    simp only [List.length_append, List.length_singleton, Nat.add_right_cancel_iff] at length
    obtain ⟨p, found, -⟩ := JourneyTable.findSlot_of_lookup held
    rw [JourneyTable.write_of_findSlot found] at records length ⊢
    have same : { jt.setSlot p (some r) with inUse := jt.inUse } = jt.setSlot p (some r) := by
      rw [← (jt.setBucket_inUse p.1 _ : (jt.setSlot p (some r)).inUse = jt.inUse)]
      rfl
    rw [← same]
    exact sound.setSlot wf (JourneyTable.findSlot_some found).1 (fun _ _ => JourneyTable.used_setSlot_pos wf p r) records
      (sound.counted.trans length.symm)

/-! ### A record put in (R60, R61) -/

/-- A free slot filled, and one record more in use. -/
def JourneyTable.filled (jt : JourneyTable) (p : SlotRef) (r : Record) : JourneyTable :=
  { jt.setSlot p (some r) with inUse := jt.inUse + 1 }

theorem JourneyTable.insert_of_free (free : jt.firstFree (homeIndex c) = some p) :
    jt.insert c d = .inserted (jt.filled p (Record.fresh c d)) (Record.fresh c d) := by
  simp only [JourneyTable.insert, free]; rfl

section
variable (full : jt.firstFree (homeIndex c) = none)
include full

theorem JourneyTable.insert_of_limit (limit : 4 ≤ (jt.chain (homeIndex c)).length) : jt.insert c d = .chainLimit := by
  simp only [JourneyTable.insert, full, if_pos limit]

theorem JourneyTable.insert_of_empty (room : (jt.chain (homeIndex c)).length < 4) (pool : jt.pool = []) :
    jt.insert c d = .poolEmpty := by
  simp only [JourneyTable.insert, full, if_neg (Nat.not_le_of_lt room), pool]

theorem JourneyTable.insert_of_pool (room : (jt.chain (homeIndex c)).length < 4) {n : Nat} {rest : List Nat}
    (pool : jt.pool = n :: rest) : jt.insert c d =
      .inserted (jt.linkExtension (homeIndex c) n rest (Record.fresh c d)) (Record.fresh c d) := by
  simp only [JourneyTable.insert, full, if_neg (Nat.not_le_of_lt room), pool]

end

theorem JourneyTable.insert_ne_found (r : Record) : jt.insert c d ≠ .found r := by
  cases free : jt.firstFree (homeIndex c) with
  | some p => rw [JourneyTable.insert_of_free free]; nofun
  | none =>
    rcases Nat.lt_or_ge (jt.chain (homeIndex c)).length 4 with room | limit
    · cases pool : jt.pool with
      | nil => rw [JourneyTable.insert_of_empty free room pool]; nofun
      | cons n rest => rw [JourneyTable.insert_of_pool free room pool]; nofun
    · rw [JourneyTable.insert_of_limit free limit]; nofun

/-- All that an insertion can put in the table: a record in the first free slot, or in a new extension bucket. -/
theorem JourneyTable.insert_cases {r : Record} (h : jt.insert c d = .inserted u r) : r = Record.fresh c d ∧
    ((∃ p, p.1 ∈ jt.chain (homeIndex c) ∧ jt.slot p = none ∧ u = jt.filled p r) ∨
      ∃ n rest, jt.pool = n :: rest ∧ (jt.chain (homeIndex c)).length < 4 ∧
        u = jt.linkExtension (homeIndex c) n rest r) := by
  cases free : jt.firstFree (homeIndex c) with
  | some p =>
    rw [JourneyTable.insert_of_free free] at h
    cases h
    exact ⟨rfl, .inl ⟨p, JourneyTable.mem_slots.1 (List.mem_of_find?_eq_some free), by simpa using List.find?_some free, rfl⟩⟩
  | none =>
    rcases Nat.lt_or_ge (jt.chain (homeIndex c)).length 4 with room | limit
    · cases pool : jt.pool with
      | nil => rw [JourneyTable.insert_of_empty free room pool] at h; cases h
      | cons n rest =>
        rw [JourneyTable.insert_of_pool free room pool] at h
        cases h
        exact ⟨rfl, .inr ⟨n, rest, rfl, room, rfl⟩⟩
    · rw [JourneyTable.insert_of_limit free limit] at h; cases h

theorem JourneyTable.lookup_filled (wf : jt.wf = true) {r : Record} (mem : p.1 ∈ jt.chain (homeIndex r.card))
    (free : jt.slot p = none) (absent : jt.lookup r.card r.day = none) (x : Card) (y : Day) :
    (jt.filled p r).lookup x y = if (x, y) = (r.card, r.day) then some r else jt.lookup x y := by
  rw [JourneyTable.lookup_congr (jt := jt.setSlot p (some r)) fun b => by cases b <;> rfl]
  split
  next same =>
    cases same
    exact JourneyTable.lookup_setSlot_same wf mem (fun q hq _ => JourneyTable.lookup_eq_none.1 absent q hq) (by simp)
  next other =>
    refine JourneyTable.lookup_setSlot_other wf (free ▸ not_holding_none x y) ?_
    rw [holding_some]
    rintro ⟨rfl, rfl⟩; exact other rfl

theorem JourneyTable.all_filled_perm (wf : jt.wf = true) {r : Record} (free : jt.slot p = none) :
    (jt.filled p r).all.Perm (jt.all ++ [r]) := by
  have perm := JourneyTable.all_setSlot_perm wf p (some r)
  rw [free, Option.toList_none, List.append_nil] at perm
  exact perm

theorem JourneyTable.Sound.filled (sound : jt.Sound) (wf : jt.wf = true) {r : Record}
    (mem : p.1 ∈ jt.chain (homeIndex r.card)) (free : jt.slot p = none) (absent : jt.lookup r.card r.day = none) :
    (jt.filled p r).Sound := by
  have perm := JourneyTable.all_filled_perm (r := r) wf free
  have records := sound.records_changed (u := jt.filled p r) (new := some r) absent (by simp) (by simpa using perm)
    (JourneyTable.lookup_filled wf mem free absent)
  refine sound.setSlot wf mem (fun _ _ => JourneyTable.used_setSlot_pos wf p r) ⟨fun x hx => ?_, records.2⟩ ?_
  · rw [← JourneyTable.lookup_congr (u := jt.filled p r) fun b => by cases b <;> rfl]
    exact records.1 x hx
  · have length := perm.length_eq
    rw [List.length_append, ← sound.counted] at length
    exact length.symm

section
variable {h n : Nat} {rest : List Nat} {r : Record} (wf : jt.wf = true) (sound : jt.Sound) (pool : jt.pool = n :: rest)
include wf sound pool

theorem JourneyTable.Sound.linked_linkExtension_perm : ((jt.linkExtension h n rest r).linked).Perm (n :: jt.linked) := by
  let t := jt.setBucket (jt.lastBucket h) { jt.bucket (jt.lastBucket h) with ext := some n }
  have twf : t.wf = true := JourneyTable.setBucket_wf wf _ _
  have first := jt.linked_setBucket_perm wf (jt.lastBucket h) { jt.bucket (jt.lastBucket h) with ext := some n }
  have second := t.linked_setBucket_perm twf (.ext n) (Bucket.single r)
  rw [sound.short h, Option.toList_none, List.append_nil] at first
  rw [JourneyTable.bucket_setBucket_other wf _ (Ne.symm (sound.pool_head_ne_last wf pool h)),
    sound.free n (pool ▸ List.mem_cons_self ..)] at second
  have same : (jt.linkExtension h n rest r).linked.Perm t.linked := (List.perm_append_right_iff []).1 second
  exact same.trans (first.trans List.perm_append_comm)

theorem JourneyTable.Sound.all_linkExtension_perm : ((jt.linkExtension h n rest r).all).Perm (jt.all ++ [r]) := by
  let t := jt.setBucket (jt.lastBucket h) { jt.bucket (jt.lastBucket h) with ext := some n }
  have twf : t.wf = true := JourneyTable.setBucket_wf wf _ _
  have first := jt.collect_setBucket_perm wf Bucket.records_empty (jt.lastBucket h)
    { jt.bucket (jt.lastBucket h) with ext := some n }
  have second := t.collect_setBucket_perm twf Bucket.records_empty (.ext n) (Bucket.single r)
  rw [JourneyTable.bucket_setBucket_other wf _ (Ne.symm (sound.pool_head_ne_last wf pool h)),
    sound.free n (pool ▸ List.mem_cons_self ..), Bucket.records_empty, List.append_nil, Bucket.single_records] at second
  have same : t.all.Perm jt.all := (List.perm_append_right_iff _).1 first
  have read : (jt.linkExtension h n rest r).all = (t.setBucket (.ext n) (Bucket.single r)).collect Bucket.records := rfl
  rw [read]
  exact second.trans (same.append_right _)

theorem JourneyTable.Sound.linkExtension (place : h = homeIndex r.card) (room : (jt.chain h).length < 4)
    (absent : jt.lookup r.card r.day = none) : (jt.linkExtension h n rest r).Sound := by
  have linked := sound.linked_linkExtension_perm (h := h) (r := r) wf pool
  have perm := sound.all_linkExtension_perm (h := h) (r := r) wf pool
  have records := sound.records_changed (new := some r) absent (by simp) (by simpa using perm)
    (sound.lookup_linkExtension wf pool place room absent)
  have free : ∀ m ∈ rest, m ∈ jt.pool ∧ m ≠ n := by
    intro m hm
    have once := (List.nodup_append.1 (sound.extensions.nodup_iff.2 List.nodup_range)).1
    rw [pool] at once
    refine ⟨pool ▸ List.mem_cons_of_mem _ hm, ?_⟩
    rintro rfl; exact (List.nodup_cons.1 once).1 hm
  refine ⟨?_, fun m hm => ?_, fun m hm => ?_, fun k => ?_, records.1, records.2, ?_⟩
  · have all := sound.extensions
    rw [pool] at all
    exact (linked.append_left rest).trans (List.perm_middle.trans all)
  · obtain ⟨hm, ne⟩ := free m hm
    have apart : BucketRef.ext m ≠ jt.lastBucket h := fun same =>
      sound.not_linked hm (sound.linked_of_mem_chain wf (same ▸ jt.lastBucket_mem h))
    rw [JourneyTable.bucket_linkExtension wf, if_neg (by simpa using ne), if_neg apart]
    exact sound.free m hm
  · rw [Bucket.used_eq_length]
    by_cases new : m = n
    · subst new
      rw [JourneyTable.bucket_linkExtension wf, if_pos rfl, Bucket.single_records]
      exact Nat.one_pos
    · rw [JourneyTable.bucket_records_linkExtension wf (by simpa using new), ← Bucket.used_eq_length]
      exact sound.used m ((List.mem_cons.1 ((linked.mem_iff).1 hm)).resolve_left new)
  · refine JourneyTable.short_of_follows ?_
    by_cases here : k = h
    · subst here
      rw [sound.chain_linkExtension_same wf pool room]
      exact sound.follows_linkExtension_same wf pool
    · rw [sound.chain_linkExtension_other wf pool here]
      exact sound.follows_linkExtension_other wf pool here
  · have length := perm.length_eq
    rw [List.length_append, ← sound.counted] at length
    rw [length]
    exact congrArg (· + 1) ((JourneyTable.setBucket_inUse _ _ _).trans (JourneyTable.setBucket_inUse _ _ _))

end

/-- An insertion of an absent record keeps the table sound, and the record is the one thing that it adds. -/
theorem JourneyTable.Sound.insert (sound : jt.Sound) (wf : jt.wf = true) {r : Record} (absent : jt.lookup c d = none)
    (h : jt.insert c d = .inserted u r) : u.Sound ∧ u.all.Perm (jt.all ++ [r]) ∧
      ∀ x y, u.lookup x y = if (x, y) = (c, d) then some r else jt.lookup x y := by
  obtain ⟨rfl, ⟨p, mem, free, rfl⟩ | ⟨n, rest, pool, room, rfl⟩⟩ := JourneyTable.insert_cases h
  · exact ⟨sound.filled wf mem free absent, JourneyTable.all_filled_perm wf free, JourneyTable.lookup_filled wf mem free absent⟩
  · exact ⟨sound.linkExtension wf pool rfl room absent, sound.all_linkExtension_perm wf pool,
      sound.lookup_linkExtension wf pool rfl room absent⟩

/-! ### A record removed (R62) -/

section
variable (wf : jt.wf = true) (sound : jt.Sound) (found : jt.findSlot c d = some p)
include wf sound found

/-- An extension bucket holds one record or more. -/
theorem JourneyTable.Sound.used_cases : ((∃ n, p.1 = .home n) ∨ 2 ≤ (jt.bucket p.1).used) ∨
    ∃ n, p.1 = .ext n ∧ (jt.bucket p.1).used = 1 := by
  cases here : p.1 with
  | home n => exact .inl (.inl ⟨n, rfl⟩)
  | ext n =>
    have used := sound.used n (sound.linked_of_mem_chain wf (here ▸ (JourneyTable.findSlot_some found).1))
    by_cases more : 2 ≤ (jt.bucket (.ext n)).used
    · exact .inl (.inr more)
    · exact .inr ⟨n, rfl, by omega⟩

theorem JourneyTable.Sound.lookup_unlinked {n : Nat} (ext : p.1 = .ext n)
    (empty : ((jt.freed p).bucket (.ext n)).records = []) (x : Card) (y : Day) :
    ((jt.freed p).unlink (homeIndex c) n).lookup x y = (jt.freed p).lookup x y := by
  obtain ⟨a, before, link, apart⟩ := sound.freed_before wf found ext
  have once := (JourneyTable.freed_linked_perm wf p).nodup_iff.2 sound.linked_nodup
  rw [JourneyTable.lookup_eq_find, JourneyTable.lookup_eq_find,
    JourneyTable.records_unlink (JourneyTable.freed_wf wf) before once link apart empty (sound.freed_follows wf p _)]

theorem JourneyTable.Sound.lookup_remove (x : Card) (y : Day) :
    (jt.remove c d).lookup x y = if (x, y) = (c, d) then none else jt.lookup x y := by
  rw [← sound.lookup_freed wf found]
  rcases sound.used_cases wf found with stays | ⟨n, ext, single⟩
  · rw [JourneyTable.remove_keeps_bucket wf found stays]
  · obtain ⟨removed, empty⟩ := JourneyTable.remove_unlinks wf found ext single
    rw [removed, sound.lookup_unlinked wf found ext empty]

theorem JourneyTable.Sound.all_remove_perm {r : Record} (held : jt.slot p = some r) :
    ((jt.remove c d).all ++ [r]).Perm jt.all := by
  have freed := JourneyTable.freed_all_perm wf held
  rcases sound.used_cases wf found with stays | ⟨n, ext, single⟩
  · rwa [JourneyTable.remove_keeps_bucket wf found stays]
  · obtain ⟨removed, empty⟩ := JourneyTable.remove_unlinks wf found ext single
    obtain ⟨a, before, -, apart⟩ := sound.freed_before wf found ext
    rw [removed]
    exact ((JourneyTable.all_unlink_perm (JourneyTable.freed_wf wf) before apart empty).append_right _).trans freed

theorem JourneyTable.Sound.inUse_remove : (jt.remove c d).inUse = jt.inUse - 1 := by
  rcases sound.used_cases wf found with stays | ⟨n, ext, single⟩
  · rw [JourneyTable.remove_keeps_bucket wf found stays]; rfl
  · obtain ⟨a, before, -, -⟩ := sound.freed_before wf found ext
    rw [(JourneyTable.remove_unlinks wf found ext single).1, JourneyTable.unlink_inUse before]; rfl

/-- The extension bucket that a removal leaves without a record goes to the tail of the pool (R62). -/
theorem JourneyTable.Sound.unlinked {n : Nat} (ext : p.1 = .ext n)
    (records : (∀ r ∈ ((jt.freed p).unlink (homeIndex c) n).all,
        ((jt.freed p).unlink (homeIndex c) n).lookup r.card r.day = some r) ∧
      (((jt.freed p).unlink (homeIndex c) n).all.map fun r => (r.card, r.day)).Nodup)
    (counted : ((jt.freed p).unlink (homeIndex c) n).inUse = ((jt.freed p).unlink (homeIndex c) n).all.length) :
    ((jt.freed p).unlink (homeIndex c) n).Sound := by
  obtain ⟨a, before, link, apart⟩ := sound.freed_before wf found ext
  have twf := JourneyTable.freed_wf (p := p) wf
  have freed := JourneyTable.freed_linked_perm wf p
  have once := freed.nodup_iff.2 sound.linked_nodup
  have linked := (JourneyTable.linked_unlink_perm twf before link apart).trans freed
  have bucket := JourneyTable.bucket_unlink twf before
  have out : n ∉ ((jt.freed p).unlink (homeIndex c) n).linked := fun again =>
    (List.nodup_append.1 (linked.nodup_iff.2 sound.linked_nodup)).2.2 n again n (by simp) rfl
  have pool := (JourneyTable.unlink_pool before).trans (congrArg (· ++ [n]) (jt.freed_pool p))
  refine ⟨?_, fun m hm => ?_, fun m hm => ?_, fun k => ?_, records.1, records.2, counted⟩
  · rw [pool, List.append_assoc]
    exact ((List.perm_append_comm.trans linked).append_left _).trans sound.extensions
  · rw [bucket]
    split
    next => rfl
    next other =>
      rw [pool, List.mem_append, List.mem_singleton] at hm
      have free := hm.resolve_right fun same => other (congrArg _ same)
      have named : (jt.bucket a).ext = some n := by
        rw [← JourneyTable.next_eq_some, ← JourneyTable.freed_next wf p]; exact link
      have kept : .ext m ≠ a := by
        rintro rfl; rw [sound.free m free] at named; cases named
      rw [if_neg kept, JourneyTable.freed_bucket wf, if_neg (ext ▸ other)]
      exact sound.free m free
  · have other : BucketRef.ext m ≠ .ext n := by rintro ⟨⟩; exact out hm
    have still : (jt.freed p).bucket (.ext m) = jt.bucket (.ext m) := by
      rw [JourneyTable.freed_bucket wf, if_neg (ext ▸ other)]
    have slots : (((jt.freed p).unlink (homeIndex c) n).bucket (.ext m)).used = (jt.bucket (.ext m)).used := by
      rw [bucket, if_neg other, ← still]
      split <;> rfl
    rw [slots]
    exact sound.used m ((linked.mem_iff).1 (List.mem_append_left _ hm))
  · refine JourneyTable.short_of_follows ?_
    have follow := sound.freed_follows wf p k
    rw [JourneyTable.chain_unlink twf before once link apart follow]
    have result := JourneyTable.Follows.unlink twf before once link apart follow
    rwa [JourneyTable.skip, if_neg (by simp)] at result

theorem JourneyTable.Sound.remove_found : (jt.remove c d).Sound := by
  obtain ⟨mem, r, held, card, day⟩ := JourneyTable.findSlot_some found
  have here : jt.lookup c d = some r := (JourneyTable.lookup_of_findSlot found).trans held
  have perm := sound.all_remove_perm wf found held
  have records := sound.records_changed (new := none) here (by simp) (by simpa using perm) (sound.lookup_remove wf found)
  have counted : (jt.remove c d).inUse = (jt.remove c d).all.length := by
    have length := perm.length_eq
    rw [List.length_append, ← sound.counted] at length
    rw [sound.inUse_remove wf found, ← length]
    exact Nat.add_sub_cancel ..
  rcases sound.used_cases wf found with stays | ⟨n, ext, single⟩
  · rw [JourneyTable.remove_keeps_bucket wf found stays] at records counted ⊢
    refine sound.setSlot wf mem (fun n ext => ?_) ⟨fun x hx => ?_, records.2⟩ counted
    · have used := JourneyTable.freed_used wf held
      have more := stays.resolve_left (by rw [ext]; rintro ⟨m, h⟩; cases h)
      have read : ((jt.freed p).bucket p.1) = (jt.setSlot p none).bucket p.1 := by
        rw [ext]; rfl
      rw [← read]
      omega
    · rw [← JourneyTable.lookup_congr (u := jt.freed p) fun b => by cases b <;> rfl]
      exact records.1 x hx
  · obtain ⟨removed, empty⟩ := JourneyTable.remove_unlinks wf found ext single
    rw [removed] at records counted ⊢
    exact sound.unlinked wf found ext records counted

end

theorem JourneyTable.Sound.remove (sound : jt.Sound) (wf : jt.wf = true) (c : Card) (d : Day) : (jt.remove c d).Sound := by
  cases h : jt.lookup c d with
  | none => rwa [JourneyTable.remove_of_absent h]
  | some r =>
    obtain ⟨p, found, -⟩ := JourneyTable.findSlot_of_lookup h
    exact sound.remove_found wf found

end

/-! ## Reading back (R59 to R62, R73) -/

section
variable {jt : JourneyTable} {c : Card} {d : Day}

theorem JourneyTable.findOrInsert_of_present {r : Record} (h : jt.lookup c d = some r) : jt.findOrInsert c d = .found r := by
  simp only [JourneyTable.findOrInsert, h]

theorem JourneyTable.findOrInsert_of_absent (h : jt.lookup c d = none) : jt.findOrInsert c d = jt.insert c d := by
  simp only [JourneyTable.findOrInsert, h]

theorem JourneyTable.firstFree_eq_none {h : Nat} (full : ∀ p ∈ jt.slots h, (jt.slot p).isSome = true) :
    jt.firstFree h = none := by
  refine List.find?_eq_none.2 fun p hp => ?_
  have := full p hp
  cases held : jt.slot p <;> simp_all

theorem JourneyTable.firstFree_eq_some {h : Nat} {before after : List SlotRef} {p : SlotRef}
    (split : jt.slots h = before ++ p :: after) (full : ∀ q ∈ before, (jt.slot q).isSome = true) (free : jt.slot p = none) :
    jt.firstFree h = some p := by
  refine List.find?_eq_some_iff_append.2 ⟨by simp [free], before, after, split, fun q hq => ?_⟩
  have := full q hq
  cases held : jt.slot q <;> simp_all

/-- A find-or-insert that puts a record into the first free slot of its chain (R60). -/
theorem JourneyTable.findOrInsert_free (wf : jt.wf = true) (absent : jt.lookup c d = none) {before after : List SlotRef}
    {p : SlotRef} (split : jt.slots (homeIndex c) = before ++ p :: after)
    (full : ∀ q ∈ before, (jt.slot q).isSome = true) (free : jt.slot p = none) :
    ∃ u, jt.findOrInsert c d = .inserted u (Record.fresh c d) ∧ u.lookup c d = some (Record.fresh c d) ∧
      (∀ (x : Card) (y : Day), (x, y) ≠ (c, d) → u.lookup x y = jt.lookup x y) ∧ u.slot p = some (Record.fresh c d) ∧
      u.chain (homeIndex c) = jt.chain (homeIndex c) ∧ u.pool = jt.pool ∧ u.inUse = jt.inUse + 1 := by
  have mem : p.1 ∈ jt.chain (homeIndex c) := JourneyTable.mem_slots.1 (by rw [split]; simp)
  have lookup := JourneyTable.lookup_filled (r := Record.fresh c d) wf mem free absent
  have held := JourneyTable.slot_setSlot wf p p (some (Record.fresh c d))
  rw [if_pos rfl] at held
  refine ⟨jt.filled p (Record.fresh c d), ?_, ?_, fun x y other => ?_, ?_, ?_, jt.setSlot_pool p _, rfl⟩
  · rw [JourneyTable.findOrInsert_of_absent absent,
      JourneyTable.insert_of_free (JourneyTable.firstFree_eq_some split full free)]
  · exact (lookup c d).trans (if_pos rfl)
  · exact (lookup x y).trans (if_neg other)
  · rw [← held]; obtain ⟨b | b, i⟩ := p <;> rfl
  · rw [JourneyTable.chain_congr (jt := jt.setSlot p (some (Record.fresh c d))) fun b => by cases b <;> rfl,
      JourneyTable.chain_setSlot wf]

/-- A find-or-insert that links the pool's head bucket behind a full chain (R60). -/
theorem JourneyTable.Sound.findOrInsert_link (sound : jt.Sound) (wf : jt.wf = true) (absent : jt.lookup c d = none) {n : Nat}
    {rest : List Nat} (full : ∀ q ∈ jt.slots (homeIndex c), (jt.slot q).isSome = true)
    (room : (jt.chain (homeIndex c)).length < 4) (pool : jt.pool = n :: rest) :
    ∃ u, jt.findOrInsert c d = .inserted u (Record.fresh c d) ∧ u.lookup c d = some (Record.fresh c d) ∧
      (∀ (x : Card) (y : Day), (x, y) ≠ (c, d) → u.lookup x y = jt.lookup x y) ∧
      u.slot (.ext n, 0) = some (Record.fresh c d) ∧ u.chain (homeIndex c) = jt.chain (homeIndex c) ++ [.ext n] ∧
      u.pool = rest ∧ u.inUse = jt.inUse + 1 := by
  have lookup := sound.lookup_linkExtension (r := Record.fresh c d) wf pool rfl room absent
  refine ⟨jt.linkExtension (homeIndex c) n rest (Record.fresh c d), ?_, ?_, fun x y other => ?_, ?_,
    sound.chain_linkExtension_same wf pool room, rfl, ?_⟩
  · rw [JourneyTable.findOrInsert_of_absent absent,
      JourneyTable.insert_of_pool (JourneyTable.firstFree_eq_none full) room pool]
  · exact (lookup c d).trans (if_pos rfl)
  · exact (lookup x y).trans (if_neg other)
  · rw [JourneyTable.slot, JourneyTable.bucket_linkExtension wf, if_pos rfl]
    rfl
  · exact congrArg (· + 1) ((JourneyTable.setBucket_inUse _ _ _).trans (JourneyTable.setBucket_inUse _ _ _))

/-- A removal that leaves the record's bucket in its chain (R62). -/
theorem JourneyTable.remove_slot (wf : jt.wf = true) {b : BucketRef} {i : Fin 4} (found : jt.findSlot c d = some (b, i))
    (stays : (∃ n, b = .home n) ∨ 2 ≤ (jt.bucket b).used) : (jt.remove c d).slot (b, i) = none ∧
      (jt.remove c d).chain (homeIndex c) = jt.chain (homeIndex c) ∧ (jt.remove c d).pool = jt.pool := by
  rw [JourneyTable.remove_keeps_bucket wf found stays]
  exact ⟨by rw [JourneyTable.freed_slot wf, if_pos rfl], JourneyTable.freed_chain wf _ _, jt.freed_pool _⟩

/-- A removal that takes the last record of an extension bucket (R62). -/
theorem JourneyTable.Sound.remove_bucket (sound : jt.Sound) (wf : jt.wf = true) {n : Nat} {i : Fin 4}
    (found : jt.findSlot c d = some (.ext n, i)) (single : (jt.bucket (.ext n)).used = 1) :
    (jt.remove c d).bucket (.ext n) = Bucket.empty ∧
      (jt.remove c d).chain (homeIndex c) = (jt.chain (homeIndex c)).filter (fun x => x != .ext n) ∧
      (jt.remove c d).pool = jt.pool ++ [n] := by
  obtain ⟨a, before, link, apart⟩ := sound.freed_before wf found rfl
  have twf := JourneyTable.freed_wf (p := (.ext n, i)) wf
  have once := (JourneyTable.freed_linked_perm wf (.ext n, i)).nodup_iff.2 sound.linked_nodup
  rw [(JourneyTable.remove_unlinks wf found rfl single).1]
  refine ⟨?_, ?_, ?_⟩
  · rw [JourneyTable.bucket_unlink twf before, if_pos rfl]
  · rw [JourneyTable.chain_unlink twf before once link apart (sound.freed_follows wf _ _), JourneyTable.freed_chain wf]
  · rw [JourneyTable.unlink_pool before, JourneyTable.freed_pool]

end

/-- Settles O12: a write by the slot it finds, an insertion by the first free slot or the pool's head, a removal by whether the
bucket keeps a record. -/
theorem recordReadsBack : Obligations.RecordReadsBack := by
  refine ⟨fun jt old v wf held => ?_, fun jt c d => ?_, fun jt c d => ?_⟩
  · exact ⟨JourneyTable.lookup_write_same wf held, fun c d other => JourneyTable.lookup_write_other wf held other⟩
  · refine ⟨fun r present => JourneyTable.findOrInsert_of_present present, fun absent full limit => ?_,
      fun absent full room pool => ?_, fun wf sound absent => ⟨fun before after p split full free => ?_,
        fun n rest full room pool => ?_⟩⟩
    · rw [JourneyTable.findOrInsert_of_absent absent]
      exact JourneyTable.insert_of_limit (JourneyTable.firstFree_eq_none full) limit.ge
    · rw [JourneyTable.findOrInsert_of_absent absent]
      exact JourneyTable.insert_of_empty (JourneyTable.firstFree_eq_none full) room pool
    · exact JourneyTable.findOrInsert_free wf absent split full free
    · exact sound.findOrInsert_link wf absent full room pool
  · refine ⟨JourneyTable.remove_of_absent, fun wf sound b i found => ?_⟩
    have lookup := sound.lookup_remove wf found
    refine ⟨(lookup c d).trans (if_pos rfl), fun x y other => (lookup x y).trans (if_neg other),
      sound.inUse_remove wf found, JourneyTable.remove_slot wf found, ?_⟩
    rintro n rfl single
    exact sound.remove_bucket wf found single

end Sys2Proof.Machine
end

section
/-! PROOFS. What the laws of the journey table read of the state, said once for every command: the records written, put in, closed and
removed, the expiry entries that go with them, and the roll (R66 to R99, R163 to R173). -/

namespace Sys2Proof.Machine

open Sys2Proof

/-! ## The ledger -/

/-- Where a roll stands: its state, its old day, its closing-record count (R163). -/
def RollSweep.stage (r : RollSweep) : LineState × Option Day × Nat := (r.state, r.oldDay, r.closingCount)

/-- The record part that an expiry entry is for (R93). -/
def ExpiryEntry.name (e : ExpiryEntry) : Card × Day × ExpiryKind := (e.card, e.day, e.kind)

/-- The record parts that the expiry queue has entries for, in queue order. -/
def State.names (s : State) : List (Card × Day × ExpiryKind) := s.expiry.map ExpiryEntry.name

theorem State.names_congr {s u : State} (h : u.expiry = s.expiry) : u.names = s.names :=
  congrArg (List.map ExpiryEntry.name) h

/-- What the laws of the journey table read of the state. -/
structure Ledger where
  jt : JourneyTable
  names : List (Card × Day × ExpiryKind)
  roll : LineState
  oldDay : Option Day
  closing : Nat
  day : Day

/-- The ledger of a state. -/
def State.ledger (s : State) : Ledger :=
  ⟨s.jt, s.names, s.roll.state, s.roll.oldDay, s.roll.closingCount, s.clock.day⟩

/-- The ledger reads table, queue, stage and day alone. -/
theorem State.ledger_congr {s u : State} (jt : u.jt = s.jt) (names : u.names = s.names) (stage : u.roll.stage = s.roll.stage)
    (day : u.clock.day = s.clock.day) : u.ledger = s.ledger := by
  simp only [RollSweep.stage, Prod.mk.injEq] at stage
  obtain ⟨state, oldDay, closing⟩ := stage
  simp only [State.ledger, jt, names, state, oldDay, closing, day]

theorem State.ledger_eq {s u : State} (jt : u.jt = s.jt) (expiry : u.expiry = s.expiry)
    (stage : u.roll.stage = s.roll.stage) (clock : u.clock = s.clock) : u.ledger = s.ledger :=
  State.ledger_congr jt (State.names_congr expiry) stage (congrArg _ clock)

/-! ### The operations that touch the sweep's pause alone -/

@[simp] theorem State.offerSweep_stage (s : State) : s.offerSweep.roll.stage = s.roll.stage := rfl

@[simp] theorem State.offerSweepIfFell_stage (n : Nat) (s : State) : (s.offerSweepIfFell n).roll.stage = s.roll.stage := by
  obtain ⟨b, h⟩ := s.offerSweepIfFell_roll n
  rw [h]; rfl

@[simp] theorem State.release_stage (p : PortId) (st : PortState) (s : State) :
    (s.release p st).roll.stage = s.roll.stage := by
  rw [State.release_roll]; rfl

@[simp] theorem State.completeDetach_stage (p : PortId) (s : State) : (s.completeDetach p).roll.stage = s.roll.stage := by
  rw [State.completeDetach_roll]; rfl

@[simp] theorem State.completeDetachIfDone_stage (p : PortId) (s : State) :
    (s.completeDetachIfDone p).roll.stage = s.roll.stage := by
  unfold State.completeDetachIfDone
  split
  · exact s.completeDetach_stage p
  · rfl

@[simp] theorem State.endTap_stage (p : PortId) (n : BitVec 16) (s : State) : (s.endTap p n).roll.stage = s.roll.stage := by
  unfold State.endTap
  dsimp only
  split
  · split
    · rfl
    · exact State.completeDetachIfDone_stage p _
    · rfl
  · exact State.offerSweepIfFell_stage _ _

@[simp] theorem State.setOptions_stage (p : PortId) (auto : Bool) (mask : AttnSet) (c : AttnClass) (s : State) :
    (s.setOptions p auto mask c).roll.stage = s.roll.stage := by
  unfold State.setOptions
  dsimp only
  split
  · exact State.release_stage p _ _
  · rfl

@[simp] theorem State.advanceRun_stage (p : PortId) (s : State) : (s.advanceRun p).roll.stage = s.roll.stage := by
  unfold State.advanceRun
  dsimp only
  split
  · split <;> simp
  · rfl

@[simp] theorem State.freeSlot_stage (c : SourceClass) (s : State) : (s.freeSlot c).roll.stage = s.roll.stage := by
  cases c <;> rfl

@[simp] theorem State.endWaiting_stage (w : Option WaitingTap) (s : State) :
    (s.endWaiting w).roll.stage = s.roll.stage := by
  cases w with
  | none => rfl
  | some w => exact s.endTap_stage _ _

@[simp] theorem State.finishPricing_stage (p : Pricing) (s : State) : (s.finishPricing p).roll.stage = s.roll.stage := by
  simp only [State.finishPricing, State.freeSlot_stage, State.endTicket_roll, State.endWaiting_stage]

@[simp] theorem State.placeAndFinish_stage (p : Pricing) (s : State) :
    (s.placeAndFinish p).roll.stage = s.roll.stage := by
  unfold State.placeAndFinish
  split
  · rw [State.finishPricing_stage, State.placeOutcome_roll]
  · rfl

@[simp] theorem State.noticeTap_stage (t : Tap) (r : NoticeReason) (a : Answer) (s : State) :
    (s.noticeTap t r a).roll.stage = s.roll.stage := by
  unfold State.noticeTap
  dsimp only
  split <;> simp

@[simp] theorem State.dropDuplicate_stage (t : Tap) (s : State) : (s.dropDuplicate t).roll.stage = s.roll.stage := by
  simp [State.dropDuplicate]

@[simp] theorem State.makeRollDone_stage (b : Bool) (s : State) : (s.makeRollDone b).roll.stage = s.roll.stage := by
  unfold State.makeRollDone
  dsimp only
  split <;> rfl

@[simp] theorem State.reportIfReady_stage (r : Record) (s : State) : (s.reportIfReady r).roll.stage = s.roll.stage := by
  rw [State.reportIfReady_eq]; rfl

@[simp] theorem State.countConditions_jt (e : WorkEntry) (cs : CondSet) (s : State) :
    (s.countConditions e cs).jt = s.jt := by
  rw [State.countConditions_eq]; rfl

@[simp] theorem State.countConditions_expiry (e : WorkEntry) (cs : CondSet) (s : State) :
    (s.countConditions e cs).expiry = s.expiry := by
  rw [State.countConditions_eq]; rfl

@[simp] theorem State.countConditions_roll (e : WorkEntry) (cs : CondSet) (s : State) :
    (s.countConditions e cs).roll = s.roll := by
  rw [State.countConditions_eq]; rfl

/-! ### The expiry queue by name (R93, R94) -/

theorem insertBefore_perm {α : Type} (f : α → Bool) (a : α) (l : List α) : (insertBefore f a l).Perm (a :: l) := by
  induction l with
  | nil => exact .refl _
  | cons b l ih =>
    simp only [insertBefore]
    split
    · exact .refl _
    · exact (ih.cons b).trans (.swap a b l)

/-- A new entry adds its name. -/
theorem State.enterExpiry_names_perm (c : Card) (d : Day) (k : ExpiryKind) (n : Nat) (s : State) :
    (s.enterExpiry c d k n).names.Perm ((c, d, k) :: s.names) := (insertBefore_perm _ _ _).map ExpiryEntry.name

/-- A cancellation takes the first entry of its name. -/
theorem State.cancelExpiry_names (c : Card) (d : Day) (k : ExpiryKind) (s : State) :
    (s.cancelExpiry c d k).names = s.names.erase (c, d, k) := by
  have isFor : (fun x => x == (c, d, k)) ∘ ExpiryEntry.name = ExpiryEntry.isFor c d k := by
    funext e
    rw [Bool.eq_iff_iff]
    simp [ExpiryEntry.name, ExpiryEntry.isFor, and_assoc]
  rw [State.names, State.names, List.erase_eq_eraseP', List.eraseP_map, isFor]
  rfl

/-- The first due entry leaves the queue with its name. -/
theorem names_eraseP_due {l : List ExpiryEntry} {e : ExpiryEntry} (first : l.find? ExpiryEntry.due = some e) :
    (l.map ExpiryEntry.name).Perm (e.name :: (l.eraseP ExpiryEntry.due).map ExpiryEntry.name) := by
  induction l with
  | nil => cases first
  | cons a l ih =>
    cases due : a.due with
    | true =>
      obtain rfl : a = e := by simpa [List.find?, due] using first
      rw [List.eraseP_cons_of_pos due]
      exact .refl _
    | false =>
      rw [List.eraseP_cons_of_neg (by simp [due]), List.map_cons, List.map_cons]
      exact ((ih (by simpa [List.find?, due] using first)).cons _).trans (.swap _ _ _)

theorem State.compareDeadlines_names (s : State) : s.compareDeadlines.names = s.names := by
  simp only [State.names, State.compareDeadlines, List.map_map]
  rfl

theorem markFirstDue_names (s : State) (l : List ExpiryEntry) :
    (markFirstDue s l).map ExpiryEntry.name = l.map ExpiryEntry.name := by
  induction l with
  | nil => rfl
  | cons e l ih =>
    simp only [markFirstDue]
    split
    · rfl
    · rw [List.map_cons, List.map_cons, ih]

/-- Neither the overrun check nor the deadlines compared touch the ledger (R45, R47). -/
theorem State.checkOverrun_compareDeadlines_ledger (s : State) : s.checkOverrun.compareDeadlines.ledger = s.ledger := by
  refine State.ledger_congr s.checkOverrun_jt ?_ (congrArg _ s.checkOverrun_roll) ?_
  · rw [State.compareDeadlines_names, State.names, State.checkOverrun_expiry]; rfl
  · rw [State.compareDeadlines_clock, State.checkOverrun_clock]

/-- Line time set leaves the ledger as it is. -/
theorem State.setLineTime_ledger (t : Nat) (s : State) : (s.setLineTime t).ledger = s.ledger :=
  State.checkOverrun_compareDeadlines_ledger _

/-! ## What becomes of a record -/

/-- Without an open journey and without held tap-outs (R69). -/
def Record.Bare (r : Record) : Prop := r.openJourney = none ∧ r.held = []

/-- The same record later: its card, day and status as they were, and in range if it was. -/
structure Record.Becomes (old new : Record) : Prop where
  card : new.card = old.card
  day : new.day = old.day
  status : new.status = old.status
  inRange : old.InRange → new.InRange

section
variable {r x y : Record}

theorem Record.Becomes.refl (r : Record) : r.Becomes r := ⟨rfl, rfl, rfl, id⟩

theorem Record.Becomes.trans (h : r.Becomes x) (k : x.Becomes y) : r.Becomes y :=
  ⟨k.card.trans h.card, k.day.trans h.day, k.status.trans h.status, fun range => k.inRange (h.inRange range)⟩

/-- A recent tap remembered, the oldest of eight forgotten (R67). -/
theorem Record.becomes_remember (q : PortId × BitVec 32) (r : Record) : r.Becomes (r.remember q) := by
  refine ⟨rfl, rfl, rfl, fun ⟨total, journeys, held, sorted, recent, pending⟩ =>
    ⟨total, journeys, held, sorted, ?_, pending⟩⟩
  simp only [Record.remember, List.length_append, List.length_singleton]
  split
  · rw [List.length_tail]; omega
  · omega

theorem Record.becomes_raisePending (r : Record) : r.Becomes r.raisePending :=
  ⟨rfl, rfl, rfl, fun ⟨total, journeys, held, sorted, recent, _⟩ =>
    ⟨total, journeys, held, sorted, recent, Nat.min_le_left _ _⟩⟩

/-- A charge: the totals saturate, the pending count falls (R68, R70, R133). -/
theorem Record.becomes_charge (k : Reckoning) (n : Nat) (r : Record) : r.Becomes (r.charge k n) :=
  ⟨rfl, rfl, rfl, fun ⟨_, _, held, sorted, recent, pending⟩ =>
    ⟨Nat.min_le_left _ _, Nat.min_le_left _ _, held, sorted, recent, (Nat.sub_le _ _).trans pending⟩⟩

theorem Record.becomes_withOpen (o : Option OpenJourney) (r : Record) : r.Becomes { r with openJourney := o } :=
  ⟨rfl, rfl, rfl, id⟩

/-- Held tap-outs taken out leave the others in their order (R66). -/
theorem Record.becomes_fewerHeld {l : List HeldTap} (sub : l.Sublist r.held) : r.Becomes { r with held := l } :=
  ⟨rfl, rfl, rfl, fun ⟨total, journeys, held, sorted, recent, pending⟩ =>
    ⟨total, journeys, sub.length_le.trans held, sorted.sublist sub, recent, pending⟩⟩

theorem Record.becomes_dropHeld (h : HeldTap) (r : Record) : r.Becomes (r.dropHeld h) :=
  Record.becomes_fewerHeld List.erase_sublist

/-- A tap-out held behind every earlier one keeps the out times in order (R66). -/
theorem insertBefore_sorted (h : HeldTap) {l : List HeldTap} (sorted : l.Pairwise fun a b => a.time ≤ b.time) :
    (insertBefore (fun x => decide (h.time < x.time)) h l).Pairwise fun a b => a.time ≤ b.time := by
  induction l with
  | nil => exact List.pairwise_singleton _ _
  | cons a l ih =>
    obtain ⟨first, rest⟩ := List.pairwise_cons.1 sorted
    simp only [insertBefore]
    split
    next before =>
      have before : h.time < a.time := by simpa using before
      refine List.pairwise_cons.2 ⟨fun x hx => ?_, sorted⟩
      rcases List.mem_cons.1 hx with rfl | hx
      · exact before.le
      · exact before.le.trans (first x hx)
    next after =>
      have after : a.time ≤ h.time := by simpa using after
      refine List.pairwise_cons.2 ⟨fun x hx => ?_, ih rest⟩
      rcases List.mem_cons.1 ((insertBefore_perm _ h l).mem_iff.1 hx) with rfl | hx
      · exact after
      · exact first x hx

theorem Record.becomes_hold (h : HeldTap) (room : r.InRange → r.held.length < 3) : r.Becomes (r.hold h) :=
  ⟨rfl, rfl, rfl, fun range@⟨total, journeys, _, sorted, recent, pending⟩ =>
    ⟨total, journeys, (insertBefore_length _ h r.held).le.trans (room range), insertBefore_sorted h sorted, recent, pending⟩⟩

/-- The head of a full held list displaced makes room for another (R92). -/
theorem Record.becomes_displace {head : HeldTap} {rest : List HeldTap} (held : r.held = head :: rest) (h : HeldTap) :
    r.Becomes (Record.hold h { r with held := rest }) := by
  have sub : rest.Sublist r.held := by rw [held]; exact List.sublist_cons_self _ _
  refine ⟨rfl, rfl, rfl, fun range => ?_⟩
  have full : r.held.length ≤ 3 := range.2.2.1
  rw [held, List.length_cons] at full
  exact (Record.becomes_hold (r := { r with held := rest }) h fun _ => full).inRange ((Record.becomes_fewerHeld sub).inRange range)

theorem Record.inRange_fresh (c : Card) (d : Day) : (Record.fresh c d).InRange :=
  ⟨Nat.zero_le _, Nat.zero_le _, Nat.zero_le _, List.Pairwise.nil, Nat.zero_le _, Nat.zero_le _⟩

/-- A closed record: nothing held, the pending count saturated (R169). -/
theorem Record.inRange_closed (range : r.InRange) : r.closed.InRange := by
  obtain ⟨total, journeys, -, -, recent, -⟩ := range
  exact ⟨total, journeys, Nat.zero_le _, List.Pairwise.nil, recent, Nat.min_le_left _ _⟩

/-! ### The names of its expiry entries (R93) -/

/-- The name of the JOURNEY_LIMIT entry of a record. -/
def Record.limitName (r : Record) : Card × Day × ExpiryKind := (r.card, r.day, .journeyLimit)

/-- The name of the HOLD entry of a tap-out held in a record. -/
def Record.holdName (r : Record) (h : HeldTap) : Card × Day × ExpiryKind := (r.card, r.day, .hold h.port h.hubSeq)

theorem Record.expiryNames_eq (r : Record) :
    r.expiryNames = (r.openJourney.toList.map fun _ => r.limitName) ++ r.held.map r.holdName := rfl

theorem Record.expiryNames_of_bare (h : r.Bare) : r.expiryNames = [] := by
  obtain ⟨noOpen, noHeld⟩ := h
  rw [Record.expiryNames_eq, noOpen, noHeld]; rfl

theorem Record.expiryNames_open {o : OpenJourney} (h : r.openJourney = some o) :
    r.expiryNames = r.limitName :: Record.expiryNames { r with openJourney := none } := by
  rw [Record.expiryNames_eq, h]; rfl

theorem Record.expiryNames_withOpen (o p : OpenJourney) (h : r.openJourney = some o) :
    Record.expiryNames { r with openJourney := some p } = r.expiryNames := by
  rw [Record.expiryNames_eq, Record.expiryNames_eq, h]; rfl

theorem Record.expiryNames_newOpen (p : OpenJourney) (h : r.openJourney = none) :
    Record.expiryNames { r with openJourney := some p } = r.limitName :: r.expiryNames := by
  rw [Record.expiryNames_eq, Record.expiryNames_eq, h]; rfl

/-- One held tap-out among others. -/
theorem Record.expiryNames_held_perm {h : HeldTap} {l : List HeldTap} (perm : r.held.Perm (h :: l)) :
    r.expiryNames.Perm (r.holdName h :: Record.expiryNames { r with held := l }) := by
  rw [Record.expiryNames_eq]
  exact ((perm.map r.holdName).append_left _).trans List.perm_middle

theorem Record.expiryNames_dropHeld_perm {h : HeldTap} (held : h ∈ r.held) :
    r.expiryNames.Perm (r.holdName h :: (r.dropHeld h).expiryNames) :=
  Record.expiryNames_held_perm (List.perm_cons_erase held)

theorem Record.expiryNames_hold_perm (h : HeldTap) (r : Record) :
    (r.hold h).expiryNames.Perm (r.holdName h :: r.expiryNames) :=
  Record.expiryNames_held_perm (r := r.hold h) (insertBefore_perm _ h r.held)

end

/-! ### Entries exchanged with the record's parts -/

section
variable {names names' old new rest : List (Card × Day × ExpiryKind)} {k : Card × Day × ExpiryKind}

/-- The queue changes as the record's names do. -/
def Exchanged (names old names' new : List (Card × Day × ExpiryKind)) : Prop := (names' ++ old).Perm (names ++ new)

/-- A part leaves the record and its entry the queue. -/
theorem exchanged_erase (parts : old.Perm (k :: new)) (entries : old.Subperm names) :
    Exchanged names old (names.erase k) new := by
  have here : k ∈ names := entries.subset (parts.mem_iff.2 (List.mem_cons_self ..))
  exact (parts.append_left _).trans (List.perm_middle.trans ((List.perm_cons_erase here).symm.append_right new))

/-- The same, where the entry has left. -/
theorem exchanged_left (parts : old.Perm (k :: new)) (entries : names.Perm (k :: names')) : Exchanged names old names' new :=
  (parts.append_left _).trans (List.perm_middle.trans (entries.symm.append_right new))

/-- A part joins the record and its entry the queue. -/
theorem exchanged_enter (parts : new.Perm (k :: old)) (entries : names'.Perm (k :: names)) : Exchanged names old names' new :=
  (entries.append_right _).trans (List.perm_middle.symm.trans (parts.symm.append_left names))

theorem Exchanged.trans {names'' last : List (Card × Day × ExpiryKind)} (h : Exchanged names old names' new)
    (k : Exchanged names' new names'' last) : Exchanged names old names'' last := by
  unfold Exchanged at *
  rw [List.perm_iff_count] at *
  intro x
  have h := h x
  have k := k x
  simp only [List.count_append] at *
  omega

end

/-! ## What a step does to the ledger -/

/-- A find-or-insert offers a record: the one that the table holds, or a fresh one put in (R60). -/
def JourneyTable.Offers (jt u : JourneyTable) (r : Record) : Prop :=
  (u = jt ∧ jt.lookup r.card r.day = some r) ∨
    (jt.lookup r.card r.day = none ∧ r = Record.fresh r.card r.day ∧ jt.insert r.card r.day = .inserted u r)

/-- One move of the ledger. -/
inductive Ledger.Move : Ledger → Ledger → Prop
  /-- A record offered by a find-or-insert is written, and its entries change with its parts. A tap touches no CLOSING record: it is
  of the present day or finds its record ACTIVE (R79, R80). -/
  | write {l : Ledger} {jt : JourneyTable} {old new : Record} {names : List (Card × Day × ExpiryKind)}
      (offers : l.jt.Offers jt old) (becomes : old.Becomes new)
      (parts : old.day = l.day ∨ old.status = .active ∨ (old.Bare → new.Bare))
      (entries : old.expiryNames.Subperm l.names → Exchanged l.names old.expiryNames names new.expiryNames) :
      Ledger.Move l { l with jt := jt.write new, names := names }
  /-- An entry that no record part answers leaves the queue (log 30). -/
  | drop {l : Ledger} {name : Card × Day × ExpiryKind} {names : List (Card × Day × ExpiryKind)}
      (left : l.names.Perm (name :: names))
      (stray : ∀ r, l.jt.lookup name.1 name.2.1 = some r → name ∉ r.expiryNames) :
      Ledger.Move l { l with names := names }
  /-- An ACTIVE record of the old day is closed (R169). -/
  | close {l : Ledger} {r : Record} {names : List (Card × Day × ExpiryKind)}
      (found : l.jt.lookup r.card r.day = some r) (active : r.status = .active) (old : l.oldDay = some r.day)
      (entries : r.expiryNames.Subperm l.names → (names ++ r.expiryNames).Perm l.names) :
      Ledger.Move l { l with jt := l.jt.write r.closed, names := names, closing := l.closing + 1 }
  /-- A CLOSING record is summarised and removed (R170). -/
  | remove {l : Ledger} {r : Record} (found : l.jt.lookup r.card r.day = some r) (closing : r.status = .closing) :
      Ledger.Move l { l with jt := l.jt.remove r.card r.day, closing := l.closing - 1 }
  /-- A roll with no CLOSING record left ends (R172, R173). -/
  | endRoll {l : Ledger} (rolling : l.roll = .rolling) (none : l.closing = 0) :
      Ledger.Move l { l with roll := .ready, oldDay := .none }
  /-- A roll begins (R166). -/
  | beginRoll {l : Ledger} (idle : l.roll ≠ .rolling) :
      Ledger.Move l { l with roll := .rolling, oldDay := some l.day, closing := 0, day := l.day + 1 }
  /-- A day begins without a roll (R165). -/
  | startDay {l : Ledger} {d : Day} (idle : l.roll ≠ .rolling) : Ledger.Move l { l with roll := .ready, day := d }
  /-- A reset (R75, R176, R185). -/
  | reset {l : Ledger} {roll : LineState} {d : Day} (idle : roll ≠ .rolling) :
      Ledger.Move l ⟨JourneyTable.reset, [], roll, .none, 0, d⟩

/-- Moves of the ledger, one after the other. -/
def Ledger.Moves : Ledger → Ledger → Prop := Relation.ReflTransGen Ledger.Move

/-- The moves of the ledger between two states. -/
def State.Moves (s u : State) : Prop := s.ledger.Moves u.ledger

section
variable {s u v : State}

theorem State.Moves.refl (s : State) : s.Moves s := Relation.ReflTransGen.refl

theorem State.Moves.trans (h : s.Moves u) (k : u.Moves v) : s.Moves v := Relation.ReflTransGen.trans h k

theorem State.Moves.same (h : s.Moves u) (same : v.ledger = u.ledger) : s.Moves v := by
  rw [State.Moves, same]; exact h

theorem State.moves_one (h : s.ledger.Move u.ledger) : s.Moves u := Relation.ReflTransGen.single h

theorem State.Moves.of_ledger (h : s.Moves u) (same : v.ledger = s.ledger) : v.Moves u := by
  rw [State.Moves, same]; exact h

/-! ### Records written -/

@[simp] theorem State.writeRecord_jt (r : Record) (s : State) : (s.writeRecord r).jt = s.jt.write r := rfl

@[simp] theorem State.writeRecordWithWork_jt (r : Record) (s : State) :
    (s.writeRecordWithWork r).jt = s.jt.write r.raisePending := by
  rw [State.writeRecordWithWork, State.writeRecord_jt, State.countSaturation_jt]

/-- A record offered, written back in a state that otherwise differs in what the ledger does not read. -/
theorem State.moves_write {jt : JourneyTable} {old new : Record} (offers : s.jt.Offers jt old) (becomes : old.Becomes new)
    (parts : old.day = s.clock.day ∨ old.status = .active ∨ (old.Bare → new.Bare))
    (entries : old.expiryNames.Subperm s.names → Exchanged s.names old.expiryNames u.names new.expiryNames)
    (table : u.jt = jt.write new) (stage : u.roll.stage = s.roll.stage) (day : u.clock.day = s.clock.day) : s.Moves u := by
  refine State.moves_one ?_
  have move := Ledger.Move.write (l := s.ledger) offers becomes parts entries
  have same : u.ledger = { s.ledger with jt := jt.write new, names := u.names } := by
    simp only [RollSweep.stage, Prod.mk.injEq] at stage
    obtain ⟨state, oldDay, closing⟩ := stage
    simp only [State.ledger, table, state, oldDay, closing, day]
  rwa [same]

/-- A record written with its parts as they were. -/
theorem State.moves_rewrite {jt : JourneyTable} {old new : Record} (offers : s.jt.Offers jt old) (becomes : old.Becomes new)
    (openJourney : new.openJourney = old.openJourney) (held : new.held = old.held) (table : u.jt = jt.write new)
    (expiry : u.expiry = s.expiry) (stage : u.roll.stage = s.roll.stage) (day : u.clock.day = s.clock.day) : s.Moves u := by
  refine State.moves_write offers becomes (.inr (.inr fun ⟨a, b⟩ => ⟨openJourney.trans a, held.trans b⟩)) (fun _ => ?_)
    table stage day
  have names : new.expiryNames = old.expiryNames := by
    simp only [Record.expiryNames, openJourney, held, becomes.card, becomes.day]
  rw [State.names_congr expiry, names]
  exact .refl _

/-! ### A tap in the record offered (R82 to R92) -/

/-- The record `old` that a tap's find-or-insert offers in the table `jt`, and what the tap makes of it first: `r`, which remembers
the tap (R82). It is of the present day or ACTIVE (R79, R80). -/
structure State.TapRecord (s : State) (jt : JourneyTable) (old r : Record) : Prop where
  offers : s.jt.Offers jt old
  becomes : old.Becomes r
  openJourney : r.openJourney = old.openJourney
  held : r.held = old.held
  admitted : old.day = s.clock.day ∨ old.status = .active

section
variable {jt : JourneyTable} {old r : Record}

theorem State.TapRecord.names (h : s.TapRecord jt old r) : r.expiryNames = old.expiryNames := by
  simp only [Record.expiryNames, h.openJourney, h.held, h.becomes.card, h.becomes.day]

/-- What a tap makes of its record is written, and the entries change with the parts. -/
theorem State.TapRecord.moves (h : s.TapRecord jt old r) {new : Record} (becomes : r.Becomes new)
    (entries : r.expiryNames.Subperm s.names → Exchanged s.names r.expiryNames u.names new.expiryNames)
    (table : u.jt = jt.write new) (stage : u.roll.stage = s.roll.stage) (day : u.clock.day = s.clock.day) : s.Moves u :=
  State.moves_write h.offers (h.becomes.trans becomes) (h.admitted.imp_right .inl) (h.names ▸ entries) table stage day

variable (h : s.TapRecord jt old r) (t : Tap)
include h

theorem State.TapRecord.pairWithHeld {x : HeldTap} (held : x ∈ r.held) :
    s.Moves (State.pairWithHeld r t x { s with jt := jt }) := by
  refine h.moves ((Record.becomes_dropHeld x r).trans (Record.becomes_raisePending _)) (fun entries => ?_)
    (by simp [State.pairWithHeld]) (by simp) (by simp)
  have names : (State.pairWithHeld r t x { s with jt := jt }).names = s.names.erase (r.holdName x) := by
    rw [State.names, State.pairWithHeld, State.createTapWork_expiry]
    exact (State.cancelExpiry_names _ _ _ _).trans (by rw [State.names, State.writeRecordWithWork_expiry]; rfl)
  rw [names]
  exact exchanged_erase (Record.expiryNames_dropHeld_perm held) entries

theorem State.TapRecord.replaceOpen {o : OpenJourney} (opened : r.openJourney = some o) :
    s.Moves (State.replaceOpen r t o { s with jt := jt }) := by
  refine h.moves ((Record.becomes_withOpen (some t.toOpen) r).trans (Record.becomes_raisePending _)) (fun entries => ?_)
    (by simp [State.replaceOpen]) (by simp) (by simp)
  have names : (State.replaceOpen r t o { s with jt := jt }).names.Perm (r.limitName :: s.names.erase r.limitName) := by
    rw [State.names, State.replaceOpen, State.createTapWork_expiry]
    refine (State.enterExpiry_names_perm _ _ _ _ _).trans (List.Perm.cons _ ?_)
    rw [State.cancelLimit, State.cancelExpiry_names, State.names, State.writeRecordWithWork_expiry]
    exact .refl _
  have parts := Record.expiryNames_open opened
  have same : Record.expiryNames { r with openJourney := some t.toOpen } = r.expiryNames := Record.expiryNames_withOpen _ _ opened
  refine (exchanged_erase (.of_eq parts) entries).trans (exchanged_enter ?_ names)
  exact .of_eq (same.trans parts)

theorem State.TapRecord.closeOlder : s.Moves (State.closeOlder r t { s with jt := jt }) :=
  h.moves (Record.becomes_raisePending r) (fun _ => by
      rw [State.names_congr (State.closeOlder_expiry _ _ _)]; exact .refl _)
    (by simp [State.closeOlder]) (by simp) (by simp)

theorem State.TapRecord.openWith (unopened : r.openJourney = none) : s.Moves (State.openWith r t { s with jt := jt }) := by
  refine h.moves (Record.becomes_withOpen (some t.toOpen) r) (fun _ => ?_) (by simp [State.openWith])
    (by simp [State.openWith]) (by simp)
  refine exchanged_enter (.of_eq (Record.expiryNames_newOpen _ unopened)) ?_
  rw [State.names, State.openWith, State.endTap_expiry, State.answerTap_expiry]
  exact State.enterExpiry_names_perm _ _ _ _ _

theorem State.TapRecord.pairWithOpen {o : OpenJourney} (opened : r.openJourney = some o) :
    s.Moves (State.pairWithOpen r t o { s with jt := jt }) := by
  refine h.moves ((Record.becomes_withOpen none r).trans (Record.becomes_raisePending _)) (fun entries => ?_)
    (by simp [State.pairWithOpen]) (by simp) (by simp)
  have names : (State.pairWithOpen r t o { s with jt := jt }).names = s.names.erase r.limitName := by
    rw [State.names, State.pairWithOpen, State.createTapWork_expiry]
    exact (State.cancelExpiry_names _ _ _ _).trans (by rw [State.names, State.writeRecordWithWork_expiry]; rfl)
  rw [names]
  exact exchanged_erase (.of_eq (Record.expiryNames_open opened)) entries

theorem State.TapRecord.holdTap (room : r.held.length < 3) : s.Moves (State.holdTap r t { s with jt := jt }) := by
  refine h.moves (Record.becomes_hold (t.toHeld s.clock.time) fun _ => room) (fun _ => ?_) (by simp [State.holdTap])
    (by simp [State.holdTap]) (by simp)
  refine exchanged_enter (Record.expiryNames_hold_perm _ r) ?_
  rw [State.names, State.holdTap, State.endTap_expiry, State.answerTap_expiry]
  exact State.enterExpiry_names_perm _ _ _ _ _

theorem State.TapRecord.displaceAndHold {x : HeldTap} {rest : List HeldTap} (held : r.held = x :: rest) :
    s.Moves (State.displaceAndHold r t x rest { s with jt := jt }) := by
  refine h.moves ((Record.becomes_displace held (t.toHeld s.clock.time)).trans (Record.becomes_raisePending _))
    (fun entries => ?_) (by simp [State.displaceAndHold]) (by simp) (by simp)
  have names : (State.displaceAndHold r t x rest { s with jt := jt }).names.Perm
      (r.holdName (t.toHeld s.clock.time) :: s.names.erase (r.holdName x)) := by
    rw [State.names, State.displaceAndHold, State.createTapWork_expiry]
    refine (State.enterExpiry_names_perm _ _ _ _ _).trans (List.Perm.cons _ ?_)
    rw [State.cancelHold, State.cancelExpiry_names, State.names, State.writeRecordWithWork_expiry]
    exact .refl _
  exact (exchanged_erase (Record.expiryNames_held_perm (.of_eq held)) entries).trans
    (exchanged_enter (Record.expiryNames_hold_perm _ { r with held := rest }) names)

theorem State.TapRecord.pairTapIn : s.Moves (State.pairTapIn r t { s with jt := jt }) := by
  unfold State.pairTapIn
  split
  next x found => exact h.pairWithHeld t (List.mem_of_find?_eq_some found)
  next =>
    split
    next o opened =>
      split
      · exact h.replaceOpen t opened
      · exact h.closeOlder t
    next unopened => exact h.openWith t unopened

theorem State.TapRecord.holdOrDisplace : s.Moves (State.holdOrDisplace r t { s with jt := jt }) := by
  unfold State.holdOrDisplace
  split
  next x rest held =>
    split
    next room => exact h.holdTap t room
    next => exact h.displaceAndHold t held
  next empty => exact h.holdTap t (by rw [empty]; exact Nat.zero_lt_succ 2)

theorem State.TapRecord.pairTapOut : s.Moves (State.pairTapOut r t { s with jt := jt }) := by
  unfold State.pairTapOut
  split
  next o opened =>
    split
    · exact h.pairWithOpen t opened
    · exact h.holdOrDisplace t
  next => exact h.holdOrDisplace t

/-- A tap-in on an INVALID product is only remembered (R83). -/
theorem State.TapRecord.notice (reason : NoticeReason) (a : Answer) :
    s.Moves (State.noticeTap t reason a (State.writeRecord r { s with jt := jt })) := by
  refine h.moves (.refl r) (fun _ => ?_) (by simp) (by simp) (by simp)
  rw [State.names_congr (State.noticeTap_expiry _ _ _ _)]
  exact .refl _

end

/-! ### A tap's step (R78 to R80) -/

theorem State.noticeTap_ledger (t : Tap) (r : NoticeReason) (a : Answer) (s : State) : (s.noticeTap t r a).ledger = s.ledger :=
  State.ledger_congr (by simp) (by simp [State.names]) (by simp) (by simp)

theorem State.dropDuplicate_ledger (t : Tap) (s : State) : (s.dropDuplicate t).ledger = s.ledger :=
  State.ledger_congr (by simp) (by simp [State.names]) (by simp) (by simp)

/-- A tap in the record that its find-or-insert offers. A fresh record has no recent tap, so that no tap is a duplicate there. -/
theorem State.moves_tapInRecord {jt : JourneyTable} {old : Record} (t : Tap) (offers : s.jt.Offers jt old)
    (admitted : old.day = s.clock.day ∨ old.status = .active) : s.Moves (State.tapInRecord t old { s with jt := jt }) := by
  have record : s.TapRecord jt old (old.remember t.pair) := ⟨offers, Record.becomes_remember _ _, rfl, rfl, admitted⟩
  unfold State.tapInRecord
  split
  next duplicate =>
    rcases offers with ⟨rfl, -⟩ | ⟨-, fresh, -⟩
    · exact (State.Moves.refl s).same (State.dropDuplicate_ledger t s)
    · rw [fresh] at duplicate; cases duplicate
  next =>
    dsimp only
    split
    · exact record.notice t _ _
    · split
      · exact record.pairTapIn t
      · exact record.pairTapOut t

/-- A tap that passes the intake checks finds a record of the present day or an ACTIVE one (R79, R80). -/
theorem State.admitted_of_intakeCheck {t : Tap} (passes : s.intakeCheck t = none) {r : Record}
    (found : s.jt.lookup t.card t.hubDay = some r) : t.hubDay = s.clock.day ∨ r.status = .active := by
  by_cases today : t.hubDay = s.clock.day
  · exact .inl today
  · refine .inr ?_
    unfold State.intakeCheck at passes
    split at passes; · cases passes
    split at passes; · cases passes
    split at passes; · cases passes
    next admitted =>
      split at passes; · cases passes
      split at passes; · cases passes
      next old =>
        have oldDay : s.isOldDay t = true := by
          simp only [State.dayAdmitted, Bool.not_eq_true', Bool.not_eq_false, Bool.or_eq_true, beq_iff_eq, today, false_or,
            Bool.and_eq_true] at admitted
          simp only [State.isOldDay, Bool.and_eq_true, beq_iff_eq, bne_iff_ne, ne_eq]
          exact ⟨admitted, today⟩
        simpa [oldDay, State.oldDayAdmitted, found] using old

theorem State.moves_findAndPair {t : Tap}
    (admitted : ∀ r, s.jt.lookup t.card t.hubDay = some r → t.hubDay = s.clock.day ∨ r.status = .active) :
    s.Moves (s.findAndPair t) := by
  unfold State.findAndPair
  cases held : s.jt.lookup t.card t.hubDay with
  | some r =>
    rw [JourneyTable.findOrInsert_of_present held]
    obtain ⟨card, day⟩ := JourneyTable.lookup_key held
    exact State.moves_tapInRecord (jt := s.jt) t (.inl ⟨rfl, by rw [card, day, held]⟩) (by rw [day]; exact admitted r held)
  | none =>
    rw [JourneyTable.findOrInsert_of_absent held]
    split
    next r found => exact absurd found (JourneyTable.insert_ne_found r)
    next jt r inserted =>
      obtain ⟨rfl, -⟩ := JourneyTable.insert_cases inserted
      exact State.moves_tapInRecord t (.inr ⟨held, rfl, inserted⟩) (.inr rfl)
    next => exact (State.Moves.refl s).same ((State.noticeTap_ledger _ _ _ _).trans rfl)
    next => exact (State.Moves.refl s).same ((State.noticeTap_ledger _ _ _ _).trans rfl)

end

section
variable {s u v : State}

/-! ### Closing a record (R169) -/

/-- A closure cancels the entries of the record's parts (R94). -/
theorem State.cancelAll_names (r : Record) (s : State) : (s.cancelAll r).names = s.names.diff r.expiryNames := by
  have holds : ∀ (l : List HeldTap) (t : State),
      (l.foldl (fun s h => s.cancelHold r h) t).names = (l.map r.holdName).foldl List.erase t.names := by
    intro l
    induction l with
    | nil => intro t; rfl
    | cons h l ih =>
      intro t
      rw [List.foldl_cons, ih, State.cancelHold, State.cancelExpiry_names]
      rfl
  rw [List.diff_eq_foldl, Record.expiryNames_eq, List.foldl_append, State.cancelAll, holds]
  cases opened : r.openJourney with
  | none => rfl
  | some o =>
    rw [Option.isSome_some, if_pos rfl, State.cancelLimit, State.cancelExpiry_names]
    rfl

theorem State.closeRecord_ledger (r : Record) (s : State) : (s.closeRecord r).ledger =
    { s.ledger with
      jt := s.jt.write r.closed, names := s.names.diff r.expiryNames, closing := s.roll.closingCount + 1 } := by
  have names : (s.closeRecord r).names = s.names.diff r.expiryNames := by
    have read : (s.closeRecord r).names = (State.cancelAll r (State.writeRecord r.closed
        (s.count .pendingSaturations
          (min r.closureWork.length ((r.pendingCount + r.closureWork.length) - Config.pendingMax))))).names := by
      refine State.names_congr ?_
      rw [State.closeRecord, State.reportIfReady_expiry, State.bump_expiry]
      exact State.joinAll_expiry _ _
    rw [read, State.cancelAll_names]
    rfl
  simp only [State.ledger, names, State.closeRecord_clock]
  simp [State.closeRecord, State.reportIfReady_eq]

theorem State.moves_closeRecord {r : Record} (found : s.jt.lookup r.card r.day = some r) (active : r.status = .active)
    (old : s.roll.oldDay = some r.day) : s.Moves (s.closeRecord r) := by
  refine State.moves_one ?_
  rw [State.closeRecord_ledger]
  refine Ledger.Move.close (l := s.ledger) found active old fun entries => ?_
  exact List.perm_append_comm.trans
    (List.subperm_append_diff_self_of_count_le (List.subperm_ext_iff.1 entries))

/-- The record that a new-day tap touches is ACTIVE and of the old day of the roll (R80). -/
theorem State.touched_some {t : Tap} {r : Record} (h : s.touched t = some r) :
    t.hubDay = s.clock.day ∧ r.status = .active ∧ s.roll.oldDay = some r.day ∧
      s.jt.lookup r.card r.day = some r := by
  unfold State.touched at h
  split at h
  next rolling =>
    split at h
    next d old =>
      split at h
      next x found =>
        split at h
        next active =>
          cases h
          obtain ⟨card, day⟩ := JourneyTable.lookup_key found
          exact ⟨rolling.2, active, by rw [day, old], by rw [card, day, found]⟩
        next => cases h
      next => cases h
    next => cases h
  next => cases h

theorem State.moves_stepTap (t : Tap) (s : State) : s.Moves (s.stepTap t) := by
  unfold State.stepTap
  split
  next => exact (State.Moves.refl s).same (State.noticeTap_ledger _ _ _ _)
  next passes =>
    split
    next r touched =>
      obtain ⟨today, active, old, found⟩ := State.touched_some touched
      refine (State.moves_closeRecord found active old).trans (State.moves_findAndPair fun _ _ => .inl ?_)
      rw [State.closeRecord_clock]
      exact today
    next => exact State.moves_findAndPair fun r found => State.admitted_of_intakeCheck passes found

/-! ### A due expiry entry (R96 to R98) -/

theorem JourneyTable.offers_of_lookup {jt : JourneyTable} {c : Card} {d : Day} {r : Record} (h : jt.lookup c d = some r) :
    jt.Offers jt r := by
  obtain ⟨rfl, rfl⟩ := JourneyTable.lookup_key h
  exact .inl ⟨rfl, h⟩

/-- The step of an entry that has left the queue: `s` is the state before it left, `u` the state after. -/
theorem State.moves_expire {e : ExpiryEntry} (left : s.names.Perm (e.name :: u.names)) (jt : u.jt = s.jt)
    (stage : u.roll.stage = s.roll.stage) (clock : u.clock = s.clock) : s.Moves (u.expire e) := by
  have dropped : (∀ r, s.jt.lookup e.card e.day = some r → e.name ∉ r.expiryNames) → s.Moves u := by
    intro stray
    refine State.moves_one ?_
    have move := Ledger.Move.drop (l := s.ledger) left stray
    have same : u.ledger = { s.ledger with names := u.names } :=
      State.ledger_congr (s := { s with expiry := u.expiry }) jt rfl stage (congrArg _ clock)
    rwa [same]
  have written : ∀ {r new : Record} {w : State}, s.jt.lookup e.card e.day = some r → r.Becomes new →
      (r.Bare → new.Bare) → r.expiryNames.Perm (e.name :: new.expiryNames) → w.jt = u.jt.write new → w.expiry = u.expiry →
      w.roll = u.roll → w.clock = u.clock → s.Moves w := by
    intro r new w found becomes bare parts table expiry roll day
    refine State.moves_write (JourneyTable.offers_of_lookup found) becomes (.inr (.inr bare)) (fun _ => ?_) (jt ▸ table)
      ((congrArg _ roll).trans stage) (congrArg _ (day.trans clock))
    rw [State.names_congr expiry]
    exact exchanged_left parts left
  unfold State.expire
  rw [jt]
  split
  next absent => exact dropped fun r found => by rw [absent] at found; cases found
  next r found =>
    obtain ⟨card, day⟩ := JourneyTable.lookup_key found
    have only : ∀ {P : Record → Prop}, P r → ∀ x, s.jt.lookup e.card e.day = some x → P x := by
      intro P hr x hx; rw [found] at hx; cases hx; exact hr
    split
    next kind =>
      have name : e.name = r.limitName := by simp only [ExpiryEntry.name, kind, Record.limitName, card, day]
      split
      next o opened =>
        refine written found ((Record.becomes_withOpen none r).trans (Record.becomes_raisePending _)) (fun bare => ⟨rfl, bare.2⟩)
          ?_ (by simp [State.expireOpen]) (by simp) (by simp) (by simp)
        rw [name]
        exact .of_eq (Record.expiryNames_open opened)
      next unopened =>
        refine dropped (only ?_)
        rw [name, Record.expiryNames_eq, unopened]
        simp [Record.limitName, Record.holdName]
    next p q kind =>
      have named : ∀ h : HeldTap, e.name = r.holdName h ↔ h.port = p ∧ h.hubSeq = q := by
        intro h
        simp only [ExpiryEntry.name, kind, Record.holdName, card, day, Prod.mk.injEq, true_and, ExpiryKind.hold.injEq]
        exact ⟨fun ⟨a, b⟩ => ⟨a.symm, b.symm⟩, fun ⟨a, b⟩ => ⟨a.symm, b.symm⟩⟩
      split
      next h held =>
        have name : e.name = r.holdName h := (named h).2 (by simpa using List.find?_some held)
        refine written found ((Record.becomes_dropHeld h r).trans (Record.becomes_raisePending _)) (fun bare => ?_)
          ?_ (by simp [State.expireHeld]) (by simp) (by simp) (by simp)
        · exact ⟨bare.1, by simp [Record.dropHeld, Record.raisePending, bare.2]⟩
        · rw [name]
          exact Record.expiryNames_dropHeld_perm (List.mem_of_find?_eq_some held)
      next unheld =>
        refine dropped (only ?_)
        have none := List.find?_eq_none.1 unheld
        rw [Record.expiryNames_eq, List.mem_append, List.mem_map, List.mem_map]
        rintro (⟨o, -, same⟩ | ⟨h, hh, same⟩)
        · simp [ExpiryEntry.name, kind, Record.limitName] at same
        · have := none h hh
          obtain ⟨port, seq⟩ := (named h).1 same.symm
          simp [port, seq] at this

/-! ### A pricing (R131, R133, R151) -/

theorem State.moves_outcomeUpdate (e : WorkEntry) (c : Copies) (k : Reckoning) (s : State) :
    s.Moves (s.outcomeUpdate e c k).2 := by
  have charged : ∀ {r : Record} (k : Reckoning) (b : Bool), s.jt.lookup e.card e.day = some r →
      s.Moves (s.chargeRecord e c k r b).2 := by
    intro r k b found
    refine State.moves_rewrite (JourneyTable.offers_of_lookup found) (Record.becomes_charge k.undiverted e.settles r) rfl rfl
      ?_ ?_ ?_ ?_ <;> cases b <;> simp [State.chargeRecord]
  unfold State.outcomeUpdate
  split
  next => exact (State.Moves.refl s).same (State.ledger_eq (by simp [State.chargeGone]) (by simp [State.chargeGone])
      (by simp [State.chargeGone]) (by simp [State.chargeGone]))
  next r found =>
    dsimp only
    split
    · exact charged _ false found
    · split
      · exact State.moves_rewrite (JourneyTable.offers_of_lookup found) (.refl r) rfl rfl (by simp [State.divert])
          (by simp [State.divert]) (by simp [State.divert]) (by simp [State.divert])
      · exact charged _ true found

theorem State.moves_priceEntry (e : WorkEntry) (s : State) : s.Moves (s.priceEntry e) :=
  (s.moves_outcomeUpdate e (s.copiesFor e) (s.reckoningFor e (s.copiesFor e))).same
    (State.ledger_eq (by simp [State.priceEntry]) (by simp [State.priceEntry]) (by simp [State.priceEntry])
      (by simp [State.priceEntry]))

theorem State.moves_createReferralWork (i : Fin 256) (rest : List (Fin 256)) (s : State) :
    s.Moves (s.createReferralWork i rest) := by
  have raised : ∀ (x : RefEntry) (t : State), t.Moves (t.raiseRecord x) := by
    intro x t
    unfold State.raiseRecord
    split
    next r found =>
      exact State.moves_rewrite (JourneyTable.offers_of_lookup found) (Record.becomes_raisePending r) rfl rfl (by simp)
        (by simp) (by simp) (by simp)
    next => exact .refl t
  unfold State.createReferralWork
  dsimp only
  split
  next kind mark _ =>
    have work := (raised (s.rt.entry i)
      { s with rt := { s.rt.setEntry i { s.rt.entry i with work := mark } with ready := rest } }).of_ledger (v := s) rfl
    split
    · exact work.same rfl
    · exact work.same rfl
  next => exact (State.Moves.refl s).same rfl

/-! ### The roll (R164 to R173) -/

theorem State.moves_checkRoll (s : State) : s.Moves s.checkRoll := by
  unfold State.checkRoll
  split
  next finished =>
    simp only [State.rollFinished, Bool.and_eq_true, beq_iff_eq] at finished
    obtain ⟨⟨⟨rolling, -⟩, -⟩, none⟩ := finished
    refine State.moves_one ?_
    have move := Ledger.Move.endRoll (l := s.ledger) rolling none
    have same : s.endRoll.ledger = { s.ledger with roll := .ready, oldDay := .none } := by
      refine State.ledger_eq (s := { s with roll := { s.roll with state := .ready, oldDay := .none } }) (by simp) (by simp)
        ?_ (by simp)
      unfold State.endRoll
      dsimp only
      rw [State.bump_roll, State.makeRollDone_stage]
      split <;> rfl
    rwa [same]
  next => exact .refl s

theorem State.moves_leaveVisit (rest : List Card) (s : State) : s.Moves (s.leaveVisit rest) :=
  State.Moves.of_ledger (State.moves_checkRoll _) rfl

theorem State.moves_sweepCard (c : Card) (rest : List Card) (s : State) : s.Moves (s.sweepCard c rest) := by
  unfold State.sweepCard
  split
  next r old =>
    obtain ⟨d, day, found⟩ := Option.bind_eq_some_iff.1 old
    obtain ⟨rfl, rfl⟩ := JourneyTable.lookup_key found
    split
    next active =>
      split
      · exact (State.moves_closeRecord found active day).trans (State.moves_leaveVisit rest _)
      · exact (State.Moves.refl s).same rfl
    next => exact s.moves_leaveVisit rest
  next => exact s.moves_leaveVisit rest

/-- A record summarised is CLOSING, and is removed (R170). -/
theorem State.moves_summarise {r : Record} (found : s.jt.lookup r.card r.day = some r) (closing : r.status = .closing) :
    s.Moves (s.summarise r) := by
  have removed : s.Moves (State.bump .daySummaries { s.pushBulk (.daySummary (s.summaryOf r)) with
      jt := s.jt.remove r.card r.day, roll := { s.roll with closingCount := s.roll.closingCount - 1 } }) :=
    State.moves_one (Ledger.Move.remove (l := s.ledger) found closing)
  exact removed.trans (State.moves_checkRoll _)

theorem State.startDay_ledger (d : Day) (t : Nat) (s : State) : (s.startDay d t).ledger = { s.ledger with day := d } :=
  State.setLineTime_ledger t { s with clock := { s.clock with day := d } }

theorem State.moves_rollDay (f : DownFrame) (s : State) : s.Moves (rollDayTaken f s) := by
  unfold rollDayTaken
  dsimp only
  split
  next => exact (State.Moves.refl s).same rfl
  next decided =>
    have idle : s.roll.state ≠ .rolling := by
      intro busy
      simp [rollDecision, busy] at decided
    have begun : s.Moves (s.immediateRoll (BitVec.ofNat 16 (fieldAt f.args 0 2)) (fieldAt f.args 2 4)) := by
      refine State.moves_one ?_
      have move := Ledger.Move.startDay (l := s.ledger) (d := BitVec.ofNat 16 (fieldAt f.args 0 2)) idle
      have started := State.startDay_ledger (BitVec.ofNat 16 (fieldAt f.args 0 2)) (fieldAt f.args 2 4)
        { s with tables := s.tables.swapRoles }
      have same : (s.immediateRoll (BitVec.ofNat 16 (fieldAt f.args 0 2)) (fieldAt f.args 2 4)).ledger =
          { s.ledger with roll := .ready, day := BitVec.ofNat 16 (fieldAt f.args 0 2) } :=
        congrArg (fun l : Ledger => { l with roll := .ready }) started
      rwa [same]
    exact begun.same (State.ledger_eq (by simp) (by simp) (by simp) (by simp))
  next decided =>
    have facts : s.roll.state ≠ .rolling ∧ BitVec.ofNat 16 (fieldAt f.args 0 2) = s.clock.day + 1 := by
      unfold rollDecision at decided
      split at decided; · cases decided
      next idle =>
        split at decided; · cases decided
        split at decided; · split at decided <;> cases decided
        split at decided; · cases decided
        next next => exact ⟨idle, not_not.1 next⟩
    obtain ⟨idle, next⟩ := facts
    rw [next]
    have begun : s.Moves (s.acceptRoll (s.clock.day + 1) (fieldAt f.args 2 4)) := by
      refine State.moves_one ?_
      rw [State.acceptRoll, State.startDay_ledger]
      exact Ledger.Move.beginRoll (l := s.ledger) idle
    exact begun.same rfl

/-! ## What every command does to the ledger -/

/-- An outcome is a next state that the ledger's moves lead to. -/
def State.MovesTo (s : State) (o : Host.Outcome State Fault Refusal) : Prop := ∃ u, o = .next u ∧ s.Moves u

theorem State.Moves.next (h : s.Moves u) : s.MovesTo (.next u) := ⟨u, rfl, h⟩

theorem State.movesTo_self (s : State) : s.MovesTo (.next s) := (State.Moves.refl s).next

theorem State.movesTo_same (h : u.ledger = s.ledger) : s.MovesTo (.next u) := ((State.Moves.refl s).same h).next

theorem State.movesTo_ite {p : Prop} [Decidable p] (h : u.ledger = s.ledger) :
    s.MovesTo (if p then .next u else .next s) := by
  split
  · exact State.movesTo_same h
  · exact s.movesTo_self

/-- A good gate frame moves nothing where its taking does not (R30). -/
theorem State.movesTo_onFrame {p : PortId} {c : FrameCase} {act : State → State}
    (h : (act (s.clearRun p)).ledger = s.ledger) : s.MovesTo (.next (s.onFrame p c act)) := by
  refine State.movesTo_same ?_
  cases c with
  | absent => rfl
  | ignored => rfl
  | unexpected => rfl
  | taken => exact h

/-- A frame taken from the line moves what its effect moves. -/
theorem State.movesTo_takeKind {k : DownKind} {g : DownFrame → State → State} (h : ∀ f t, (g f t).ledger = t.ledger) :
    s.MovesTo (answering (s.takeKind k) g s) := by
  unfold answering
  split
  next taken =>
    obtain ⟨rest, -, -, -, rfl⟩ := State.takeKind_some taken
    exact State.movesTo_same (h _ _)
  next => exact s.movesTo_self

theorem State.movesTo_takeCommand {c : CommandCode} {g : DownFrame → State → State} (h : ∀ f (t : State), t.Moves (g f t)) :
    s.MovesTo (answering (s.takeCommand c) g s) := by
  unfold answering
  split
  next taken =>
    obtain ⟨rest, -, -, -, rfl⟩ := State.takeCommand_some taken
    exact ((h _ (s.taking rest)).of_ledger rfl).next
  next => exact s.movesTo_self

theorem State.movesTo_command {c : CommandCode} {g : DownFrame → State → State} (h : ∀ f t, (g f t).ledger = t.ledger) :
    s.MovesTo (answering (s.takeCommand c) g s) :=
  State.movesTo_takeCommand fun f t => (State.Moves.refl t).same (h f t)

end

/-! ### The operations of the gate ports and of the line link -/

@[simp] theorem State.failAttach_ledger (p : PortId) (c : AttachCause) (s : State) : (s.failAttach p c).ledger = s.ledger :=
  State.ledger_eq (by simp) (by simp) (by simp) (by simp)

@[simp] theorem State.raise_ledger (p : PortId) (k : AttnKind) (d : AttnDetail) (s : State) :
    (s.raise p k d).ledger = s.ledger := State.ledger_eq (by simp) (by simp) (by simp) (by simp)

theorem State.advanceRun_ledger (p : PortId) (s : State) : (s.advanceRun p).ledger = s.ledger :=
  State.ledger_eq (by simp) (by simp) (by simp) (by simp)

theorem State.endTap_ledger (p : PortId) (n : BitVec 16) (s : State) : (s.endTap p n).ledger = s.ledger :=
  State.ledger_eq (by simp) (by simp) (by simp) (by simp)

theorem State.completeDetachIfDone_ledger (p : PortId) (s : State) : (s.completeDetachIfDone p).ledger = s.ledger :=
  State.ledger_eq (by simp) (by simp) (by simp) (by simp)

theorem State.decideAnswer_ledger (ticket : BitVec 16) (a : RefAnswer) (s : State) :
    (s.decideAnswer ticket a).2.ledger = s.ledger := by
  unfold State.decideAnswer
  dsimp only
  split
  · rfl
  · split
    · rfl
    · split <;> rfl

theorem State.answerView_ledger (f : DownFrame) (v : ViewSel) (s : State) : (s.answerView f v).ledger = s.ledger := by
  unfold State.answerView
  split <;> rfl

/-! ### The frames taken from the line -/

theorem loadTaken_ledger (f : DownFrame) (s : State) : (loadTaken f s).ledger = s.ledger := by
  unfold loadTaken
  dsimp only
  split <;> rfl

theorem referralAnswerTaken_ledger (f : DownFrame) (s : State) : (referralAnswerTaken f s).ledger = s.ledger := by
  unfold referralAnswerTaken
  split
  · rfl
  · exact s.decideAnswer_ledger _ _

theorem viewTaken_ledger (f : DownFrame) (s : State) : (viewTaken f s).ledger = s.ledger := by
  unfold viewTaken
  split
  · exact State.answerView_ledger f _ _
  · exact s.answerView_ledger f _
  · rfl

theorem portAttachTaken_ledger (f : DownFrame) (s : State) : (portAttachTaken f s).ledger = s.ledger := by
  have begun : ∀ p limit, (s.beginAttach p limit).ledger = s.ledger := fun p limit =>
    State.ledger_eq (by simp) (by simp) (by simp) (by simp)
  unfold portAttachTaken
  dsimp only
  split
  · rfl
  · split
    · rfl
    · split
      · rfl
      · rfl
      · rfl
      · rfl
      · exact begun _ _
      · exact begun _ _

theorem portDetachTaken_ledger (f : DownFrame) (s : State) : (portDetachTaken f s).ledger = s.ledger := by
  unfold portDetachTaken
  split
  · rfl
  · dsimp only
    split
    · exact State.completeDetachIfDone_ledger _ _
    · rfl

theorem setPortOptionsTaken_ledger (f : DownFrame) (s : State) : (setPortOptionsTaken f s).ledger = s.ledger := by
  unfold setPortOptionsTaken
  split
  · exact State.ledger_eq (by simp) (by simp) (by simp) (by simp)
  · rfl

theorem clearAttentionTaken_ledger (f : DownFrame) (s : State) : (clearAttentionTaken f s).ledger = s.ledger := by
  unfold clearAttentionTaken
  split <;> rfl

theorem setTimeTaken_ledger (f : DownFrame) (s : State) : (setTimeTaken f s).ledger = s.ledger := by
  unfold setTimeTaken
  dsimp only
  split
  · rfl
  · exact State.setLineTime_ledger _ s

theorem armTaken_ledger (f : DownFrame) (s : State) : (armTaken f s).ledger = s.ledger := by
  unfold armTaken
  dsimp only
  split <;> rfl

theorem disarmTaken_ledger (f : DownFrame) (s : State) : (disarmTaken f s).ledger = s.ledger := by
  unfold disarmTaken
  split <;> rfl

theorem copyActiveTaken_ledger (f : DownFrame) (s : State) : (copyActiveTaken f s).ledger = s.ledger := by
  unfold copyActiveTaken
  split
  · rfl
  · split <;> rfl

theorem setDispositionTaken_ledger (f : DownFrame) (s : State) : (setDispositionTaken f s).ledger = s.ledger := by
  unfold setDispositionTaken
  split <;> rfl

theorem captureTaken_ledger (f : DownFrame) (s : State) : (captureTaken f s).ledger = s.ledger := by
  unfold captureTaken
  split <;> rfl

/-- An ENGINE_RESET empties table and queue, and no roll is left (R75, R176). -/
theorem State.moves_engineReset (f : DownFrame) (s : State) : s.Moves (engineResetTaken f s) := by
  obtain ⟨state, oldDay, -, -, closing, -, -⟩ := RollSweep.of_unpaused (engineResetTaken_roll f s)
  refine State.moves_one ?_
  have ledger : (engineResetTaken f s).ledger =
      ⟨JourneyTable.reset, [], if s.roll.state = .notReady then .notReady else .ready, none, 0, s.clock.day⟩ := by
    simp only [State.ledger, State.names, engineResetTaken_jt, engineResetTaken_expiry, engineResetTaken_clock, state, oldDay,
      closing]
    rfl
  rw [ledger]
  exact .reset (by split <;> nofun)

/-! ### Every command -/

section
variable (s : State)

theorem State.movesTo_gateCarrierLoss (p : PortId) : s.MovesTo (exec (.gateCarrierLoss p) s) := by
  by_cases carrier : (s.port p).carrier = true
  · rw [exec_gateCarrierLoss carrier]
    have changed : (s.carrierChanged p Port.loseCarrier false).ledger = s.ledger := State.raise_ledger p _ _ _
    refine State.movesTo_same ?_
    split
    · exact (State.ledger_eq (by simp) (by simp) (by simp) (by simp)).trans changed
    · exact changed
  · exact ⟨s, if_neg carrier, .refl s⟩

theorem State.movesTo_gateCarrierReturn (p : PortId) : s.MovesTo (exec (.gateCarrierReturn p) s) := by
  by_cases carrier : (s.port p).carrier = true
  · exact ⟨s, if_pos carrier, .refl s⟩
  · rw [exec_gateCarrierReturn (Bool.eq_false_of_not_eq_true carrier)]
    exact State.movesTo_same (State.raise_ledger p _ _ _)

theorem State.movesTo_attachAck (p : PortId) (b : Bool) (echo : Byte) (first : TapNo) :
    s.MovesTo (execAttachAck p b echo first s) := by
  refine State.movesTo_onFrame ?_
  split
  · split
    · exact State.raise_ledger _ _ _ _
    · exact State.failAttach_ledger _ _ _
  · exact State.failAttach_ledger _ _ _

theorem State.movesTo_badFrame (p : PortId) : s.MovesTo (execBadFrame p s) := by
  have counted : ((s.bump (.port p .badFrames)).advanceRun p).ledger = s.ledger := State.advanceRun_ledger p _
  unfold execBadFrame
  split
  · dsimp only
    split
    · exact State.movesTo_same counted
    · exact State.movesTo_same counted
    · exact State.movesTo_same counted
    · exact State.movesTo_same rfl
  · exact s.movesTo_self

theorem State.movesTo_attachTimeout (p : PortId) : s.MovesTo (execAttachTimeout p s) := by
  unfold execAttachTimeout
  dsimp only
  split
  · exact State.movesTo_ite (State.failAttach_ledger _ _ _)
  · exact s.movesTo_self

theorem State.movesTo_beaconTimeout (p : PortId) : s.MovesTo (execBeaconTimeout p s) := by
  unfold execBeaconTimeout
  dsimp only
  split
  · exact State.movesTo_ite rfl
  · exact s.movesTo_self

theorem State.movesTo_lineTimeAdvance : s.MovesTo (execLineTimeAdvance s) := by
  unfold execLineTimeAdvance
  split
  · exact State.movesTo_same (State.checkOverrun_compareDeadlines_ledger _)
  · exact s.movesTo_self

theorem State.movesTo_lineFrameReceived (bytes : List Byte) : s.MovesTo (execLineFrameReceived bytes s) := by
  unfold execLineFrameReceived
  split
  · split
    · exact State.movesTo_same rfl
    · exact State.movesTo_same rfl
    · exact State.movesTo_same rfl
    · unfold State.receiveGood
      split
      · exact State.movesTo_same rfl
      · exact State.movesTo_same rfl
  · exact s.movesTo_self

theorem State.movesTo_lineCarrierReturn : s.MovesTo (execLineCarrierReturn s) := by
  unfold execLineCarrierReturn
  split
  · exact s.movesTo_self
  · exact State.movesTo_same rfl

theorem State.movesTo_upstreamFrameSent : s.MovesTo (execUpstreamFrameSent s) := by
  unfold execUpstreamFrameSent
  split
  · exact State.movesTo_same rfl
  · exact s.movesTo_self

theorem State.movesTo_unknownCommand : s.MovesTo (execUnknownCommand s) := by
  unfold execUnknownCommand
  split
  next taken =>
    obtain ⟨rest, -, -, -, rfl⟩ := State.takeKind_some taken
    exact State.movesTo_ite rfl
  next => exact s.movesTo_self

theorem State.movesTo_owedPortNotice : s.MovesTo (execOwedPortNotice s) := by
  unfold execOwedPortNotice
  split
  · dsimp only
    split
    · exact State.movesTo_same (State.ledger_eq (by simp) (by simp) (by simp) (by simp))
    · exact State.movesTo_same rfl
  · exact s.movesTo_self

theorem State.movesTo_owedRollDone : s.MovesTo (execOwedRollDone s) := by
  unfold execOwedRollDone
  split
  · exact State.movesTo_ite rfl
  · exact s.movesTo_self

theorem State.takeHead_ledger {s u : State} {p : PortId} {t : Tap} (taken : s.takeHead p = some (t, u)) :
    u.ledger = s.ledger := by
  unfold State.takeHead at taken
  split at taken
  next => cases taken; rfl
  next => cases taken

theorem State.movesTo_tapStep : s.MovesTo (execTapStep s) := by
  unfold execTapStep
  split
  · split
    next t u taken => exact ((State.moves_stepTap t u).of_ledger (State.takeHead_ledger taken).symm).next
    next => exact s.movesTo_self
  · exact s.movesTo_self

theorem State.movesTo_tapNotice : s.MovesTo (execTapNotice s) := by
  unfold execTapNotice
  split
  · exact State.movesTo_ite (State.endTap_ledger _ _ _)
  · exact s.movesTo_self

theorem State.movesTo_slotWaitResume : s.MovesTo (execSlotWaitResume s) := by
  unfold execSlotWaitResume
  split
  · exact State.movesTo_ite (State.ledger_eq (by simp) (by simp) (by simp) (by simp))
  · exact s.movesTo_self

theorem State.movesTo_expiryStep : s.MovesTo (execExpiryStep s) := by
  unfold execExpiryStep
  split
  next e _ first =>
    exact (State.moves_expire (s := s) (u := { s.tookFrom .expiry with expiry := s.expiry.eraseP ExpiryEntry.due })
      (names_eraseP_due first) rfl rfl rfl).next
  next => exact s.movesTo_self

theorem State.movesTo_chainVisit : s.MovesTo (execChainVisit s) := by
  unfold execChainVisit
  split
  · exact (State.Moves.of_ledger (State.moves_checkRoll _) rfl).next
  · exact s.movesTo_self

theorem State.movesTo_sweepItem : s.MovesTo (execSweepItem s) := by
  unfold execSweepItem
  split
  next c rest _ _ =>
    have swept := State.moves_sweepCard c rest (s.tookFrom .sweep)
    exact (swept.of_ledger (v := s) rfl).next
  next => exact s.movesTo_self

theorem State.granted_ledger (pool : WorkPool) (b : Bool) (s : State) :
    (if b then State.bump .agingGrants { s with pool := pool } else { s with pool := pool }).ledger = s.ledger := by
  cases b
  · exact State.ledger_eq rfl rfl rfl rfl
  · exact State.ledger_eq rfl rfl rfl rfl

theorem State.movesTo_grant : s.MovesTo (execGrant s) := by
  unfold execGrant
  split
  next e isAging pool _ _ =>
    exact ((State.moves_priceEntry e _).of_ledger (s.granted_ledger pool isAging).symm).next
  next => exact s.movesTo_self

theorem State.movesTo_stallResume : s.MovesTo (execStallResume s) := by
  unfold execStallResume
  split
  · exact State.movesTo_ite (State.ledger_eq (by simp) (by simp) (by simp) (by simp))
  · exact s.movesTo_self

theorem State.movesTo_referralWork : s.MovesTo (execReferralWork s) := by
  unfold execReferralWork
  split
  · split
    · exact (State.moves_createReferralWork _ _ s).next
    · exact s.movesTo_self
  · exact s.movesTo_self

theorem State.movesTo_daySummary : s.MovesTo (execDaySummary s) := by
  unfold execDaySummary
  split
  next c d rest _ =>
    split
    · dsimp only
      split
      next r found =>
        split
        next ready =>
          obtain ⟨rfl, rfl⟩ := JourneyTable.lookup_key found
          have summarised := State.moves_summarise (s := { s with roll := { s.roll with summary := rest } }) found ready.1
          exact (summarised.of_ledger rfl).next
        next => exact State.movesTo_same rfl
      next => exact State.movesTo_same rfl
    · exact s.movesTo_self
  next => exact s.movesTo_self

end

/-- Every command moves the ledger by the moves of `Ledger.Move` alone. -/
theorem exec_movesTo (c : Instr) (s : State) : s.MovesTo (exec c s) := by
  cases c
  case powerOnReset => exact (State.moves_one (.reset (roll := .notReady) (d := 0) nofun)).next
  case gateCarrierLoss p => exact s.movesTo_gateCarrierLoss p
  case gateCarrierReturn p => exact s.movesTo_gateCarrierReturn p
  case tap p f => exact State.movesTo_onFrame (State.ledger_eq (by simp) (by simp) (by simp) (by simp))
  case beacon p n d => exact State.movesTo_onFrame (State.ledger_eq (by simp) (by simp) (by simp) (by simp))
  case hubState p alarm code =>
    cases alarm
    · exact State.movesTo_onFrame rfl
    · exact State.movesTo_onFrame (State.raise_ledger _ _ _ _)
  case attachAck p b echo first => exact s.movesTo_attachAck p b echo first
  case badFrame p => exact s.movesTo_badFrame p
  case gateFrameSent p => exact State.movesTo_ite rfl
  case attachTimeout p => exact s.movesTo_attachTimeout p
  case beaconTimeout p => exact s.movesTo_beaconTimeout p
  case lineTimeAdvance => exact s.movesTo_lineTimeAdvance
  case expiryDue => exact State.movesTo_same (State.ledger_congr rfl (markFirstDue_names s _) rfl rfl)
  case referralDue slot => exact State.movesTo_ite rfl
  case lineFrameReceived bytes => exact s.movesTo_lineFrameReceived bytes
  case lineCarrierLoss => exact State.movesTo_ite rfl
  case lineCarrierReturn => exact s.movesTo_lineCarrierReturn
  case upstreamFrameSent => exact s.movesTo_upstreamFrameSent
  case load => exact State.movesTo_takeKind loadTaken_ledger
  case referralAnswer => exact State.movesTo_takeKind referralAnswerTaken_ledger
  case view => exact State.movesTo_takeKind viewTaken_ledger
  case portAttach => exact State.movesTo_command portAttachTaken_ledger
  case portDetach => exact State.movesTo_command portDetachTaken_ledger
  case setPortOptions => exact State.movesTo_command setPortOptionsTaken_ledger
  case clearAttention => exact State.movesTo_command clearAttentionTaken_ledger
  case setTime => exact State.movesTo_command setTimeTaken_ledger
  case rollDay => exact State.movesTo_takeCommand State.moves_rollDay
  case arm => exact State.movesTo_command armTaken_ledger
  case disarm => exact State.movesTo_command disarmTaken_ledger
  case copyActive => exact State.movesTo_command copyActiveTaken_ledger
  case copyRow => exact State.movesTo_same rfl
  case copyComplete => exact State.movesTo_ite (State.ledger_eq (by simp) (by simp) (by simp) (by simp))
  case setDisposition => exact State.movesTo_command setDispositionTaken_ledger
  case captureCounters => exact State.movesTo_command captureTaken_ledger
  case engineReset => exact State.movesTo_takeCommand State.moves_engineReset
  case unknownCommand => exact s.movesTo_unknownCommand
  case tapStep => exact s.movesTo_tapStep
  case tapNotice => exact s.movesTo_tapNotice
  case expiryStep => exact s.movesTo_expiryStep
  case chainVisit => exact s.movesTo_chainVisit
  case sweepItem => exact s.movesTo_sweepItem
  case slotWaitResume => exact s.movesTo_slotWaitResume
  case grant => exact s.movesTo_grant
  case stallResume => exact s.movesTo_stallResume
  case referralWork => exact s.movesTo_referralWork
  case daySummary => exact s.movesTo_daySummary
  case owedPortNotice => exact s.movesTo_owedPortNotice
  case owedDayOverrun => exact State.movesTo_ite rfl
  case owedRollDone => exact s.movesTo_owedRollDone

/-- So does a step, which runs a command or idles. -/
theorem step_moves {s u : State} (h : step s = .next u) : s.Moves u := by
  unfold step at h
  split at h
  next => cases h; exact .refl s
  next c rest _ =>
    obtain ⟨v, completes, moves⟩ := exec_movesTo c { s with pending := rest }
    obtain rfl : v = u := by simpa [completes] using h
    exact moves.of_ledger rfl

end Sys2Proof.Machine
end

section
/-! PROOFS. What every step keeps of the journey table: its form (R55 to R60), the ranges of its records (R64 to R70), the CLOSING
records (R69, R163) and the expiry entries (R93). -/

namespace Sys2Proof.Machine

open Sys2Proof

/-! ## A predicate on every record, in any table -/

/-- Every record of a bucket satisfies a predicate. -/
def Bucket.Satisfies (P : Record → Prop) (b : Bucket) : Prop := ∀ i : Fin 4, ∀ r, b.slots[i] = some r → P r

/-- Every record of a table satisfies a predicate. -/
def JourneyTable.Satisfies (P : Record → Prop) (jt : JourneyTable) : Prop := BucketsSatisfy P jt.home ∧ BucketsSatisfy P jt.exts

section
variable {P : Record → Prop} {jt u : JourneyTable} {c : Card} {d : Day} {r : Record}

theorem Bucket.satisfies_empty : Bucket.empty.Satisfies P := fun i r h => by simp [Bucket.empty] at h

theorem Bucket.Satisfies.set {b : Bucket} (h : b.Satisfies P) (i : Fin 4) {v : Option Record} (new : ∀ r, v = some r → P r) :
    Bucket.Satisfies P { b with slots := b.slots.set i v } := by
  intro j r held
  simp only [Fin.getElem_fin, Vector.getElem_set] at held
  split at held
  · exact new r held
  · exact h j r held

theorem BucketsSatisfy.get {l : List (Nat × Bucket)} (h : BucketsSatisfy P l) (k : Nat) : (bucketGet k l).Satisfies P := by
  rcases bucketGet_eq_empty_or_mem k l with empty | listed
  · rw [empty]; exact Bucket.satisfies_empty
  · exact h _ listed

theorem BucketsSatisfy.set {l : List (Nat × Bucket)} (h : BucketsSatisfy P l) (k : Nat) {b : Bucket} (new : b.Satisfies P) :
    BucketsSatisfy P (bucketSet k b l) := by
  intro e mem
  rcases bucketSet_mem mem with rfl | old
  · exact new
  · exact h e old

theorem JourneyTable.Satisfies.bucket (h : jt.Satisfies P) (b : BucketRef) : (jt.bucket b).Satisfies P := by
  obtain ⟨home, exts⟩ := h
  cases b with
  | home n => exact home.get n
  | ext n => exact exts.get n

theorem JourneyTable.Satisfies.setBucket (h : jt.Satisfies P) (b : BucketRef) {x : Bucket} (new : x.Satisfies P) :
    (jt.setBucket b x).Satisfies P := by
  obtain ⟨home, exts⟩ := h
  cases b with
  | home n => exact ⟨home.set n new, exts⟩
  | ext n => exact ⟨home, exts.set n new⟩

theorem JourneyTable.Satisfies.setSlot (h : jt.Satisfies P) (p : SlotRef) {v : Option Record} (new : ∀ r, v = some r → P r) :
    (jt.setSlot p v).Satisfies P := h.setBucket p.1 ((h.bucket p.1).set p.2 new)

theorem JourneyTable.Satisfies.setExt (h : jt.Satisfies P) (b : BucketRef) (q : Option Nat) :
    (jt.setBucket b { jt.bucket b with ext := q }).Satisfies P := h.setBucket b fun i r held => h.bucket b i r held

theorem JourneyTable.Satisfies.lookup (h : jt.Satisfies P) (held : jt.lookup c d = some r) : P r := by
  obtain ⟨p, -, slot⟩ := JourneyTable.findSlot_of_lookup held
  exact h.bucket p.1 p.2 r slot

theorem JourneyTable.Satisfies.write (h : jt.Satisfies P) (new : P r) : (jt.write r).Satisfies P := by
  unfold JourneyTable.write
  split
  · exact h.setSlot _ fun _ same => Option.some.inj same ▸ new
  · exact h

theorem JourneyTable.Satisfies.linkExtension (h : jt.Satisfies P) (i n : Nat) (rest : List Nat) (new : P r) :
    (jt.linkExtension i n rest r).Satisfies P :=
  (h.setExt (jt.lastBucket i) (some n)).setBucket (.ext n)
    (Bucket.satisfies_empty.set 0 fun _ same => Option.some.inj same ▸ new)

theorem JourneyTable.Satisfies.insert (h : jt.Satisfies P) (inserted : jt.insert c d = .inserted u r) (new : P r) :
    u.Satisfies P := by
  obtain ⟨-, ⟨p, -, -, rfl⟩ | ⟨n, rest, -, -, rfl⟩⟩ := JourneyTable.insert_cases inserted
  · exact h.setSlot p fun _ same => Option.some.inj same ▸ new
  · exact h.linkExtension _ n rest new

theorem JourneyTable.Satisfies.unlink (h : jt.Satisfies P) (i n : Nat) : (jt.unlink i n).Satisfies P := by
  unfold JourneyTable.unlink
  split
  next before _ => exact (h.setExt before _).setBucket (.ext n) Bucket.satisfies_empty
  next => exact h

theorem JourneyTable.Satisfies.remove (h : jt.Satisfies P) (c : Card) (d : Day) : (jt.remove c d).Satisfies P := by
  have freed : ∀ p, (jt.freed p).Satisfies P := fun p => h.setSlot p nofun
  unfold JourneyTable.remove
  split
  next p _ =>
    dsimp only
    split
    · split
      · exact (freed p).unlink _ _
      · exact freed p
    · exact freed p
  next => exact h

theorem JourneyTable.satisfies_reset : JourneyTable.reset.Satisfies P := ⟨nofun, nofun⟩

/-! ### A record offered (R60) -/

theorem JourneyTable.Offers.satisfies (offers : jt.Offers u r) (h : jt.Satisfies Record.InRange) :
    u.Satisfies Record.InRange ∧ r.InRange := by
  rcases offers with ⟨rfl, held⟩ | ⟨-, fresh, inserted⟩
  · exact ⟨h, h.lookup held⟩
  · have range : r.InRange := fresh ▸ Record.inRange_fresh _ _
    exact ⟨h.insert inserted range, range⟩

theorem JourneyTable.Offers.wf (offers : jt.Offers u r) (wf : jt.wf = true) : u.wf = true := by
  rcases offers with ⟨rfl, -⟩ | ⟨absent, -, inserted⟩
  · exact wf
  · exact JourneyTable.findOrInsert_wf wf ((JourneyTable.findOrInsert_of_absent absent).trans inserted)

theorem JourneyTable.Offers.sound (offers : jt.Offers u r) (wf : jt.wf = true) (sound : jt.Sound) :
    u.Sound ∧ u.lookup r.card r.day = some r := by
  rcases offers with ⟨rfl, held⟩ | ⟨absent, -, inserted⟩
  · exact ⟨sound, held⟩
  · obtain ⟨sound', -, lookup⟩ := sound.insert wf absent inserted
    exact ⟨sound', (lookup _ _).trans (if_pos rfl)⟩

/-- The records are the same, or a fresh one has joined them. -/
theorem JourneyTable.Offers.all_perm (offers : jt.Offers u r) (wf : jt.wf = true) (sound : jt.Sound) :
    u.all = jt.all ∨ r = Record.fresh r.card r.day ∧ u.all.Perm (jt.all ++ [r]) := by
  rcases offers with ⟨rfl, -⟩ | ⟨absent, fresh, inserted⟩
  · exact .inl rfl
  · exact .inr ⟨fresh, (sound.insert wf absent inserted).2.1⟩

end

/-! ## The record ranges, the form and the structure along the moves -/

section
variable {l m : Ledger}

theorem Ledger.Move.inRange (move : l.Move m) (h : l.jt.Satisfies Record.InRange) : m.jt.Satisfies Record.InRange := by
  cases move with
  | write offers becomes =>
    obtain ⟨offered, range⟩ := offers.satisfies h
    exact offered.write (becomes.inRange range)
  | close found => exact h.write (Record.inRange_closed (h.lookup found))
  | remove => exact h.remove _ _
  | reset => exact JourneyTable.satisfies_reset
  | drop => exact h
  | endRoll => exact h
  | beginRoll => exact h
  | startDay => exact h

theorem Ledger.Moves.inRange (moves : l.Moves m) (h : l.jt.Satisfies Record.InRange) : m.jt.Satisfies Record.InRange := by
  induction moves with
  | refl => exact h
  | tail _ move ih => exact move.inRange ih

theorem Ledger.Move.wf (move : l.Move m) (wf : l.jt.wf = true) : m.jt.wf = true := by
  cases move with
  | write offers => exact JourneyTable.write_wf (offers.wf wf) _
  | close => exact JourneyTable.write_wf wf _
  | remove => exact JourneyTable.remove_wf wf _ _
  | reset => exact JourneyTable.reset_wf
  | drop => exact wf
  | endRoll => exact wf
  | beginRoll => exact wf
  | startDay => exact wf

theorem Ledger.Moves.wf (moves : l.Moves m) (wf : l.jt.wf = true) : m.jt.wf = true := by
  induction moves with
  | refl => exact wf
  | tail _ move ih => exact move.wf ih

theorem Ledger.Move.sound (move : l.Move m) (wf : l.jt.wf = true) (sound : l.jt.Sound) : m.jt.Sound := by
  cases move with
  | write offers => exact (offers.sound wf sound).1.write (offers.wf wf) _
  | close => exact sound.write wf _
  | remove => exact sound.remove wf _ _
  | reset => exact JourneyTable.reset_sound
  | drop => exact sound
  | endRoll => exact sound
  | beginRoll => exact sound
  | startDay => exact sound

theorem Ledger.Moves.sound (moves : l.Moves m) (wf : l.jt.wf = true) (sound : l.jt.Sound) : m.jt.Sound := by
  induction moves with
  | refl => exact sound
  | tail before move ih => exact move.sound (Ledger.Moves.wf before wf) ih

end

/-- Settles O8: every move of the ledger keeps the canonical form, and in it the structure. -/
theorem tableFormKept : Obligations.TableFormKept := by
  unfold Obligations.TableFormKept
  constructor
  · intro s u wf h
    exact (step_moves h).wf wf
  · intro s u wf sound h
    exact (step_moves h).sound wf sound

/-! ## CLOSING records (R69, R163) -/

/-- `State.ClosingLaw`, on the ledger. -/
structure Ledger.ClosingLaw (l : Ledger) : Prop where
  bare : ∀ r ∈ l.jt.all, r.status = .closing → r.Bare
  oldDay : ∀ r ∈ l.jt.all, r.status = .closing → l.roll = .rolling ∧ l.oldDay = some r.day
  counted : l.closing = l.jt.all.countP fun r => r.status == .closing
  days : l.roll = .rolling → ∃ d : Day, l.oldDay = some d ∧ l.day = d + 1
  ended : l.roll ≠ .rolling → l.oldDay = none

theorem State.closingLaw_iff (s : State) : s.ClosingLaw ↔ s.ledger.ClosingLaw := by
  constructor
  · rintro ⟨bare, oldDay, counted, days, ended⟩
    exact ⟨bare, oldDay, counted.trans List.countP_eq_length_filter.symm, days, ended⟩
  · rintro ⟨bare, oldDay, counted, days, ended⟩
    exact ⟨bare, oldDay, counted.trans List.countP_eq_length_filter, days, ended⟩

/-- A service day is not the day after it. -/
theorem Day.ne_succ (d : Day) : d ≠ d + 1 := fun same => absurd (left_eq_add.1 same) (by decide)

section
variable {l m : Ledger} {jt u : JourneyTable} {r old new x : Record}

theorem JourneyTable.mem_all_write (wf : jt.wf = true) (held : jt.lookup new.card new.day = some old)
    (mem : x ∈ (jt.write new).all) : x ∈ jt.all ∨ x = new := by
  have mem := (JourneyTable.all_write_perm wf held).subset (List.mem_append_left [old] mem)
  simpa using mem

/-- Where there is an old day, a roll is in progress. -/
theorem Ledger.ClosingLaw.rolling_of_oldDay (law : l.ClosingLaw) {d : Day} (old : l.oldDay = some d) : l.roll = .rolling := by
  by_contra idle
  rw [law.ended idle] at old
  cases old

/-- Outside a roll no record is CLOSING. -/
theorem Ledger.ClosingLaw.not_closing (law : l.ClosingLaw) (idle : l.roll ≠ .rolling) (mem : x ∈ l.jt.all) :
    x.status ≠ .closing := fun closing => idle (law.oldDay x mem closing).1

theorem Ledger.ClosingLaw.offered (law : l.ClosingLaw) (offers : l.jt.Offers u r) (wf : l.jt.wf = true) (sound : l.jt.Sound) :
    Ledger.ClosingLaw { l with jt := u } := by
  rcases offers.all_perm wf sound with same | ⟨fresh, perm⟩
  · obtain ⟨bare, oldDay, counted, days, ended⟩ := law
    rw [← same] at bare oldDay counted
    exact ⟨bare, oldDay, counted, days, ended⟩
  · have active : r.status = .active := by rw [fresh]; rfl
    have held : ∀ x ∈ u.all, x.status = .closing → x ∈ l.jt.all := by
      intro x mem closing
      rcases List.mem_append.1 (perm.subset mem) with mem | new
      · exact mem
      · rw [List.mem_singleton.1 new, active] at closing; cases closing
    refine ⟨fun x mem closing => law.bare x (held x mem closing) closing,
      fun x mem closing => law.oldDay x (held x mem closing) closing, ?_, law.days, law.ended⟩
    calc l.closing = l.jt.all.countP fun r => r.status == .closing := law.counted
      _ = (l.jt.all ++ [r]).countP fun r => r.status == .closing := by simp [active]
      _ = u.all.countP fun r => r.status == .closing := (perm.countP_eq _).symm

/-- A record written that keeps its status, and stays bare where it is CLOSING. -/
theorem Ledger.ClosingLaw.write (law : l.ClosingLaw) (wf : l.jt.wf = true) (sound : l.jt.Sound)
    (held : l.jt.lookup old.card old.day = some old) (becomes : old.Becomes new)
    (parts : old.day = l.day ∨ old.status = .active ∨ (old.Bare → new.Bare)) (names : List (Card × Day × ExpiryKind)) :
    Ledger.ClosingLaw { l with jt := l.jt.write new, names := names } := by
  obtain ⟨mem, -, -⟩ := (sound.lookup_iff wf).1 held
  rw [← becomes.card, ← becomes.day] at held
  have bare : new.status = .closing → new.Bare := by
    intro closing
    rw [becomes.status] at closing
    obtain ⟨rolling, oldDay⟩ := law.oldDay old mem closing
    rcases parts with today | active | parts
    · obtain ⟨d, isOld, isDay⟩ := law.days rolling
      rw [isOld] at oldDay
      rw [isDay, ← Option.some.inj oldDay] at today
      exact absurd today (Day.ne_succ d)
    · rw [active] at closing; cases closing
    · exact parts (law.bare old mem closing)
  refine ⟨fun x hx closing => ?_, fun x hx closing => ?_, ?_, law.days, law.ended⟩
  · rcases JourneyTable.mem_all_write wf held hx with hx | rfl
    · exact law.bare x hx closing
    · exact bare closing
  · rcases JourneyTable.mem_all_write wf held hx with hx | rfl
    · exact law.oldDay x hx closing
    · rw [becomes.day]; exact law.oldDay old mem (becomes.status ▸ closing)
  · have count := (JourneyTable.all_write_perm wf held).countP_eq fun r => r.status == .closing
    simp only [List.countP_append, List.countP_singleton, becomes.status, Nat.add_right_cancel_iff] at count
    exact law.counted.trans count.symm

theorem Ledger.ClosingLaw.close (law : l.ClosingLaw) (wf : l.jt.wf = true) (found : l.jt.lookup r.card r.day = some r)
    (active : r.status = .active) (oldDay : l.oldDay = some r.day) (names : List (Card × Day × ExpiryKind)) :
    Ledger.ClosingLaw { l with jt := l.jt.write r.closed, names := names, closing := l.closing + 1 } := by
  have held : l.jt.lookup r.closed.card r.closed.day = some r := found
  refine ⟨fun x hx closing => ?_, fun x hx closing => ?_, ?_, law.days, law.ended⟩
  · rcases JourneyTable.mem_all_write wf held hx with hx | rfl
    · exact law.bare x hx closing
    · exact ⟨rfl, rfl⟩
  · rcases JourneyTable.mem_all_write wf held hx with hx | rfl
    · exact law.oldDay x hx closing
    · exact ⟨law.rolling_of_oldDay oldDay, oldDay⟩
  · have count := (JourneyTable.all_write_perm wf held).countP_eq fun r => r.status == .closing
    have closing : r.closed.status = .closing := rfl
    simp [active, closing] at count
    rw [count, ← law.counted]

theorem Ledger.ClosingLaw.remove (law : l.ClosingLaw) (wf : l.jt.wf = true) (sound : l.jt.Sound)
    (found : l.jt.lookup r.card r.day = some r) (closing : r.status = .closing) :
    Ledger.ClosingLaw { l with jt := l.jt.remove r.card r.day, closing := l.closing - 1 } := by
  obtain ⟨p, slot, held⟩ := JourneyTable.findSlot_of_lookup found
  have perm := sound.all_remove_perm wf slot held
  have stays : ∀ x ∈ (l.jt.remove r.card r.day).all, x ∈ l.jt.all := fun x mem => perm.subset (List.mem_append_left _ mem)
  refine ⟨fun x mem => law.bare x (stays x mem), fun x mem => law.oldDay x (stays x mem), ?_, law.days, law.ended⟩
  have count := perm.countP_eq fun r => r.status == .closing
  simp [closing] at count
  rw [law.counted, ← count, Nat.add_sub_cancel]

/-- The roll's stage and the day changed, with the table as it is and no CLOSING record left. -/
theorem Ledger.ClosingLaw.restage {roll : LineState} {oldDay : Option Day} {d : Day} (names : List (Card × Day × ExpiryKind))
    (none : ∀ r ∈ jt.all, r.status ≠ .closing)
    (days : roll = .rolling → ∃ e : Day, oldDay = some e ∧ d = e + 1) (ended : roll ≠ .rolling → oldDay = Option.none) :
    Ledger.ClosingLaw ⟨jt, names, roll, oldDay, 0, d⟩ := by
  refine ⟨fun r mem closing => absurd closing (none r mem), fun r mem closing => absurd closing (none r mem), ?_, days, ended⟩
  symm
  simpa [List.countP_eq_zero] using none

/-- With a closing-record count of 0 no record is CLOSING. -/
theorem Ledger.ClosingLaw.none_closing (law : l.ClosingLaw) (none : l.closing = 0) : ∀ r ∈ l.jt.all, r.status ≠ .closing := by
  have count := law.counted.symm.trans none
  simpa [List.countP_eq_zero] using count

/-- Outside a roll the closing-record count is 0. -/
theorem Ledger.ClosingLaw.counted_idle (law : l.ClosingLaw) (idle : l.roll ≠ .rolling) : l.closing = 0 := by
  rw [law.counted, List.countP_eq_zero]
  intro r mem closing
  exact law.not_closing idle mem (by simpa using closing)

theorem Ledger.Move.closingLaw (move : l.Move m) (wf : l.jt.wf = true) (sound : l.jt.Sound) (law : l.ClosingLaw) :
    m.ClosingLaw := by
  cases move with
  | write offers becomes parts =>
    obtain ⟨sound', held⟩ := offers.sound wf sound
    exact (law.offered offers wf sound).write (offers.wf wf) sound' held becomes parts _
  | drop => exact ⟨law.bare, law.oldDay, law.counted, law.days, law.ended⟩
  | close found active old => exact law.close wf found active old _
  | remove found closing => exact law.remove wf sound found closing
  | endRoll rolling none => exact none ▸ Ledger.ClosingLaw.restage _ (law.none_closing none) nofun fun _ => rfl
  | beginRoll idle => exact .restage _ (fun _ => law.not_closing idle) (fun _ => ⟨_, rfl, rfl⟩) fun h => absurd rfl h
  | startDay idle =>
    have none := law.counted_idle idle
    have noOld := law.ended idle
    exact none ▸ noOld ▸ Ledger.ClosingLaw.restage _ (law.none_closing none) nofun fun _ => rfl
  | reset idle => exact .restage _ nofun (fun rolling => absurd rolling idle) fun _ => rfl

/-! ## The expiry entries (R93) -/

/-- `State.ExpiryLaw`, on the ledger. -/
def Ledger.ExpiryLaw (l : Ledger) : Prop := l.names.Perm (l.jt.all.flatMap Record.expiryNames)

theorem State.expiryLaw_iff (s : State) : s.ExpiryLaw ↔ s.ledger.ExpiryLaw := Iff.rfl

/-- Every part of a record in the table has its entry. -/
theorem Ledger.ExpiryLaw.entries (law : l.ExpiryLaw) (mem : r ∈ l.jt.all) : r.expiryNames.Subperm l.names := by
  have sub := (List.singleton_sublist.2 mem).flatMap Record.expiryNames
  rw [List.flatMap_singleton] at sub
  exact sub.subperm.trans law.symm.subperm

theorem Ledger.ExpiryLaw.offered (law : l.ExpiryLaw) (offers : l.jt.Offers u r) (wf : l.jt.wf = true) (sound : l.jt.Sound) :
    Ledger.ExpiryLaw { l with jt := u } := by
  rcases offers.all_perm wf sound with same | ⟨fresh, perm⟩
  · unfold Ledger.ExpiryLaw
    rw [same]
    exact law
  · have bare : r.expiryNames = [] := by rw [fresh]; rfl
    have names := perm.flatMap_right Record.expiryNames
    rw [List.flatMap_append, List.flatMap_singleton, bare, List.append_nil] at names
    exact law.trans names.symm

/-- A record written, where the queue changes as its names do. -/
theorem Ledger.ExpiryLaw.write (law : l.ExpiryLaw) (wf : l.jt.wf = true) (sound : l.jt.Sound)
    (held : l.jt.lookup new.card new.day = some old) {names : List (Card × Day × ExpiryKind)}
    (exchange : old.expiryNames.Subperm l.names → Exchanged l.names old.expiryNames names new.expiryNames) :
    names.Perm ((l.jt.write new).all.flatMap Record.expiryNames) := by
  obtain ⟨mem, -, -⟩ := (sound.lookup_iff wf).1 held
  have table := (JourneyTable.all_write_perm wf held).flatMap_right Record.expiryNames
  simp only [List.flatMap_append, List.flatMap_singleton] at table
  refine (List.perm_append_right_iff old.expiryNames).1 ?_
  calc (names ++ old.expiryNames).Perm (l.names ++ new.expiryNames) := exchange (law.entries mem)
    _ |>.Perm (l.jt.all.flatMap Record.expiryNames ++ new.expiryNames) := law.append_right _
    _ |>.Perm ((l.jt.write new).all.flatMap Record.expiryNames ++ old.expiryNames) := table.symm

/-- An entry that the law knows answers a part of the record that it names. -/
theorem Ledger.ExpiryLaw.answered (law : l.ExpiryLaw) (sound : l.jt.Sound) {name : Card × Day × ExpiryKind}
    (mem : name ∈ l.names) : ∃ r, l.jt.lookup name.1 name.2.1 = some r ∧ name ∈ r.expiryNames := by
  obtain ⟨r, held, isPart⟩ := List.mem_flatMap.1 (law.subset mem)
  have found := sound.found r held
  rw [Record.expiryNames_eq, List.mem_append, List.mem_map, List.mem_map] at isPart
  obtain ⟨card, day⟩ : name.1 = r.card ∧ name.2.1 = r.day := by
    rcases isPart with ⟨_, -, rfl⟩ | ⟨_, -, rfl⟩
    · exact ⟨rfl, rfl⟩
    · exact ⟨rfl, rfl⟩
  rw [← card, ← day] at found
  exact ⟨r, found, by rwa [Record.expiryNames_eq, List.mem_append, List.mem_map, List.mem_map]⟩

theorem Ledger.ExpiryLaw.remove (law : l.ExpiryLaw) (wf : l.jt.wf = true) (sound : l.jt.Sound)
    (found : l.jt.lookup r.card r.day = some r) (bare : r.Bare) :
    l.names.Perm ((l.jt.remove r.card r.day).all.flatMap Record.expiryNames) := by
  obtain ⟨p, slot, held⟩ := JourneyTable.findSlot_of_lookup found
  have table := (sound.all_remove_perm wf slot held).flatMap_right Record.expiryNames
  rw [List.flatMap_append, List.flatMap_singleton, Record.expiryNames_of_bare bare, List.append_nil] at table
  exact law.trans table.symm

theorem Ledger.Move.expiryLaw (move : l.Move m) (wf : l.jt.wf = true) (sound : l.jt.Sound) (closingLaw : l.ClosingLaw)
    (law : l.ExpiryLaw) : m.ExpiryLaw := by
  cases move with
  | write offers becomes _ entries =>
    obtain ⟨sound', held⟩ := offers.sound wf sound
    rw [← becomes.card, ← becomes.day] at held
    exact (law.offered offers wf sound).write (offers.wf wf) sound' held entries
  | drop left stray =>
    obtain ⟨r, found, isPart⟩ := law.answered sound (left.symm.subset (List.mem_cons_self ..))
    exact absurd isPart (stray r found)
  | @close r names found _ _ entries =>
    have names_closed : r.closed.expiryNames = [] := rfl
    refine law.write wf sound (new := r.closed) found fun here => ?_
    rw [Exchanged, names_closed, List.append_nil]
    exact entries here
  | remove found closing =>
    obtain ⟨mem, -, -⟩ := (sound.lookup_iff wf).1 found
    exact law.remove wf sound found (closingLaw.bare _ mem closing)
  | endRoll => exact law
  | beginRoll => exact law
  | startDay => exact law
  | reset => exact .nil

/-! ## The laws along the moves -/

theorem Ledger.Moves.closingLaw (moves : l.Moves m) (wf : l.jt.wf = true) (sound : l.jt.Sound) (law : l.ClosingLaw) :
    m.ClosingLaw := by
  induction moves with
  | refl => exact law
  | tail before move ih => exact move.closingLaw (Ledger.Moves.wf before wf) (Ledger.Moves.sound before wf sound) ih

theorem Ledger.Moves.expiryLaw (moves : l.Moves m) (wf : l.jt.wf = true) (sound : l.jt.Sound) (closingLaw : l.ClosingLaw)
    (law : l.ExpiryLaw) : m.ExpiryLaw := by
  induction moves with
  | refl => exact law
  | tail before move ih =>
    exact move.expiryLaw (Ledger.Moves.wf before wf) (Ledger.Moves.sound before wf sound)
      (Ledger.Moves.closingLaw before wf sound closingLaw) ih

end

/-- Settles O10: every move of the ledger keeps the ranges, and in a sound table the laws of the CLOSING records and of the
expiry entries. -/
theorem recordsStayInRange : Obligations.RecordsStayInRange := by
  unfold Obligations.RecordsStayInRange
  refine ⟨?_, ?_, ?_⟩
  · intro s u range h
    exact (step_moves h).inRange range
  · intro s u wf sound closingLaw h
    exact u.closingLaw_iff.2 ((step_moves h).closingLaw wf sound (s.closingLaw_iff.1 closingLaw))
  · intro s u wf sound closingLaw expiryLaw h
    have law := (step_moves h).expiryLaw wf sound (s.closingLaw_iff.1 closingLaw) (s.expiryLaw_iff.1 expiryLaw)
    exact u.expiryLaw_iff.2 law

end Sys2Proof.Machine
end

section
/-! PROOFS. The Pairing Unit's rules: its sources and their turns, the waiting notice and the waiting work entry (R76, R77, R81,
R106). -/

namespace Sys2Proof.Machine

open Sys2Proof

section
variable {s : State} {p : PortId} {t : Tap} {rest : List Tap}

/-! ## The sources in turn (R77) -/

/-- A search for a member: the member satisfies the test, and none before its first place does. -/
theorem find?_eq_some_iff_of_mem {α : Type} [DecidableEq α] {f : α → Bool} {v : α} {l : List α} (mem : v ∈ l) :
    l.find? f = some v ↔ f v = true ∧ ∀ x ∈ l.takeWhile (fun y => y != v), f x = false := by
  induction l with
  | nil => cases mem
  | cons a l ih =>
    by_cases here : a = v
    · subst here
      cases test : f a
      · have := @List.find?_some _ f a l
        simp only [List.find?_cons, test]
        exact ⟨fun found => absurd (this found) (by simp [test]), fun h => nomatch h.1⟩
      · simp [test]
    · have mem : v ∈ l := (List.mem_cons.1 mem).resolve_left (Ne.symm here)
      cases test : f a
      · simp [test, here, ih mem]
      · simp [test, here]

theorem PuSource.mem_cycle (v w : PuSource) : w ∈ v.cycle := by cases v <;> cases w <;> decide

theorem State.nextSource_idle (idle : s.pu.item = none) (v : PuSource) : s.nextSource = some v ↔
    s.takeable v = true ∧ ∀ x ∈ s.pu.source.cycle.takeWhile (fun y => y != v), s.takeable x = false := by
  rw [State.nextSource, idle]
  exact find?_eq_some_iff_of_mem (PuSource.mem_cycle _ _)

theorem State.nextSource_busy (busy : s.pu.item ≠ none) : s.nextSource = none :=
  if_pos (Option.isSome_iff_ne_none.2 busy)

theorem State.takeable_of_nextSource {v : PuSource} (next : s.nextSource = some v) : s.takeable v = true := by
  unfold State.nextSource at next
  split at next
  · cases next
  · exact List.find?_some next

theorem portsFrom_getElem (p : PortId) (e : Nat) (h : e < (portsFrom p).length) : (portsFrom p)[e] = p + Fin.ofNat 8 e := by
  have all : ∀ (p : PortId) (e : Fin 8), (portsFrom p)[e.val]'e.isLt = p + Fin.ofNat 8 e.val := by decide
  exact all p ⟨e, h⟩

/-- The ports in their order from the port pointer. -/
theorem State.intakePort_iff : s.intakePort = some p ↔ s.intakeTakeable p = true ∧
    ∀ d e : Nat, d < e → e < 8 → p = s.pu.port + Fin.ofNat 8 e → s.intakeTakeable (s.pu.port + Fin.ofNat 8 d) = false := by
  rw [State.intakePort, List.find?_eq_some_iff_getElem]
  refine and_congr_right fun _ => ⟨?_, fun earlier => ?_⟩
  · rintro ⟨i, hi, place, before⟩ d e hd he rfl
    rw [portsFrom_getElem] at place
    have same : i = e := by
      have := congrArg Fin.val (add_left_cancel place)
      have hi : i < 8 := hi
      simpa [Fin.ofNat, Nat.mod_eq_of_lt hi, Nat.mod_eq_of_lt he] using this
    have := before d (same ▸ hd)
    rw [portsFrom_getElem] at this
    simpa using this
  · have place : p = s.pu.port + Fin.ofNat 8 (p - s.pu.port).val := by simp
    have within : (p - s.pu.port).val < (portsFrom s.pu.port).length := (p - s.pu.port).isLt
    refine ⟨(p - s.pu.port).val, within, (portsFrom_getElem _ _ within).trans place.symm, fun d hd => ?_⟩
    rw [portsFrom_getElem, earlier d _ hd within place]
    rfl

/-! ## Steps that take nothing -/

theorem exec_tapStep_of_no_source (h : s.nextSource = none) : exec .tapStep s = .next s := by
  simp only [exec, execTapStep, h]

theorem exec_expiryStep_of_other_source (h : s.nextSource ≠ some .expiry) : exec .expiryStep s = .next s := by
  simp only [exec, execExpiryStep]
  split
  next expiry _ => exact absurd expiry h
  next => rfl

theorem exec_sweepItem_of_no_source (h : s.nextSource = none) : exec .sweepItem s = .next s := by
  simp only [exec, execSweepItem, h]

/-! ## The waiting notice and the waiting work entry (R81, R106) -/

theorem exec_tapNotice {n : TapNoticeFrame} {att : BitVec 16} (item : s.pu.item = some (.notice n att)) :
    exec .tapNotice s = .next (if s.lli.bulk.length < 512 then
      State.endTap n.port att (State.pushBulk (.tapNotice n) { s with pu := { s.pu with item := none } }) else s) := by
  simp only [exec, execTapNotice, item, LineLink.bulkHasPlace, decide_eq_true_eq]
  split <;> rfl

theorem exec_slotWaitResume {e : WorkEntry} {a : Option Answer} (item : s.pu.item = some (.slotWait e a)) :
    exec .slotWaitResume s = .next (if s.pool.tapInUse + s.pool.nonTapInUse < 1024 then
      State.handToWaiting e.waiting a { s with pu := { s.pu with item := none }, pool := s.pool.join e } else s) := by
  simp only [exec, execSlotWaitResume, item]
  by_cases slot : s.pool.tapInUse + s.pool.nonTapInUse < 1024
  · rw [if_pos slot]
    exact if_pos slot
  · rw [if_neg slot]
    exact if_neg slot

end

/-- Settles O47: nothing is taken while an item is in progress; the sources, the ports and the waiting items follow their
rules. -/
theorem pairingTurns : Obligations.PairingTurns := by
  unfold Obligations.PairingTurns
  refine ⟨fun s busy => ?_, fun s v idle => State.nextSource_idle idle v, fun s p => State.intakePort_iff,
    fun s n att item => ?_, fun s e w a item waiting => ?_⟩
  · have none := State.nextSource_busy busy
    exact ⟨exec_tapStep_of_no_source none, exec_expiryStep_of_other_source (by rw [none]; nofun),
      exec_sweepItem_of_no_source none⟩
  · rw [exec_tapNotice item]
    exact ⟨fun place => by rw [if_pos place]; rfl, fun full => by rw [if_neg full.not_gt]⟩
  · rw [exec_slotWaitResume item, waiting]
    refine ⟨fun slot => ?_, fun full => by rw [if_neg full.not_gt]⟩
    rw [if_pos slot]
    exact ⟨fun g given => by rw [given]; rfl, fun given => by rw [given]; rfl⟩

end Sys2Proof.Machine
end

section
/-! PROOFS. A tap taken by the Pairing Unit, its intake checks in order, and the notice it ends in where one fails (R77 to R81). -/

namespace Sys2Proof.Machine

open Sys2Proof

section
variable {s : State} {p : PortId} {t : Tap} {rest : List Tap}

/-! ## Taking a tap (R77, R78) -/

/-- The Pairing Unit takes the tap `t` at the head of port `p` next. -/
structure State.TakesTap (s : State) (p : PortId) (t : Tap) (rest : List Tap) : Prop where
  source : s.nextSource = some .intake
  port : s.intakePort = some p
  head : (s.port p).intake = t :: rest

theorem State.TakesTap.step (h : s.TakesTap p t rest) : exec .tapStep s = .next ((s.tapTaken p rest).stepTap t) := by
  simp only [exec, execTapStep, h.source, h.port, State.takeHead_eq h.head]

/-- The checks read nothing that the taking changes. -/
@[simp] theorem State.tapTaken_intakeCheck (p : PortId) (rest : List Tap) (t : Tap) (s : State) :
    (s.tapTaken p rest).intakeCheck t = s.intakeCheck t := rfl

@[simp] theorem State.tapTaken_touched (p : PortId) (rest : List Tap) (t : Tap) (s : State) :
    (s.tapTaken p rest).touched t = s.touched t := rfl

/-- A tap that a check ends. -/
theorem State.TakesTap.step_of_check (h : s.TakesTap p t rest) {reason : NoticeReason} (check : s.intakeCheck t = some reason) :
    exec .tapStep s = .next ((s.tapTaken p rest).noticeTap t reason .goProvisional) := by
  rw [h.step, State.stepTap, State.tapTaken_intakeCheck, check]

/-- A tap that passes the checks and touches an old-day record, which is closed first (R80). -/
theorem State.TakesTap.step_of_touched (h : s.TakesTap p t rest) (passes : s.intakeCheck t = none) {r : Record}
    (touched : s.touched t = some r) :
    exec .tapStep s = .next (((s.tapTaken p rest).closeRecord r).findAndPair t) := by
  rw [h.step, State.stepTap, State.tapTaken_intakeCheck, passes, State.tapTaken_touched, touched]

/-- A tap that passes the checks and touches none. -/
theorem State.TakesTap.step_of_passes (h : s.TakesTap p t rest) (passes : s.intakeCheck t = none)
    (untouched : s.touched t = none) : exec .tapStep s = .next ((s.tapTaken p rest).findAndPair t) := by
  rw [h.step, State.stepTap, State.tapTaken_intakeCheck, passes, State.tapTaken_touched, untouched]

/-- A tap step that ends in a notice: placed with a bulk place, else held (R81). -/
theorem exec_tapStep_notice {u : State} {reason : NoticeReason} {a : Answer}
    (step : exec .tapStep s = .next (u.noticeTap t reason a)) (lli : u.lli = s.lli) :
    (s.lli.bulk.length < 512 → exec .tapStep s = .next (u.noticed t reason a)) ∧
      (512 ≤ s.lli.bulk.length → exec .tapStep s = .next (u.noticeHeld t reason a)) := by
  rw [step, ← lli]
  obtain ⟨place, full⟩ := u.noticeTap_cases t reason a
  exact ⟨fun h => by rw [place h], fun h => by rw [full h]⟩

/-! ## The conditions of the checks (R79, R80) -/

theorem State.dayAdmitted_iff : s.dayAdmitted t = true ↔
    t.hubDay = s.clock.day ∨ (s.roll.state = .rolling ∧ s.roll.oldDay = some t.hubDay) := by
  simp [State.dayAdmitted]

theorem State.stationAdmitted_iff : s.stationAdmitted t = true ↔
    ∃ r, s.tables.active.station t.station = some r ∧ r.servingPort = t.port.val := by
  unfold State.stationAdmitted
  cases s.tables.active.station t.station <;> simp

theorem State.isOldDay_iff : s.isOldDay t = true ↔
    s.roll.state = .rolling ∧ s.roll.oldDay = some t.hubDay ∧ t.hubDay ≠ s.clock.day := by
  simp [State.isOldDay, and_assoc]

theorem RecStatus.eq_closing_iff (st : RecStatus) : st = .closing ↔ st ≠ .active := by cases st <;> decide

theorem State.oldDayAdmitted_eq_false_iff : s.oldDayAdmitted t = false ↔
    (∃ r, s.jt.lookup t.card t.hubDay = some r ∧ r.status = .closing) ∨
      (s.jt.lookup t.card t.hubDay = none ∧ homeIndex t.card < s.roll.pos) := by
  unfold State.oldDayAdmitted
  cases s.jt.lookup t.card t.hubDay <;> simp [RecStatus.eq_closing_iff]

/-! ## The first check that fails (R79) -/

theorem State.intakeCheck_malformed (card : t.card = 0) : s.intakeCheck t = some .malformed := if_pos card

theorem State.intakeCheck_notReady (card : t.card ≠ 0) (notReady : s.roll.state = .notReady) :
    s.intakeCheck t = some .notReady := by
  rw [State.intakeCheck, if_neg card, if_pos notReady]

theorem State.intakeCheck_wrongDay (card : t.card ≠ 0) (ready : s.roll.state ≠ .notReady) (day : s.dayAdmitted t = false) :
    s.intakeCheck t = some .wrongDay := by
  rw [State.intakeCheck, if_neg card, if_neg ready, day]
  rfl

theorem State.intakeCheck_stationMismatch (card : t.card ≠ 0) (ready : s.roll.state ≠ .notReady)
    (day : s.dayAdmitted t = true) (station : s.stationAdmitted t = false) : s.intakeCheck t = some .stationMismatch := by
  rw [State.intakeCheck, if_neg card, if_neg ready, day, station]
  rfl

theorem State.intakeCheck_lateDay (card : t.card ≠ 0) (station : s.stationAdmitted t = true) (old : s.isOldDay t = true)
    (late : s.oldDayAdmitted t = false) : s.intakeCheck t = some .lateDay := by
  obtain ⟨rolling, oldDay, -⟩ := State.isOldDay_iff.1 old
  have ready : s.roll.state ≠ .notReady := by rw [rolling]; decide
  have day : s.dayAdmitted t = true := State.dayAdmitted_iff.2 (.inr ⟨rolling, oldDay⟩)
  rw [State.intakeCheck, if_neg card, if_neg ready, day, station, old, late]
  rfl

end

/-- Settles O48: the first check that fails ends the tap in its notice; check 6 is the find-or-insert that finds no room. -/
theorem tapNoticed : Obligations.TapNoticed := by
  unfold Obligations.TapNoticed
  intro s p t rest source port head own w admitted served old ends
  have taken : s.TakesTap p t rest := ⟨source, port, head⟩
  have dayAdmitted : s.dayAdmitted t = true ↔ admitted := State.dayAdmitted_iff
  have stationAdmitted : s.stationAdmitted t = true ↔ served := by rw [State.stationAdmitted_iff, own]
  have check : ∀ {reason : NoticeReason}, s.intakeCheck t = some reason → ends w reason := fun fails =>
    exec_tapStep_notice (taken.step_of_check fails) rfl
  refine ⟨fun card => check (State.intakeCheck_malformed card),
    fun card notReady => check (State.intakeCheck_notReady card notReady),
    fun card ready day => check (State.intakeCheck_wrongDay card ready ?_),
    fun card ready day station => check (State.intakeCheck_stationMismatch card ready (dayAdmitted.2 day) ?_),
    fun card station isOld late => check (State.intakeCheck_lateDay card (stationAdmitted.2 station)
      (State.isOldDay_iff.2 isOld) (State.oldDayAdmitted_eq_false_iff.2 late)),
    fun passes untouched => ?_⟩
  · rwa [← Bool.not_eq_true, dayAdmitted]
  · rwa [← Bool.not_eq_true, stationAdmitted]
  · have step := taken.step_of_passes passes untouched
    have table : w.jt = s.jt := rfl
    rw [State.findAndPair, table] at step
    refine ⟨fun limit => exec_tapStep_notice ?_ rfl, fun empty => exec_tapStep_notice ?_ rfl⟩
    · rw [step, limit]
    · rw [step, empty]

end Sys2Proof.Machine
end

section
/-! PROOFS. A tap that pairs: its record written with the work and the expiry entries that go with it, said once for every pairing
case (R66, R70, R82 to R92, R94, R102, R106). -/

namespace Sys2Proof.Machine

open Sys2Proof

/-! ## Counters rise in any order (R189) -/

theorem Counters.add_comm (cs : Counters) {c d : CounterId} (ne : c ≠ d) (m n : Nat) :
    (cs.add c m).add d n = (cs.add d n).add c m := by
  have places : (c.index : Nat) ≠ d.index := fun e => ne (CounterId.index_injective (Fin.ext e))
  rw [Counters.add, Counters.value_add_other _ _ ne.symm, Counters.add.eq_1 (cs.add d n), Counters.value_add_other _ _ ne]
  exact Vector.set_comm _ _ places

theorem State.bump_comm {c d : CounterId} (ne : c ≠ d) (s : State) : (s.bump c).bump d = (s.bump d).bump c := by
  simp only [State.bump, State.count, Counters.add_comm _ ne]

/-! ## A record written with work, and the work created (R70, R84, R106) -/

/-- A record written with its pending count raised for a work entry, and the expiry queue as given: what `State.withWork` and
`State.withHeldWork` begin with. -/
def State.withRecord (v : Record) (queue : List ExpiryEntry) (s : State) : State :=
  { s.writeRecordWithWork v with expiry := queue }

theorem State.joinPool_withRecord (v : Record) (queue : List ExpiryEntry) (e : WorkEntry) (s : State) :
    (s.withRecord v queue).joinPool e = s.withWork v e queue := by
  unfold State.withRecord State.writeRecordWithWork State.countSaturation State.withWork
  split <;> rfl

@[simp] theorem State.withRecord_pool (v : Record) (queue : List ExpiryEntry) (s : State) :
    (s.withRecord v queue).pool = s.pool := State.writeRecordWithWork_pool v s

theorem State.createTapWork_slot {s : State} (slot : s.pool.tapInUse + s.pool.nonTapInUse < 1024) (e : WorkEntry)
    (a : Option Answer) : s.createTapWork e a = (s.joinPool e).handToWaiting e.waiting a := if_pos slot

theorem State.createTapWork_full {s : State} (full : ¬s.pool.tapInUse + s.pool.nonTapInUse < 1024) (e : WorkEntry)
    (a : Option Answer) :
    s.createTapWork e a = State.bump .slotWaits { s with pu := { s.pu with item := some (.slotWait e a) } } := if_neg full

theorem State.createTapWork_withRecord_slot {s : State} (slot : s.pool.tapInUse + s.pool.nonTapInUse < 1024) (v : Record)
    (queue : List ExpiryEntry) (e : WorkEntry) (a : Option Answer) :
    (s.withRecord v queue).createTapWork e a = (s.withWork v e queue).handToWaiting e.waiting a := by
  rw [State.createTapWork_slot (by rwa [State.withRecord_pool]), State.joinPool_withRecord]

theorem State.createTapWork_withRecord_full {s : State} (full : ¬s.pool.tapInUse + s.pool.nonTapInUse < 1024) (v : Record)
    (queue : List ExpiryEntry) (e : WorkEntry) (a : Option Answer) :
    (s.withRecord v queue).createTapWork e a = s.withHeldWork v e a queue := by
  rw [State.createTapWork_full (by rwa [State.withRecord_pool])]
  unfold State.withRecord State.writeRecordWithWork State.countSaturation State.withHeldWork
  split <;> rfl

theorem Tap.handToWaiting (t : Tap) (live : Bool) (a : Option Answer) (s : State) :
    s.handToWaiting (some (t.waiting live)) a = s.answerTap t a := by cases a <;> rfl

/-- A tap step that creates the work of the tap: with a free slot the entry joins the pool and the tap is answered, with none the
Pairing Unit holds both (R103, R106). -/
theorem exec_tapStep_work {s u : State} {t : Tap} {v : Record} {queue : List ExpiryEntry} {e : WorkEntry} {a : Option Answer}
    {live : Bool} (step : exec .tapStep s = .next ((u.withRecord v queue).createTapWork e a))
    (waiting : e.waiting = some (t.waiting live)) (pool : u.pool = s.pool) :
    (s.pool.tapInUse + s.pool.nonTapInUse < 1024 → exec .tapStep s = .next ((u.withWork v e queue).answerTap t a)) ∧
      (¬s.pool.tapInUse + s.pool.nonTapInUse < 1024 → exec .tapStep s = .next (u.withHeldWork v e a queue)) := by
  rw [step, ← pool]
  exact ⟨fun slot => by rw [State.createTapWork_withRecord_slot slot, waiting, Tap.handToWaiting],
    fun full => by rw [State.createTapWork_withRecord_full full]⟩

/-- The same, where a counter other than that of the slot waits is raised with it. -/
theorem exec_tapStep_work_bump {s u : State} {t : Tap} {v : Record} {queue : List ExpiryEntry} {e : WorkEntry}
    {a : Option Answer} {live : Bool} {c : CounterId}
    (step : exec .tapStep s = .next (((u.withRecord v queue).bump c).createTapWork e a))
    (waiting : e.waiting = some (t.waiting live)) (pool : u.pool = s.pool) (ne : c ≠ .slotWaits) :
    (s.pool.tapInUse + s.pool.nonTapInUse < 1024 →
        exec .tapStep s = .next (((u.withWork v e queue).bump c).answerTap t a)) ∧
      (¬s.pool.tapInUse + s.pool.nonTapInUse < 1024 →
        exec .tapStep s = .next ((u.withHeldWork v e a queue).bump c)) := by
  rw [step, ← pool]
  have uses : ((u.withRecord v queue).bump c).pool = u.pool := State.withRecord_pool v queue u
  refine ⟨fun slot => ?_, fun full => ?_⟩
  · rw [State.createTapWork_slot (by rwa [uses]), waiting, Tap.handToWaiting, ← State.joinPool_withRecord]
    rfl
  · rw [State.createTapWork_full (by rwa [uses]), ← State.createTapWork_withRecord_full full,
      State.createTapWork_full (by rwa [State.withRecord_pool]), State.bump_comm ne.symm]
    rfl

/-! ## The parts of a record (R66, R67) -/

theorem Record.remember_eq (q : PortId × BitVec 32) (r : Record) : r.remember q =
    { r with recent := (if r.recent.length < 8 then r.recent else r.recent.tail) ++ [q] } := by
  by_cases full : 8 ≤ r.recent.length
  · rw [Record.remember, if_pos full, if_neg full.not_gt]
  · rw [Record.remember, if_neg full, if_pos (not_le.1 full)]

theorem Record.hold_eq (h : HeldTap) (r : Record) : r.hold h = { r with
    held := r.held.takeWhile (fun x => decide (x.time ≤ h.time)) ++ h ::
      r.held.dropWhile (fun x => decide (x.time ≤ h.time)) } := by
  have later : (fun x : HeldTap => !decide (h.time < x.time)) = fun x => decide (x.time ≤ h.time) := by
    funext x
    rw [Bool.eq_iff_iff]
    simp
  rw [Record.hold, insertBefore_eq, later]

theorem Record.dropHeld_eq {r : Record} {h : HeldTap} {before after : List HeldTap} (held : r.held = before ++ h :: after)
    (others : ∀ x ∈ before, (x.port, x.hubSeq) ≠ (h.port, h.hubSeq)) :
    r.dropHeld h = { r with held := before ++ after } := by
  have absent : h ∉ before := fun mem => others h mem rfl
  rw [Record.dropHeld, held, List.erase_append_right _ absent, List.erase_cons_head]

theorem Record.heldAfter_eq_some {r : Record} {h : HeldTap} {before after : List HeldTap} {time : Nat}
    (held : r.held = before ++ h :: after) (earlier : ∀ x ∈ before, x.time < time) (late : time ≤ h.time) :
    r.heldAfter time = some h := by
  refine List.find?_eq_some_iff_append.2 ⟨decide_eq_true late, before, after, held, fun x hx => ?_⟩
  simpa using earlier x hx

theorem Record.heldAfter_eq_none {r : Record} {time : Nat} (earlier : ∀ x ∈ r.held, x.time < time) :
    r.heldAfter time = none := List.find?_eq_none.2 fun x hx => by simpa using earlier x hx

/-! ## The pairing cases (R86 to R92) -/

theorem State.bankFor_congr {s u : State} (roll : u.roll = s.roll) (tables : u.tables = s.tables) (d : Day) :
    u.bankFor d = s.bankFor d := by
  rw [State.bankFor, State.bankFor, roll, tables]

theorem State.enterLimit_eq (r : Record) (s : State) : s.enterLimit r =
    { s with expiry := queueWith r .journeyLimit s.clock.time (s.bankFor r.day).line.journeyLimit s.expiry } :=
  State.enterExpiry_eq r _ _ s

theorem State.enterHold_eq (r : Record) (t : Tap) (s : State) : s.enterHold r t =
    { s with expiry := queueWith r (.hold t.port t.hubSeq) s.clock.time (s.bankFor r.day).line.holdWindow s.expiry } :=
  State.enterExpiry_eq r _ _ s

theorem State.pairWithHeld_eq (r : Record) (t : Tap) (h : HeldTap) (s : State) : s.pairWithHeld r t h =
    (s.withRecord (r.dropHeld h) (queueWithout r (.hold h.port h.hubSeq) s.expiry)).createTapWork
      (tapWork .priceJourney .l1 r (Journey.whole t.half h.half) (t.waiting false)) (t.ifLive (.go none)) := by
  rw [State.pairWithHeld, State.cancelHold, State.cancelExpiry_eq, State.writeRecordWithWork_expiry, State.withRecord]

theorem State.replaceOpen_eq (r : Record) (t : Tap) (o : OpenJourney) (s : State) : s.replaceOpen r t o =
    (s.withRecord { r with openJourney := some t.toOpen } (queueWith r .journeyLimit s.clock.time
      (s.bankFor r.day).line.journeyLimit (queueWithout r .journeyLimit s.expiry))).createTapWork
      (tapWork .priceIncomplete .l1 r (Journey.incomplete o.half) (t.waiting false)) (t.ifLive (.go none)) := by
  rw [State.replaceOpen, State.cancelLimit, State.cancelExpiry_eq, State.enterLimit_eq,
    State.bankFor_congr (s := s) (by simp) (by simp)]
  simp only [State.writeRecordWithWork_expiry, State.writeRecordWithWork_clock, State.withRecord]

theorem State.closeOlder_eq (r : Record) (t : Tap) (s : State) : s.closeOlder r t =
    (s.withRecord r s.expiry).createTapWork
      (tapWork .priceIncomplete .l1 r (Journey.incomplete t.half) (t.waiting false)) (t.ifLive (.go none)) := by
  rw [State.closeOlder, State.withRecord, ← State.writeRecordWithWork_expiry r s]

theorem State.openWith_eq (r : Record) (t : Tap) (s : State) : s.openWith r t =
    (State.answerTap t (t.ifLive (.go none)) { s with
      jt := s.jt.write { r with openJourney := some t.toOpen }
      expiry := queueWith r .journeyLimit s.clock.time (s.bankFor r.day).line.journeyLimit s.expiry }).endTap
        t.port t.attachment := by
  rw [State.openWith, State.enterLimit_eq]
  rfl

theorem State.pairWithOpen_eq (r : Record) (t : Tap) (o : OpenJourney) (s : State) : s.pairWithOpen r t o =
    (s.withRecord { r with openJourney := none } (queueWithout r .journeyLimit s.expiry)).createTapWork
      (tapWork .priceJourney (if t.live = true then .l0 else .l1) r (Journey.whole o.half t.half) (t.waiting t.live)) none := by
  rw [State.pairWithOpen, State.cancelLimit, State.cancelExpiry_eq, State.writeRecordWithWork_expiry, State.withRecord]

theorem State.holdTap_eq (r : Record) (t : Tap) (s : State) : s.holdTap r t =
    (State.answerTap t (t.ifLive .goProvisional) { s with
      jt := s.jt.write (r.hold (t.toHeld s.clock.time))
      expiry := queueWith r (.hold t.port t.hubSeq) s.clock.time (s.bankFor r.day).line.holdWindow s.expiry }).endTap
        t.port t.attachment := by
  rw [State.holdTap, State.enterHold_eq]
  rfl

theorem State.displaceAndHold_eq (r : Record) (t : Tap) (h : HeldTap) (more : List HeldTap) (s : State) :
    s.displaceAndHold r t h more =
      ((s.withRecord (Record.hold (t.toHeld s.clock.time) { r with held := more })
        (queueWith r (.hold t.port t.hubSeq) s.clock.time (s.bankFor r.day).line.holdWindow
          (queueWithout r (.hold h.port h.hubSeq) s.expiry))).bump .displacements).createTapWork
        (tapWork .priceOriginUnknown .l1 r (Journey.originUnknown h.half) (t.waiting false)) (t.ifLive .goProvisional) := by
  rw [State.displaceAndHold, State.cancelHold, State.cancelExpiry_eq, State.enterHold_eq,
    State.bankFor_congr (s := s) (by simp) (by simp)]
  simp only [State.writeRecordWithWork_expiry, State.writeRecordWithWork_clock, State.withRecord]

/-! ## Which case applies (sections 5.5 and 5.6) -/

section
variable {r : Record} {t : Tap} {o : OpenJourney} {h : HeldTap} (s : State)

theorem State.pairTapIn_held (held : r.heldAfter t.time = some h) : s.pairTapIn r t = s.pairWithHeld r t h := by
  rw [State.pairTapIn, held]

theorem State.pairTapIn_replace (unheld : r.heldAfter t.time = none) (isOpen : r.openJourney = some o)
    (before : o.time ≤ t.time) : s.pairTapIn r t = s.replaceOpen r t o := by
  rw [State.pairTapIn, unheld, isOpen]
  exact if_pos before

theorem State.pairTapIn_older (unheld : r.heldAfter t.time = none) (isOpen : r.openJourney = some o)
    (later : t.time < o.time) : s.pairTapIn r t = s.closeOlder r t := by
  rw [State.pairTapIn, unheld, isOpen]
  exact if_neg later.not_ge

theorem State.pairTapIn_open (unheld : r.heldAfter t.time = none) (unopened : r.openJourney = none) :
    s.pairTapIn r t = s.openWith r t := by
  rw [State.pairTapIn, unheld, unopened]

theorem State.pairTapOut_open (isOpen : r.openJourney = some o) (before : o.time ≤ t.time) :
    s.pairTapOut r t = s.pairWithOpen r t o := by
  rw [State.pairTapOut, isOpen]
  exact if_pos before

theorem State.pairTapOut_later (later : ∀ o, r.openJourney = some o → t.time < o.time) :
    s.pairTapOut r t = s.holdOrDisplace r t := by
  unfold State.pairTapOut
  split
  next o isOpen => exact if_neg (later o isOpen).not_ge
  next => rfl

theorem State.holdOrDisplace_room (room : r.held.length < 3) : s.holdOrDisplace r t = s.holdTap r t := by
  unfold State.holdOrDisplace
  split
  next => exact if_pos room
  next => rfl

theorem State.holdOrDisplace_full {more : List HeldTap} (held : r.held = h :: more) (full : 2 ≤ more.length) :
    s.holdOrDisplace r t = s.displaceAndHold r t h more := by
  have long : ¬(h :: more).length < 3 := by rw [List.length_cons]; omega
  rw [State.holdOrDisplace, held]
  exact if_neg long

end

/-! ## The tap in the record that its find-or-insert gives (R78, R82, R83) -/

section
variable {s : State} {p : PortId} {t : Tap} {rest : List Tap} {jt : JourneyTable} {r : Record}

theorem State.TapPairs.takesTap (h : s.TapPairs p t rest jt r) : s.TakesTap p t rest := ⟨h.source, h.port, h.head⟩

theorem State.TapPairs.step (h : s.TapPairs p t rest jt r) :
    exec .tapStep s = .next (State.tapInRecord t r { s.tapTaken p rest with jt := jt }) := by
  have table : (s.tapTaken p rest).jt = s.jt := rfl
  rw [h.takesTap.step_of_passes h.checks h.untouched, State.findAndPair, table]
  rcases h.record with ⟨found, rfl⟩ | inserted
  · rw [found]
    rfl
  · rw [inserted]

theorem State.TapPairs.day (h : s.TapPairs p t rest jt r) : r.day = t.hubDay := by
  cases held : s.jt.lookup t.card t.hubDay with
  | some x =>
    have found := JourneyTable.findOrInsert_of_present held
    rcases h.record with ⟨same, -⟩ | inserted
    · cases found.symm.trans same
      exact (JourneyTable.lookup_key held).2
    · cases found.symm.trans inserted
  | none =>
    have inserts := JourneyTable.findOrInsert_of_absent held
    rcases h.record with ⟨found, -⟩ | inserted
    · exact absurd (inserts.symm.trans found) (JourneyTable.insert_ne_found r)
    · obtain ⟨rfl, -⟩ := JourneyTable.insert_cases (inserts.symm.trans inserted)
      rfl

/-- The product check reads nothing that the taking changes. -/
theorem State.productInvalid_taken (jt : JourneyTable) : State.productInvalid { s.tapTaken p rest with jt := jt } t =
    (t.direction == .tapIn && ((s.bankFor t.hubDay).product t.product).isInvalid) := rfl

theorem State.TapPairs.step_invalid (h : s.TapPairs p t rest jt r) (tapIn : t.direction = .tapIn)
    (kind : ((s.bankFor t.hubDay).product t.product).kind = 0) :
    exec .tapStep s = .next (State.noticeTap t .productInvalid .refuseProductInvalid
      { s.tapTaken p rest with jt := jt.write (r.remember t.pair) }) := by
  have invalid : State.productInvalid { s.tapTaken p rest with jt := jt } t = true := by
    rw [State.productInvalid_taken, tapIn, ProductRow.isInvalid, kind]
    rfl
  rw [h.step, State.tapInRecord, if_neg h.fresh]
  exact congrArg _ (if_pos invalid)

theorem State.TapPairs.step_tapIn (h : s.TapPairs p t rest jt r) (tapIn : t.direction = .tapIn)
    (valid : ((s.bankFor t.hubDay).product t.product).isInvalid = false) :
    exec .tapStep s = .next (State.pairTapIn (r.remember t.pair) t { s.tapTaken p rest with jt := jt }) := by
  have check : ¬State.productInvalid { s.tapTaken p rest with jt := jt } t = true := by
    rw [State.productInvalid_taken, valid, Bool.and_false]
    decide
  rw [h.step, State.tapInRecord, if_neg h.fresh]
  refine congrArg _ ((if_neg check).trans ?_)
  rw [tapIn]

theorem State.TapPairs.step_tapOut (h : s.TapPairs p t rest jt r) (tapOut : t.direction = .tapOut) :
    exec .tapStep s = .next (State.pairTapOut (r.remember t.pair) t { s.tapTaken p rest with jt := jt }) := by
  have check : ¬State.productInvalid { s.tapTaken p rest with jt := jt } t = true := by
    rw [State.productInvalid_taken, tapOut]
    exact Bool.false_ne_true
  rw [h.step, State.tapInRecord, if_neg h.fresh]
  refine congrArg _ ((if_neg check).trans ?_)
  rw [tapOut]

theorem ProductRow.isInvalid_of_kind {x : ProductRow} (kind : x.kind = 1 ∨ x.kind = 2 ∨ x.kind = 3) :
    x.isInvalid = false := by
  rcases kind with kind | kind | kind <;> rw [ProductRow.isInvalid, kind] <;> rfl

end

end Sys2Proof.Machine
end

section
/-! PROOFS. The pairing cases of a tap-in and of a tap-out, in order, and a duplicate (R82 to R92). -/

namespace Sys2Proof.Machine

open Sys2Proof

/-- Settles O49: an INVALID product is noticed; else a held tap-out at or after the tap-in, an open journey at or before it, an open
journey after it, or none. -/
theorem tapInPairs : Obligations.TapInPairs := by
  unfold Obligations.TapInPairs
  intro s p t rest jt r pairs tapIn
  obtain rfl := pairs.own
  intro w b recent valid go tapIn' opened work slot ends
  let v : Record := { r with recent := recent }
  have remembered : r.remember t.pair = v := Record.remember_eq t.pair r
  have limit : (w.bankFor v.day).line.journeyLimit = b.line.journeyLimit := by
    rw [show v.day = t.hubDay from pairs.day]
    rfl
  have paired : ∀ {u : State}, valid → w.pairTapIn v t = u → exec .tapStep s = .next u := fun kind case =>
    (pairs.step_tapIn tapIn (ProductRow.isInvalid_of_kind kind)).trans (by rw [remembered, case])
  have notice := fun kind => exec_tapStep_notice (pairs.step_invalid tapIn kind) rfl
  rw [remembered] at notice
  refine ⟨fun kind => (notice kind).1, fun kind => (notice kind).2, fun kind before after h held others late => ?_,
    fun kind earlier => ⟨fun o isOpen before => ?_, fun o isOpen later => ?_, fun unopened => ?_⟩⟩
  · have found : v.heldAfter t.time = some h := Record.heldAfter_eq_some held (fun x hx => (others x hx).1) late
    have dropped : v.dropHeld h = { v with held := before ++ after } := Record.dropHeld_eq held fun x hx => (others x hx).2
    refine exec_tapStep_work (paired kind ((State.pairTapIn_held w found).trans ?_)) rfl rfl
    rw [State.pairWithHeld_eq, dropped]
    rfl
  all_goals have unheld : v.heldAfter t.time = none := Record.heldAfter_eq_none earlier
  · refine exec_tapStep_work (paired kind ((State.pairTapIn_replace w unheld isOpen before).trans ?_)) rfl rfl
    rw [State.replaceOpen_eq, limit]
    rfl
  · exact exec_tapStep_work
      (paired kind ((State.pairTapIn_older w unheld isOpen later).trans (State.closeOlder_eq v t w))) rfl rfl
  · refine paired kind ((State.pairTapIn_open w unheld unopened).trans ?_)
    rw [State.openWith_eq, limit]
    rfl

/-- Settles O50: an open journey at or before the tap-out; else it is held, with the head of a full list displaced; a duplicate is
counted and ends. -/
theorem tapOutPairs : Obligations.TapOutPairs := by
  unfold Obligations.TapOutPairs
  refine ⟨?_, ?_⟩
  · intro s p t rest jt r pairs tapOut
    obtain rfl := pairs.own
    intro w b recent provisional slot held placed entered
    let v : Record := { r with recent := recent }
    have remembered : r.remember t.pair = v := Record.remember_eq t.pair r
    have window : (w.bankFor v.day).line.holdWindow = b.line.holdWindow := by
      rw [show v.day = t.hubDay from pairs.day]
      rfl
    have hold : ∀ x : Record, x.hold (t.toHeld w.clock.time) = { x with held := placed x.held } := Record.hold_eq held
    have paired : ∀ {u : State}, w.pairTapOut v t = u → exec .tapStep s = .next u := fun case =>
      (pairs.step_tapOut tapOut).trans (by rw [remembered, case])
    refine ⟨fun o isOpen before => ?_, fun later => ⟨fun room => ?_, fun h more full many => ?_⟩⟩
    · exact exec_tapStep_work
        (paired ((State.pairTapOut_open (r := v) w isOpen before).trans (State.pairWithOpen_eq v t o w))) rfl rfl
    · refine paired ((State.pairTapOut_later (r := v) w later).trans ((State.holdOrDisplace_room (r := v) w room).trans ?_))
      rw [State.holdTap_eq, window, hold]
      rfl
    · refine exec_tapStep_work_bump (paired ((State.pairTapOut_later (r := v) w later).trans
        ((State.holdOrDisplace_full (r := v) w full many).trans ?_))) rfl rfl (by decide)
      rw [State.displaceAndHold_eq, window, hold]
      rfl
  · intro s p t rest r source port head own passes untouched found duplicate
    have taken : s.TakesTap p t rest := ⟨source, port, head⟩
    have table : (s.tapTaken p rest).jt = s.jt := rfl
    have dropped : (s.tapTaken p rest).tapInRecord t r = (s.tapTaken p rest).dropDuplicate t := if_pos duplicate
    rw [taken.step_of_passes passes untouched, State.findAndPair, table, JourneyTable.findOrInsert_of_present found]
    dsimp only
    rw [dropped, State.dropDuplicate, own]
    rfl

end Sys2Proof.Machine
end

section
/-! PROOFS. The step of a due expiry entry (R95 to R98). -/

namespace Sys2Proof.Machine

open Sys2Proof

section
variable {s : State} {e : ExpiryEntry}

/-! ## The entry taken (R95, R96) -/

theorem exec_expiryStep {before after : List ExpiryEntry} (source : s.nextSource = some .expiry)
    (queue : s.expiry = before ++ e :: after) (first : ∀ x ∈ before, x.due = false) (due : e.due = true) :
    exec .expiryStep s = .next (State.expire e { s.tookFrom .expiry with expiry := before ++ after }) := by
  have undue : ∀ x ∈ before, ¬x.due = true := fun x hx => by simp [first x hx]
  have found : s.expiry.find? ExpiryEntry.due = some e :=
    List.find?_eq_some_iff_append.2 ⟨due, before, after, queue, fun x hx => by simp [first x hx]⟩
  have left : s.expiry.eraseP ExpiryEntry.due = before ++ after := by
    rw [queue, List.eraseP_append_right _ undue, List.eraseP_cons_of_pos due]
  simp only [exec, execExpiryStep, source, found, left]

theorem State.expire_limit {r : Record} {o : OpenJourney} (held : s.jt.lookup e.card e.day = some r)
    (kind : e.kind = .journeyLimit) (isOpen : r.openJourney = some o) : s.expire e = s.expireOpen r o := by
  rw [State.expire, held]
  dsimp only
  rw [kind]
  dsimp only
  rw [isOpen]

theorem State.expire_hold {r : Record} {h : HeldTap} (held : s.jt.lookup e.card e.day = some r)
    (kind : e.kind = .hold h.port h.hubSeq) (named : r.heldOf h.port h.hubSeq = some h) : s.expire e = s.expireHeld r h := by
  rw [State.expire, held]
  dsimp only
  rw [kind]
  dsimp only
  rw [named]

/-! ## The part that leaves its record (R97, R98) -/

/-- Work joins the pool with its record written, the queue being as it stands. -/
theorem State.joinPool_writeRecordWithWork (v : Record) (e : WorkEntry) (queue : List ExpiryEntry) (s : State) :
    (State.writeRecordWithWork v { s with expiry := queue }).joinPool e = s.withWork v e queue := by
  unfold State.writeRecordWithWork State.countSaturation State.withWork
  by_cases full : Config.pendingMax ≤ v.pendingCount
  · rw [if_pos full, if_pos full]
    rfl
  · rw [if_neg full, if_neg full]
    rfl

theorem State.expireOpen_eq (r : Record) (o : OpenJourney) (queue : List ExpiryEntry) (s : State) :
    State.expireOpen r o { s with expiry := queue } = (s.withWork { r with openJourney := none }
      (nonTapWork .priceIncomplete .l2 r (Journey.incomplete o.half)) queue).bump .journeyLimitExpiries := by
  rw [State.expireOpen, State.joinPool_writeRecordWithWork]

theorem State.expireHeld_eq (r : Record) (h : HeldTap) (queue : List ExpiryEntry) (s : State) :
    State.expireHeld r h { s with expiry := queue } = (s.withWork (r.dropHeld h)
      (nonTapWork .priceOriginUnknown .l2 r (Journey.originUnknown h.half)) queue).bump .holdExpiries := by
  rw [State.expireHeld, State.joinPool_writeRecordWithWork]

theorem Record.heldOf_eq_some {r : Record} {h : HeldTap} {before after : List HeldTap} (held : r.held = before ++ h :: after)
    (others : ∀ x ∈ before, (x.port, x.hubSeq) ≠ (h.port, h.hubSeq)) : r.heldOf h.port h.hubSeq = some h := by
  refine List.find?_eq_some_iff_append.2 ⟨by simp, before, after, held, fun x hx => ?_⟩
  simpa [imp_iff_not_or] using others x hx

/-! ## Nothing to take (R95) -/

theorem State.takeable_expiry : s.takeable .expiry = true ↔ (∃ e ∈ s.expiry, e.due = true) ∧ 0 < s.nonTapFree := by
  simp [State.takeable]

theorem exec_expiryStep_untakeable (h : s.takeable .expiry ≠ true) : exec .expiryStep s = .next s :=
  exec_expiryStep_of_other_source fun next => h (State.takeable_of_nextSource next)

end

/-- Settles O51: the first due entry leaves with the part it names; with none due, or no non-tap slot free, EXPIRY is not
takeable. -/
theorem expiryTaken : Obligations.ExpiryTaken := by
  unfold Obligations.ExpiryTaken
  refine ⟨fun s before after e r source queue first due held => ?_, fun s undue => ?_, fun s none => ?_⟩
  · intro w work
    have taken : exec .expiryStep s = .next (State.expire e { w with expiry := before ++ after }) :=
      exec_expiryStep source queue first due
    refine ⟨fun o kind isOpen => taken.trans (congrArg _ ?_),
      fun h earlier later kind parts others => taken.trans (congrArg _ ?_)⟩
    · exact (State.expire_limit (by exact held) kind isOpen).trans (State.expireOpen_eq r o _ w)
    · refine (State.expire_hold (by exact held) kind (Record.heldOf_eq_some parts others)).trans ?_
      rw [State.expireHeld_eq, Record.dropHeld_eq parts others]
      rfl
  · refine exec_expiryStep_untakeable fun takeable => ?_
    obtain ⟨⟨e, mem, due⟩, -⟩ := State.takeable_expiry.1 takeable
    exact Bool.false_ne_true ((undue e mem).symm.trans due)
  · refine exec_expiryStep_untakeable fun takeable => ?_
    obtain ⟨-, free⟩ := State.takeable_expiry.1 takeable
    exact free.ne' none

end Sys2Proof.Machine
end

section
/-! PROOFS. The sweep of the old day: chain visits, sweep items, and the closure that a new-day tap makes first (R80, R105,
R167, R168, R172). -/

namespace Sys2Proof.Machine

open Sys2Proof

section
variable {s : State}

/-! ## The end of the roll examined (R172) -/

theorem State.rollFinished_iff : s.rollFinished = true ↔
    s.roll.state = .rolling ∧ s.roll.pos = 65536 ∧ s.roll.visit = [] ∧ s.roll.closingCount = 0 := by
  simp [State.rollFinished, and_assoc]

theorem State.checkRoll_finished (rolling : s.roll.state = .rolling) (pos : s.roll.pos = 65536) (visit : s.roll.visit = [])
    (none : s.roll.closingCount = 0) : s.checkRoll = s.endRoll :=
  if_pos (State.rollFinished_iff.2 ⟨rolling, pos, visit, none⟩)

theorem State.checkRoll_unfinished
    (more : s.roll.state ≠ .rolling ∨ s.roll.pos ≠ 65536 ∨ s.roll.visit ≠ [] ∨ 0 < s.roll.closingCount) :
    s.checkRoll = s := by
  refine if_neg fun finished => ?_
  obtain ⟨rolling, pos, visit, none⟩ := State.rollFinished_iff.1 finished
  rcases more with h | h | h | h
  · exact h rolling
  · exact h pos
  · exact h visit
  · exact h.ne' none

/-! ## Chain visits (R167) -/

theorem exec_chainVisit (rolling : s.roll.state = .rolling) (idle : s.roll.visit = []) (pos : s.roll.pos < 65536) :
    exec .chainVisit s = .next (State.checkRoll { s with
      roll := { s.roll with visit := s.oldDayCards s.roll.pos, pos := s.roll.pos + 1, paused := false } }) := by
  simp only [exec, execChainVisit]
  exact if_pos ⟨rolling, idle, pos⟩

theorem exec_chainVisit_disabled (h : s.roll.state ≠ .rolling ∨ s.roll.visit ≠ [] ∨ 65536 ≤ s.roll.pos) :
    exec .chainVisit s = .next s := by
  simp only [exec, execChainVisit]
  refine if_neg fun ⟨rolling, idle, pos⟩ => ?_
  rcases h with h | h | h
  · exact h rolling
  · exact h idle
  · exact pos.not_ge h

theorem State.oldDayCards_eq {d : Day} (old : s.roll.oldDay = some d) (n : Nat) :
    s.oldDayCards n = ((s.jt.records n).filter fun r => decide (r.day = d)).map Record.card := by
  have test : (fun r : Record => s.roll.oldDay == some r.day) = fun r => decide (r.day = d) := by
    funext r
    rw [old, Bool.eq_iff_iff]
    simpa using eq_comm
  rw [State.oldDayCards, test]

/-! ## The card at the head of the visit (R105, R168) -/

theorem exec_sweepItem {c : Card} {rest : List Card} (source : s.nextSource = some .sweep) (visit : s.roll.visit = c :: rest) :
    exec .sweepItem s = .next ((s.tookFrom .sweep).sweepCard c rest) := by
  simp only [exec, execSweepItem, source, visit]

theorem State.canClose_iff {r : Record} :
    s.canClose r = true ↔ r.openJourney.toList.length + r.held.length ≤ s.nonTapFree := by
  rw [State.canClose, decide_eq_true_iff, Record.closureWork_length]

theorem State.oldRecord_eq {d : Day} (old : s.roll.oldDay = some d) (c : Card) : s.oldRecord c = s.jt.lookup c d := by
  rw [State.oldRecord, old]
  rfl

section
variable {c : Card} {rest : List Card} {r : Record}

theorem State.sweepCard_close (held : s.oldRecord c = some r) (active : r.status = .active) (room : s.canClose r = true) :
    s.sweepCard c rest = (s.closeRecord r).leaveVisit rest := by
  rw [State.sweepCard, held]
  exact (if_pos active).trans (if_pos room)

theorem State.sweepCard_pause (held : s.oldRecord c = some r) (active : r.status = .active) (none : ¬s.canClose r = true) :
    s.sweepCard c rest = { s with roll := { s.roll with paused := true } } := by
  rw [State.sweepCard, held]
  exact (if_pos active).trans (if_neg none)

theorem State.sweepCard_leave (closing : ∀ r, s.oldRecord c = some r → r.status = .closing) :
    s.sweepCard c rest = s.leaveVisit rest := by
  unfold State.sweepCard
  split
  next r held => exact if_neg (by rw [closing r held]; decide)
  next => rfl

/-- A closure leaves a CLOSING record, so that the roll goes on (R169, R172). -/
theorem State.leaveVisit_closeRecord (r : Record) (s : State) (rest : List Card) : (s.closeRecord r).leaveVisit rest =
    { s.closeRecord r with roll := { (s.closeRecord r).roll with visit := rest } } := by
  have closing : (s.closeRecord r).roll.closingCount = s.roll.closingCount + 1 :=
    congrArg Ledger.closing (State.closeRecord_ledger r s)
  exact State.checkRoll_unfinished (.inr (.inr (.inr (closing ▸ Nat.succ_pos _))))

end

/-! ## The closure that a tap makes first (R80, R105) -/

theorem State.takeable_of_intakePort {p : PortId} (port : s.intakePort = some p) : s.intakeTakeable p = true :=
  (State.intakePort_iff.1 port).1

/-- A tap that would wait for closure slots is not takeable. -/
theorem State.canClose_of_takeable {p : PortId} {t : Tap} {rest : List Tap} {r : Record} (takeable : s.intakeTakeable p = true)
    (head : (s.port p).intake = t :: rest) (passes : s.intakeCheck t = none) (touched : s.touched t = some r) :
    s.canClose r = true := by
  simpa [State.intakeTakeable, head, State.waitsForClosure, passes, touched] using takeable

end

/-- Settles O54: the end of the roll is examined after a visit and after a card that leaves without a closure. -/
theorem sweepSteps : Obligations.SweepSteps := by
  unfold Obligations.SweepSteps
  refine ⟨fun s d rolling old idle pos => ?_, fun s => exec_chainVisit_disabled, fun s c rest d source visit old => ?_,
    fun s p t rest r source port head passes touched => ?_⟩
  · intro cards u
    have visited : exec .chainVisit s = .next u.checkRoll := by
      rw [exec_chainVisit rolling idle pos, State.oldDayCards_eq old]
    rw [visited]
    refine ⟨fun more => ?_, fun last none noClosing =>
      congrArg _ (State.checkRoll_finished (s := u) rolling last none noClosing)⟩
    rw [State.checkRoll_unfinished]
    exact more.elim (fun h => .inr (.inl h.ne)) fun h => .inr (.inr h)
  · intro w
    have swept : exec .sweepItem s = .next (w.sweepCard c rest) := exec_sweepItem source visit
    have record : w.oldRecord c = s.jt.lookup c d := State.oldRecord_eq old c
    rw [swept]
    refine ⟨fun r held active => ⟨fun room => ?_, fun few => ?_⟩, fun closing => ?_⟩
    · rw [State.sweepCard_close (record.trans held) active (State.canClose_iff.2 room), State.leaveVisit_closeRecord]
    · rw [State.sweepCard_pause (record.trans held) active fun room => few.not_ge (State.canClose_iff.1 room)]
    · rw [State.sweepCard_leave (record ▸ closing), State.leaveVisit]
      refine ⟨fun more => ?_, fun none pos noClosing rolling =>
        congrArg _ (State.checkRoll_finished (s := { w with roll := { s.roll with visit := rest } })
          rolling pos none noClosing)⟩
      rw [State.checkRoll_unfinished]
      rcases more with h | h | h | h
      · exact .inr (.inr (.inl h))
      · exact .inr (.inl h)
      · exact .inr (.inr (.inr h))
      · exact .inl h
  · have taken : s.TakesTap p t rest := ⟨source, port, head⟩
    have room := State.canClose_of_takeable (State.takeable_of_intakePort port) head passes touched
    exact ⟨State.canClose_iff.1 room, taken.step_of_touched passes touched⟩

end Sys2Proof.Machine
end

section
/-! PROOFS. The Pricing Arbiter's choice of an entry, its run level and its aging count (R107, R108). -/

namespace Sys2Proof.Machine

open Sys2Proof

section
variable {w : WorkPool} {v : Level}

/-! ## The highest level with work (R107) -/

theorem Level.pairwise_all : Level.all.Pairwise fun x y => y ∈ x.below := by decide

theorem Level.pairwise_below (v : Level) : v.below.Pairwise fun x y => y ∈ x.below := by cases v <;> decide

theorem Level.mem_all (v : Level) : v ∈ Level.all := by cases v <;> decide

theorem WorkPool.highest_eq_none_iff {ls : List Level} : w.highest ls = none ↔ ∀ x ∈ ls, w.list x = [] := by
  simp [WorkPool.highest]

/-- In a list of levels from the highest down, the level with work that has none above it. -/
theorem WorkPool.highest_eq_some {ls : List Level} (ordered : ls.Pairwise fun x y => y ∈ x.below) (mem : v ∈ ls)
    (work : w.list v ≠ []) (above : ∀ x ∈ ls, v ∈ x.below → w.list x = []) : w.highest ls = some v := by
  obtain ⟨before, after, rfl⟩ := List.append_of_mem mem
  obtain ⟨-, -, higher⟩ := List.pairwise_append.1 ordered
  refine List.find?_eq_some_iff_append.2 ⟨by simpa using work, before, after, rfl, fun x hx => ?_⟩
  simpa using above x (by simp [hx]) (higher x hx v (by simp))

/-! ## The grant (R108) -/

theorem WorkPool.agingLevel_eq_none
    (young : w.aging < 8 ∨ ∀ run, w.runLevel = some run → ∀ x ∈ run.below, w.list x = []) : w.agingLevel = none := by
  unfold WorkPool.agingLevel
  split
  next old =>
    split
    next run level => exact WorkPool.highest_eq_none_iff.2 (young.resolve_left old.not_gt run level)
    next => rfl
  next => rfl

theorem WorkPool.grant_eq {aging : Bool} {e : WorkEntry} {rest : List WorkEntry} (choice : w.choose = some (v, aging))
    (head : w.list v = e :: rest) : w.grant = some (e, aging, (w.afterGrant v aging).setList v rest) := by
  simp only [WorkPool.grant, choice, head]

/-- A list replaced leaves the run level and the aging count, and they may be written before or after it. -/
theorem WorkPool.setList_withRun (l : List WorkEntry) (run : Option Level) (aging : Nat) :
    ({ w with runLevel := run, aging := aging } : WorkPool).setList v l =
      { w.setList v l with runLevel := run, aging := aging } := by
  cases v <;> rfl

theorem WorkPool.setList_withAging (l : List WorkEntry) (aging : Nat) :
    ({ w with aging := aging } : WorkPool).setList v l = { w.setList v l with aging := aging } := by
  cases v <;> rfl

/-- Run level and aging count after a grant that is no aging grant. -/
theorem WorkPool.afterGrant_last (last : ∀ x ∈ v.below, w.list x = []) :
    w.afterGrant v false = { w with runLevel := none, aging := 0 } := by
  simp [WorkPool.afterGrant, WorkPool.highest_eq_none_iff.2 last]

theorem WorkPool.afterGrant_more (more : ∃ x ∈ v.below, w.list x ≠ []) : w.afterGrant v false =
    if w.runLevel = some v then { w with aging := w.aging + 1 } else { w with runLevel := some v, aging := 1 } := by
  have below : w.highest v.below ≠ none := by
    obtain ⟨x, mem, work⟩ := more
    exact fun none => work (WorkPool.highest_eq_none_iff.1 none x mem)
  simp [WorkPool.afterGrant, below]

theorem exec_grant_of_none {s : State} (disabled : s.fu ≠ .idle ∨ s.pool.grant = none) : exec .grant s = .next s := by
  simp only [exec, execGrant]
  split
  next idle found =>
    rcases disabled with busy | none
    · exact absurd idle busy
    · cases found.symm.trans none
  next => rfl

theorem WorkPool.grant_of_no_work (empty : ∀ v, w.list v = []) : w.grant = none := by
  have unaged : w.agingLevel = none := WorkPool.agingLevel_eq_none (.inr fun _ _ x _ => empty x)
  rw [WorkPool.grant, WorkPool.choose, unaged, WorkPool.highest_eq_none_iff.2 fun x _ => empty x]
  rfl

end

/-- Settles O56: without an aging grant the highest level with work is granted from; an aging grant is made from the highest level
with work below the run level. -/
theorem arbiterChoice : Obligations.ArbiterChoice := by
  unfold Obligations.ArbiterChoice
  refine ⟨fun w v e rest head above young => ?_, fun w run v e rest aging level below head above => ?_,
    fun s empty => exec_grant_of_none (.inr (WorkPool.grant_of_no_work empty)),
    fun s p busy => exec_grant_of_none (.inl fun idle => by simp [idle] at busy)⟩
  · intro after
    have highest : w.highest Level.all = some v :=
      WorkPool.highest_eq_some Level.pairwise_all v.mem_all (by simp [head]) fun x _ => above x
    have choice : w.choose = some (v, false) := by
      rw [WorkPool.choose, WorkPool.agingLevel_eq_none young, highest]
      rfl
    rw [WorkPool.grant_eq choice head]
    refine ⟨fun last => ?_, fun more => ⟨fun same => ?_, fun other => ?_⟩⟩
    · rw [WorkPool.afterGrant_last last, WorkPool.setList_withRun]
    · rw [WorkPool.afterGrant_more more, if_pos same, WorkPool.setList_withAging]
    · rw [WorkPool.afterGrant_more more, if_neg other, WorkPool.setList_withRun]
  · have highest : w.highest run.below = some v :=
      WorkPool.highest_eq_some run.pairwise_below below (by simp [head]) above
    have choice : w.choose = some (v, true) := by
      simp only [WorkPool.choose, WorkPool.agingLevel, aging, level, highest]
      rfl
    rw [WorkPool.grant_eq choice head, WorkPool.afterGrant, if_pos rfl, WorkPool.setList_withRun]

end Sys2Proof.Machine
end

section
/-! PROOFS. A pricing from its grant to its end, and a stalled pricing's rest (R109 to R111, R131, R133, R136, R151 to R153,
R161). -/

namespace Sys2Proof.Machine

open Sys2Proof

section
variable {s t : State} {e : WorkEntry} {isAging : Bool} {w : WorkPool} {jt : JourneyTable} {rt : ReferralTable}
  {summary : List (Card × Day)}

/-! ## What an outcome update writes (R131) -/

/-- The parts that an outcome update writes, the counters aside. -/
def State.withOutcome (jt : JourneyTable) (rt : ReferralTable) (summary : List (Card × Day)) (s : State) : State :=
  { s with jt := jt, rt := rt, roll := { s.roll with summary := summary } }

/-- `t` is `s` with an outcome update written, the counters marked in `written` raised. -/
def State.Writes (jt : JourneyTable) (rt : ReferralTable) (summary : List (Card × Day)) (written : CounterId → Bool)
    (s t : State) : Prop := t = (s.withOutcome jt rt summary).withCounters t.counters ∧ s.Counted written t

/-- Which of the counters that outcome updates raise do so: that of a record that is gone, that of a diversion without a slot, those
by reason of diversion, and those by condition (R148, R151, R153, R161). -/
structure OutcomeCounts where
  gone : Bool
  unavailable : Bool
  diverted : DivertReason → Bool
  condition : Condition → Bool

/-- The marks by counter. -/
def OutcomeCounts.raised (m : OutcomeCounts) : CounterId → Bool
  | .recordGone => m.gone
  | .referralUnavailable => m.unavailable
  | .diverts z => m.diverted z
  | .conditions y => m.condition y
  | _ => false

/-! ## The gate answer (R42, R136) -/

/-- An answer is delivered or counted by the port alone, whatever an outcome update has written. -/
theorem State.handAnswer_withOutcome (p : PortId) (n : BitVec 16) (k : TapNo) (a : Answer) (cs : Counters) (s : State) :
    ((s.withOutcome jt rt summary).withCounters cs).handAnswer p n k a =
      ((s.handAnswer p n k a).withOutcome jt rt summary).withCounters
        (((s.withOutcome jt rt summary).withCounters cs).handAnswer p n k a).counters := by
  unfold State.handAnswer
  by_cases there : (s.port p).st = .attached ∧ (s.port p).carrier = true ∧ (s.port p).attachment = n
  · rw [if_pos there]
    exact (if_pos (by exact there)).trans (by rw [if_pos (by exact there)]; rfl)
  · rw [if_neg there]
    exact (if_neg (by exact there)).trans (by rw [if_neg (by exact there)]; rfl)

theorem State.gateAnswered_withOutcome (e : WorkEntry) (a : Answer) (cs : Counters) (s : State) :
    State.gateAnswered e a ((s.withOutcome jt rt summary).withCounters cs) =
      ((State.gateAnswered e a s).withOutcome jt rt summary).withCounters
        (State.gateAnswered e a ((s.withOutcome jt rt summary).withCounters cs)).counters := by
  unfold State.gateAnswered
  cases e.waiting with
  | none => rfl
  | some x =>
    dsimp only
    split
    · exact State.handAnswer_withOutcome _ _ _ _ _ _
    · rfl

/-- An answer that the port does not take is counted there. -/
theorem State.counted_handAnswer (p : PortId) (n : BitVec 16) (k : TapNo) (a : Answer) (s : State) :
    s.Counted (fun c => match c with
        | .port q .discardedAnswers =>
          p == q && !((s.port q).st == .attached && (s.port q).carrier && (s.port q).attachment == n)
        | _ => false) (s.handAnswer p n k a) := by
  unfold State.handAnswer
  by_cases there : (s.port p).st = .attached ∧ (s.port p).carrier = true ∧ (s.port p).attachment = n
  · rw [if_pos there]
    obtain ⟨attached, carrier, attachment⟩ := there
    refine s.counted_none.congr (fun c => ?_) rfl rfl
    split
    next q =>
      by_cases same : p = q
      · subst same
        simp [attached, carrier, attachment]
      · simp [same]
    next => rfl
  · rw [if_neg there]
    refine (s.counted_bump (.port p .discardedAnswers)).congr (fun c => ?_) rfl rfl
    split
    next q =>
      by_cases same : p = q
      · subst same
        simpa [imp_iff_not_or, or_assoc] using there
      · simp [same, Ne.symm same]
    next other => exact decide_eq_false fun same => other p same

theorem State.counted_gateAnswered (e : WorkEntry) (a : Answer) (s : State) :
    s.Counted (fun c => match c with | .port p .discardedAnswers => s.discards e p | _ => false)
      (State.gateAnswered e a s) := by
  unfold State.gateAnswered State.discards
  cases e.waiting with
  | none => exact s.counted_none.congr (fun c => by split <;> rfl) rfl rfl
  | some x =>
    cases live : x.live
    · exact s.counted_none.congr (fun c => by simp only [live, Bool.false_and]; split <;> rfl) rfl (by simp [live])
    · simp only [live, if_true, Bool.true_and]
      exact (s.counted_handAnswer _ _ _ a).congr (fun c => by split <;> rfl) rfl rfl

/-! ## The grant (R108, R109) -/

/-- The state at the start of a granted pricing: the pool after the grant, an aging grant counted. -/
def State.granted (isAging : Bool) (w : WorkPool) (s : State) : State :=
  if isAging then State.bump .agingGrants { s with pool := w } else { s with pool := w }

theorem State.granted_eq (isAging : Bool) (w : WorkPool) (s : State) :
    s.granted isAging w = State.withCounters (s.granted isAging w).counters { s with pool := w } := by
  cases isAging <;> rfl

theorem State.counted_granted (isAging : Bool) (w : WorkPool) (s : State) :
    s.Counted (fun c => isAging && decide (c = .agingGrants)) (s.granted isAging w) := by
  cases isAging
  · exact s.counted_none.congr (fun _ => rfl) rfl rfl
  · exact (s.counted_bump .agingGrants).congr (fun _ => rfl) rfl rfl

/-- The idle Fare Unit is granted `e`: the pool `w` after the grant, the copies `c` taken, the reckoning `k` made. -/
structure State.Grants (s : State) (e : WorkEntry) (isAging : Bool) (w : WorkPool) (c : Copies) (k : Reckoning) : Prop where
  idle : s.fu = .idle
  grant : s.pool.grant = some (e, isAging, w)
  copied : State.copiesFor { s with pool := w } e = c
  reckoned : State.reckoningFor { s with pool := w } e c = k

theorem State.Grants.step {c : Copies} {k : Reckoning} (h : s.Grants e isAging w c k) {p : Pricing}
    (decided : (s.granted isAging w).outcomeUpdate e c k = (p, t)) :
    exec .grant s = .next ((t.answerGate p).placeAndFinish p) := by
  have granted : exec .grant s = .next ((s.granted isAging w).priceEntry e) := by
    simp only [exec, execGrant]
    split
    next found =>
      obtain ⟨rfl, rfl, rfl⟩ : _ ∧ _ ∧ _ := by simpa using found.symm.trans h.grant
      rfl
    next other => exact (other _ _ _ h.idle h.grant).elim
  have update : (s.granted isAging w).outcomeUpdate e ((s.granted isAging w).copiesFor e)
      ((s.granted isAging w).reckoningFor e ((s.granted isAging w).copiesFor e)) = (p, t) := by
    rw [← decided, ← h.reckoned, ← h.copied, State.granted_eq]
    rfl
  rw [granted, State.priceEntry, update]

/-! ## The outcome update (R131, R133, R151, R153, R161) -/

section
variable {r : Record} {c : Copies} {k m : Reckoning}

theorem State.outcomeUpdate_gone (gone : s.jt.lookup e.card e.day = none) : s.outcomeUpdate e c k = s.chargeGone e c k := by
  rw [State.outcomeUpdate, gone]

/-- A pricing with a ticket, with nothing that triggers, or with no referral entry free is charged; the last alone bears
REFERRAL_UNAVAILABLE. -/
theorem State.outcomeUpdate_charged (held : s.jt.lookup e.card e.day = some r)
    (capped : k.withCharge (appliesCap e.kind c.answer) r.dayTotal = m)
    (charged : e.ticket.isSome = true ∨ divertReason m.productRow c.mask m.conds = none ∨ s.rt.freeList = []) :
    s.outcomeUpdate e c k =
      s.chargeRecord e c m r (e.ticket.isNone && (divertReason m.productRow c.mask m.conds).isSome) := by
  simp only [State.outcomeUpdate, held, capped, disposition]
  cases ticket : e.ticket with
  | some t => rfl
  | none =>
    cases reason : divertReason m.productRow c.mask m.conds with
    | none => rfl
    | some x =>
      have empty : s.rt.freeList = [] := by simpa [ticket, reason] using charged
      rw [empty]
      rfl

theorem State.outcomeUpdate_diverted (held : s.jt.lookup e.card e.day = some r)
    (capped : k.withCharge (appliesCap e.kind c.answer) r.dayTotal = m) (ticket : e.ticket = none) {reason : DivertReason}
    {slot : Fin 256} {rest : List (Fin 256)} (diverts : divertReason m.productRow c.mask m.conds = some reason)
    (free : s.rt.freeList = slot :: rest) : s.outcomeUpdate e c k = s.divert e c m r reason slot rest := by
  simp only [State.outcomeUpdate, held, capped, disposition, ticket, diverts, free]
  rfl

theorem State.writeRecord_reportIfReady (v : Record) (s : State) : (s.writeRecord v).reportIfReady v =
    s.withOutcome (s.jt.write v) s.rt (summaryWith v s.roll.summary) := by
  rw [State.reportIfReady_eq]
  rfl

theorem State.writes_withOutcome (s : State) :
    s.Writes jt rt summary (fun _ => false) (s.withOutcome jt rt summary) :=
  ⟨rfl, s.counted_none.congr (fun _ => rfl) rfl rfl⟩

/-- Counters raised behind what an outcome update has written. -/
theorem State.Writes.count {u : State} {f g : CounterId → Bool} (writes : s.Writes jt rt summary f t)
    (same : u = t.withCounters u.counters) (counts : t.Counted g u) (apart : ∀ x, f x = true → g x = true → False) :
    s.Writes jt rt summary (fun x => f x || g x) u := by
  obtain ⟨parts, counted⟩ := writes
  refine ⟨?_, counted.then counts apart⟩
  rw [same, parts]
  rfl

theorem State.Writes.bump {f : CounterId → Bool} (writes : s.Writes jt rt summary f t) {c : CounterId} (unraised : f c = false) :
    s.Writes jt rt summary (fun x => f x || decide (x = c)) (t.bump c) := by
  refine writes.count (State.bump_eq c t) (State.counted_bump c t) fun x old new => ?_
  rw [of_decide_eq_true new, unraised] at old
  exact Bool.false_ne_true old

theorem State.Writes.congr {f g : CounterId → Bool} (writes : s.Writes jt rt summary f t) (same : ∀ x, f x = g x) :
    s.Writes jt rt summary g t :=
  ⟨writes.1, writes.2.congr same rfl rfl⟩

/-- The conditions that the referral entry of work with a ticket has stored; none for work without one (R148). -/
def State.storedConds (e : WorkEntry) (s : State) : CondSet :=
  match e.ticket with
  | some t => (s.rt.entry (slotOfTicket t)).conds
  | none => 0

theorem State.chargeRecord_writes (unavailable : Bool) {v : Record} (charge : r.charge k.undiverted e.settles = v)
    {conds stored : CondSet} (union : k.conds ||| k.asideConds = conds) (ticket : s.storedConds e = stored) :
    s.Writes (s.jt.write v) s.rt (summaryWith v s.roll.summary)
      (OutcomeCounts.raised ⟨false, unavailable, fun _ => false, fun y => conds.has y && !stored.has y⟩)
      (s.chargeRecord e c k r unavailable).2 := by
  subst charge union
  have written := State.writes_withOutcome (jt := s.jt.write (r.charge k.undiverted e.settles)) (rt := s.rt)
    (summary := summaryWith (r.charge k.undiverted e.settles) s.roll.summary) s
  have conditions := written.count (State.countConditions_eq e k.undiverted.conds _)
    (State.counted_countConditions _ _ stored _ ticket.symm) nofun
  unfold State.chargeRecord
  dsimp only
  rw [State.writeRecord_reportIfReady]
  cases unavailable
  · exact conditions.congr fun x => by cases x <;> rfl
  · exact (conditions.bump rfl).congr fun x => by cases x <;> simp [OutcomeCounts.raised, Reckoning.undiverted]

theorem State.chargeGone_writes {conds stored : CondSet} (union : k.conds ||| k.asideConds = conds)
    (ticket : s.storedConds e = stored) :
    s.Writes s.jt s.rt s.roll.summary
      (OutcomeCounts.raised ⟨true, false, fun _ => false, fun y => conds.has y && !stored.has y⟩)
      (s.chargeGone e c k).2 := by
  subst union
  have conditions := (State.writes_withOutcome (jt := s.jt) (rt := s.rt) (summary := s.roll.summary) s).count
    (State.countConditions_eq e k.undiverted.conds s) (State.counted_countConditions _ _ stored _ ticket.symm) nofun
  exact (conditions.bump (c := .recordGone) rfl).congr fun x => by
    cases x <;> simp [OutcomeCounts.raised, Reckoning.undiverted]

/-- The Referral Table with its head slot filled by a diversion (R151). -/
def ReferralTable.filled (slot : Fin 256) (rest : List (Fin 256)) (x : RefEntry) (rt : ReferralTable) : ReferralTable where
  entries := rt.entries.set slot x
  freeList := rest
  ready := if x.due = true ∧ slot ∉ rt.ready then rt.ready ++ [slot] else rt.ready

theorem State.makeReferral_eq (slot : Fin 256) (rest : List (Fin 256)) (x : RefEntry) (s : State) :
    s.makeReferral slot rest x = { s with rt := s.rt.filled slot rest x } := by
  have ready : (if x.due = true then joinTail slot s.rt.ready else s.rt.ready) = (s.rt.filled slot rest x).ready := by
    unfold joinTail ReferralTable.filled
    by_cases due : x.due = true
    · by_cases mem : slot ∈ s.rt.ready <;> simp [due, mem]
    · simp [due]
  rw [State.makeReferral, ready]
  rfl

theorem State.divert_writes {reason : DivertReason} {slot : Fin 256} {rest : List (Fin 256)} {x : RefEntry}
    (entry : s.referralFor e c k reason ((s.rt.entry slot).useCount + 1) = x) :
    s.Writes (s.jt.write r) (s.rt.filled slot rest x) (summaryWith r s.roll.summary)
      (OutcomeCounts.raised ⟨false, false, fun z => decide (z = reason), k.conds.has⟩)
      (s.divert e c k r reason slot rest).2 := by
  unfold State.divert
  simp only [entry, State.makeReferral_eq, State.writeRecord_reportIfReady]
  have reasoned := (State.writes_withOutcome (jt := s.jt.write r) (rt := s.rt.filled slot rest x)
    (summary := summaryWith r s.roll.summary) s).bump (c := .diverts reason) rfl
  refine (reasoned.count (State.bumpConditions_eq k.conds _) (State.counted_conditions _ _) fun y old new => ?_).congr
    fun y => ?_
  · obtain rfl : y = .diverts reason := by simpa using old
    cases new
  · cases y <;> simp [OutcomeCounts.raised]

end

/-! ## From the grant to the gate's answer (R108 to R110) -/

/-- The grant decides the pricing `p`, with the outcome update written in `t`. -/
structure State.GrantDecides (s : State) (isAging : Bool) (w : WorkPool) (p : Pricing) (t : State) (jt : JourneyTable)
    (rt : ReferralTable) (summary : List (Card × Day)) (written : OutcomeCounts) : Prop where
  step : exec .grant s = .next ((t.answerGate p).placeAndFinish p)
  writes : (s.granted isAging w).Writes jt rt summary written.raised t

/-- The counters that rise at a grant whose outcome counts `counted`. -/
def State.grantCounts (s : State) (e : WorkEntry) (isAging : Bool) (counted : CounterId → Bool) (c : CounterId) : Bool :=
  counted c || match c with
    | .agingGrants => isAging
    | .stalls => !decide (s.lli.bulk.length < 512)
    | .port p .discardedAnswers => s.discards e p
    | _ => false

/-- The parts of a granted pricing after its gate's answer, the counters aside. -/
def State.priced (p : Pricing) (w : WorkPool) (jt : JourneyTable) (rt : ReferralTable) (summary : List (Card × Day))
    (s : State) : State :=
  { State.gateAnswered p.entry p.gateAnswer { s with pool := w } with
    jt := jt, rt := rt, roll := { s.roll with summary := summary } }

section
variable {p : Pricing} {written : OutcomeCounts}

theorem State.withOutcome_answerGate (p : Pricing) (w : WorkPool) (s : State) :
    (State.answerGate p { s with pool := w }).withOutcome jt rt summary = s.priced p w jt rt summary := by
  rw [State.withOutcome, State.answerGate_roll]
  rfl

section
variable {c : Copies} {k m : Reckoning} {r : Record}

/-- The grant's own counter is raised before the outcome update, which reads no counter. -/
theorem State.Grants.decides (h : s.Grants e isAging w c k) {t : Counters → State}
    (decided : ∀ cs, (State.withCounters cs { s with pool := w }).outcomeUpdate e c k = (p, t cs))
    (writes : ∀ cs, (State.withCounters cs { s with pool := w }).Writes jt rt summary written.raised (t cs)) :
    ∃ t, s.GrantDecides isAging w p t jt rt summary written := by
  have start := State.granted_eq isAging w s
  refine ⟨t (s.granted isAging w).counters, h.step ?_, ?_⟩
  · rw [start]
    exact decided _
  · have := writes (s.granted isAging w).counters
    rwa [← start] at this

theorem State.Grants.decides_gone (h : s.Grants e isAging w c k) (gone : s.jt.lookup e.card e.day = none)
    {conds stored : CondSet} (union : k.conds ||| k.asideConds = conds) (ticket : s.storedConds e = stored) :
    ∃ t, s.GrantDecides isAging w ⟨e, c, { k.undiverted with charged := k.fareToCharge }, .charged none false⟩ t s.jt s.rt
      s.roll.summary ⟨true, false, fun _ => false, fun y => conds.has y && !stored.has y⟩ :=
  h.decides (fun _ => State.outcomeUpdate_gone (by exact gone)) fun _ => State.chargeGone_writes (c := c) union (by exact ticket)

theorem State.Grants.decides_charged (h : s.Grants e isAging w c k) (held : s.jt.lookup e.card e.day = some r)
    (capped : k.withCharge (appliesCap e.kind c.answer) r.dayTotal = m)
    (charged : e.ticket.isSome = true ∨ divertReason m.productRow c.mask m.conds = none ∨ s.rt.freeList = [])
    {unavailable : Bool} (bears : (e.ticket.isNone && (divertReason m.productRow c.mask m.conds).isSome) = unavailable)
    {v : Record} (charge : r.charge m.undiverted e.settles = v) {conds stored : CondSet}
    (union : m.conds ||| m.asideConds = conds) (ticket : s.storedConds e = stored) :
    ∃ t, s.GrantDecides isAging w ⟨e, c, m.undiverted, .charged (some v.dayTotal) unavailable⟩ t (s.jt.write v) s.rt
      (summaryWith v s.roll.summary) ⟨false, unavailable, fun _ => false, fun y => conds.has y && !stored.has y⟩ := by
  subst bears charge
  exact h.decides (fun _ => State.outcomeUpdate_charged (by exact held) capped (by exact charged))
    fun _ => State.chargeRecord_writes (c := c) _ rfl union (by exact ticket)

theorem State.Grants.decides_diverted (h : s.Grants e isAging w c k) (held : s.jt.lookup e.card e.day = some r)
    (capped : k.withCharge (appliesCap e.kind c.answer) r.dayTotal = m) (ticket : e.ticket = none) {reason : DivertReason}
    (diverts : divertReason m.productRow c.mask m.conds = some reason) {slot : Fin 256} {rest : List (Fin 256)}
    (free : s.rt.freeList = slot :: rest) {x : RefEntry}
    (entry : s.referralFor e c m reason ((s.rt.entry slot).useCount + 1) = x) :
    ∃ t, s.GrantDecides isAging w ⟨e, c, m, .diverted slot⟩ t (s.jt.write r) (s.rt.filled slot rest x)
      (summaryWith r s.roll.summary) ⟨false, false, fun z => decide (z = reason), m.conds.has⟩ :=
  h.decides (fun _ => State.outcomeUpdate_diverted (by exact held) capped ticket diverts (by exact free))
    fun _ => State.divert_writes (c := c) (by exact entry)

end

theorem State.GrantDecides.parts (h : s.GrantDecides isAging w p t jt rt summary written) :
    t = (State.withOutcome jt rt summary { s with pool := w }).withCounters t.counters := by
  rw [h.writes.1, State.granted_eq]
  rfl

theorem State.GrantDecides.answered (h : s.GrantDecides isAging w p t jt rt summary written) :
    t.answerGate p = (s.priced p w jt rt summary).withCounters (t.answerGate p).counters := by
  rw [← State.withOutcome_answerGate, h.parts]
  exact State.gateAnswered_withOutcome p.entry p.gateAnswer t.counters { s with pool := w }

theorem State.GrantDecides.counted (h : s.GrantDecides isAging w p t jt rt summary written) :
    s.Counted (fun c => isAging && decide (c = .agingGrants) || written.raised c || match c with
      | .port q .discardedAnswers => s.discards p.entry q
      | _ => false) (t.answerGate p) := by
  have discards : t.discards p.entry = s.discards p.entry := by
    rw [h.parts]
    rfl
  rw [← discards]
  refine ((s.counted_granted isAging w).then h.writes.2 fun c aging old => ?_).then
    (State.counted_gateAnswered p.entry p.gateAnswer t) fun c old discarded => ?_
  · obtain ⟨-, rfl⟩ : _ ∧ c = .agingGrants := by simpa using aging
    cases old
  · split at discarded
    · simp [OutcomeCounts.raised] at old
    · cases discarded

/-! ## The frame, the endings and the release, or the stall (R110, R111, R159) -/

theorem State.GrantDecides.counted_bump (h : s.GrantDecides isAging w p t jt rt summary written) {counted : CounterId → Bool}
    (counts : ∀ x, counted x = (written.raised x || decide (s.lli.bulk.length < 512) && decide (x = p.outcome.counter))) :
    s.Counted (s.grantCounts p.entry isAging counted)
      (State.bump (if s.lli.bulk.length < 512 then p.outcome.counter else .stalls) (t.answerGate p)) := by
  refine (h.counted.then (State.counted_bump _ _) fun c old new => ?_).congr (fun c => ?_) rfl rfl
  · obtain rfl := of_decide_eq_true new
    by_cases room : s.lli.bulk.length < 512
    · cases outcome : p.outcome <;> simp [room, outcome, PriceOutcome.counter, OutcomeCounts.raised] at old
    · simp [room, OutcomeCounts.raised] at old
  · unfold State.grantCounts
    rw [counts c]
    by_cases room : s.lli.bulk.length < 512
    · cases c with
      | port q k => cases k <;> cases outcome : p.outcome <;> simp [room, PriceOutcome.counter, OutcomeCounts.raised]
      | _ => cases outcome : p.outcome <;> simp [room, PriceOutcome.counter, OutcomeCounts.raised]
    · cases c with
      | port q k => cases k <;> simp [room, OutcomeCounts.raised]
      | _ => simp [room, OutcomeCounts.raised]

/-- A granted pricing: the gate's answer, and the end of the pricing with a bulk place or the stall with none. -/
theorem State.GrantDecides.comes (h : s.GrantDecides isAging w p t jt rt summary written) {frame : Nat → UpFrame}
    {kept : State → Prop} (framed : ∀ x : State, kept x → x.frameOf p = frame x.clock.time)
    (keeps : ∀ x : State, x.rt = rt → kept x) {counted : CounterId → Bool}
    (counts : ∀ x, counted x = (written.raised x || decide (s.lli.bulk.length < 512) && decide (x = p.outcome.counter))) :
    (s.lli.bulk.length < 512 → ∃ u, exec .grant s = .next u ∧ s.Counted (s.grantCounts p.entry isAging counted) u ∧
      u = { (s.priced p w jt rt summary).pricingEnded p.entry (frame s.clock.time) with counters := u.counters }) ∧
    (512 ≤ s.lli.bulk.length → ∃ u q, exec .grant s = .next u ∧ s.Counted (s.grantCounts p.entry isAging counted) u ∧
      u = { s.priced p w jt rt summary with fu := .stalled q, counters := u.counters } ∧ q.entry = p.entry ∧
      ∀ x : State, kept x → x.frameOf q = frame x.clock.time) := by
  have counts := h.counted_bump counts
  have lli : (t.answerGate p).lli = s.lli := by
    rw [h.answered]
    exact State.answerGate_lli p { s with pool := w }
  have clock : (t.answerGate p).clock = s.clock := by
    rw [h.answered]
    exact State.answerGate_clock p { s with pool := w }
  have ended : (t.answerGate p).pricingEnded p.entry ((t.answerGate p).frameOf p) =
      ((s.priced p w jt rt summary).pricingEnded p.entry (frame s.clock.time)).withCounters (t.answerGate p).counters := by
    rw [framed _ (keeps _ (h.answered ▸ rfl)), clock, ← State.pricingEnded_withCounters, ← h.answered]
  obtain ⟨ends, stalls⟩ := (t.answerGate p).placeAndFinish_cases p
  rw [h.step, ← lli]
  refine ⟨fun room => ?_, fun full => ?_⟩
  · refine ⟨_, rfl, ?_, ?_⟩
    · rw [ends room, State.placeOutcome_finishPricing]
      rw [← lli, if_pos room] at counts
      exact counts
    · rw [ends room, State.placeOutcome_finishPricing, ended]
      rfl
  · refine ⟨_, p, rfl, ?_, ?_, rfl, framed⟩
    · rw [stalls full]
      rw [← lli, if_neg full.not_gt] at counts
      exact counts
    · rw [stalls full, h.answered]
      rfl

end

/-- The REFERRAL_REQUEST of a diversion tells its entry, as it stands when the frame is placed (R152). -/
theorem State.frameOf_diverted {p : Pricing} {slot : Fin 256} {x : RefEntry} (outcome : p.outcome = .diverted slot)
    (entry : s.rt.entry slot = x) :
    s.frameOf p = .referralRequest (requestOf x slot p.reck.authRef s.clock.time) := by
  subst entry
  simp only [State.frameOf, outcome]
  rfl

/-! ## The rest of a stalled pricing (R111) -/

theorem exec_stallResume {p : Pricing} (stalled : s.fu = .stalled p) : exec .stallResume s =
    .next (if s.lli.bulk.length < 512 then
      (s.pricingEnded p.entry (s.frameOf p)).withCounters (s.counters.add p.outcome.counter 1) else s) := by
  rw [← State.placeOutcome_finishPricing]
  simp only [exec, execStallResume]
  split
  next q found =>
    obtain rfl : q = p := by simpa using found.symm.trans stalled
    simp only [LineLink.bulkHasPlace, decide_eq_true_eq]
    split <;> rfl
  next other => exact (other _ stalled).elim

end

/-- Settles O57: the record, the ticket, the conditions and the free list decide the outcome update; what comes of it is said once
for the three outcomes. -/
theorem pricingCompletes : Obligations.PricingCompletes := by
  unfold Obligations.PricingCompletes
  refine ⟨fun s e isAging w idle grant => ?_, fun s p stalled => ?_⟩
  · intro g copies k mask cap stored place comes charged
    have grants : s.Grants e isAging w copies k := ⟨idle, grant, rfl, rfl⟩
    clear_value k
    refine ⟨fun r held => ?_, fun gone => ?_⟩
    · intro c conds total v unavailable
      have capped : k.withCharge (appliesCap e.kind copies.answer) r.dayTotal = c := rfl
      clear_value c
      refine ⟨fun stays => ?_, fun reason slot rest ticket diverts free => ?_⟩
      · obtain ⟨t, decides⟩ := grants.decides_charged held capped stays (unavailable := unavailable) rfl (v := v) rfl
          (conds := conds) rfl (stored := stored) rfl
        refine decides.comes (frame := charged c.charged conds (some total) unavailable) (kept := fun _ => True)
          (fun _ _ => by subst capped; rfl) (fun _ _ => trivial) fun x => ?_
        cases x <;> simp [OutcomeCounts.raised, PriceOutcome.counter, place]
      · intro dueTime x
        obtain ⟨t, decides⟩ := grants.decides_diverted held capped ticket diverts free (x := x) rfl
        have filled : s.rt.filled slot rest x = ⟨s.rt.entries.set slot x, rest,
            if dueTime ≤ s.clock.time ∧ slot ∉ s.rt.ready then s.rt.ready ++ [slot] else s.rt.ready⟩ := by
          simp [ReferralTable.filled, x, referralOf]
        have authRef : c.authRef = k.authRef := by subst capped; rfl
        rw [filled] at decides
        clear_value x
        refine decides.comes (frame := fun t => .referralRequest (requestOf x slot k.authRef t))
          (kept := fun y => y.rt.entry slot = x) (fun y kept => authRef ▸ State.frameOf_diverted rfl kept)
          (fun y same => ?_) fun y => ?_
        · rw [same]
          exact Vector.getElem_set_self ..
        · cases y <;> simp [OutcomeCounts.raised, PriceOutcome.counter, place]
    · intro conds
      obtain ⟨t, decides⟩ := grants.decides_gone gone (conds := conds) rfl (stored := stored) rfl
      refine decides.comes (frame := charged k.fareToCharge conds none false) (kept := fun _ => True) (fun _ _ => rfl)
        (fun _ _ => trivial) fun x => ?_
      cases x <;> simp [OutcomeCounts.raised, PriceOutcome.counter, place]
  · rw [exec_stallResume stalled]
    refine ⟨fun full => by rw [if_neg full.not_gt], fun room => ?_⟩
    rw [if_pos room]
    refine ⟨_, rfl, rfl, (s.counted_bump p.outcome.counter).congr (fun x => ?_) rfl rfl⟩
    cases outcome : p.outcome <;> cases x <;> rfl

end Sys2Proof.Machine
end

section
/-! PROOFS. The work that the head of the ready list creates (R105, R156, R160). -/

namespace Sys2Proof.Machine

open Sys2Proof

section
variable {s : State} {i : Fin 256} {rest : List (Fin 256)}

theorem exec_referralWork (ready : s.rt.ready = i :: rest) :
    exec .referralWork s = .next (if 0 < s.nonTapFree then s.createReferralWork i rest else s) := by
  simp only [exec, execReferralWork, ready]
  split <;> rfl

/-! ## The kind of work (R156, R160) -/

/-- The Referral Table with the work mark of its head entry set, the entry off the ready list. -/
def ReferralTable.marked (i : Fin 256) (rest : List (Fin 256)) (mark : RefWork) (rt : ReferralTable) : ReferralTable where
  entries := rt.entries.set i { rt.entry i with work := mark }
  freeList := rt.freeList
  ready := rest

/-- The state with that work created, the record and the counters aside. -/
def State.withReferralWork (i : Fin 256) (rest : List (Fin 256)) (kind : WorkKind) (mark : RefWork) (s : State) : State :=
  { s with rt := s.rt.marked i rest mark, pool := s.pool.join ((s.rt.entry i).workEntry i kind mark) }

/-- The count of timeouts raised where the work made is a timeout's (R160). -/
def State.countedTimeout (mark : RefWork) (s : State) : State := if mark = .timeout then s.bump .timeouts else s

/-! ## The record's pending count (R70, R156) -/

variable {kind : WorkKind} {mark : RefWork}

theorem State.raiseRecord_held {x : RefEntry} {r : Record} (held : s.jt.lookup x.card x.day = some r)
    (unsaturated : r.pendingCount < Config.pendingMax) :
    s.raiseRecord x = { s with jt := s.jt.write { r with pendingCount := r.pendingCount + 1 } } := by
  have raised : r.raisePending = { r with pendingCount := r.pendingCount + 1 } := by
    rw [Record.raisePending, Nat.min_eq_right unsaturated]
  rw [State.raiseRecord, held]
  simp only [State.writeRecordWithWork, State.countSaturation, if_neg unsaturated.not_ge, raised]
  rfl

theorem State.createReferralWork_held {r : Record} (due : (s.rt.entry i).workDue = some (kind, mark))
    (held : s.jt.lookup (s.rt.entry i).card (s.rt.entry i).day = some r) (unsaturated : r.pendingCount < Config.pendingMax) :
    s.createReferralWork i rest = State.countedTimeout mark { s.withReferralWork i rest kind mark with
      jt := s.jt.write { r with pendingCount := r.pendingCount + 1 } } := by
  simp only [State.createReferralWork, due]
  rw [State.raiseRecord_held (by exact held) unsaturated]
  rfl

theorem State.createReferralWork_gone (due : (s.rt.entry i).workDue = some (kind, mark))
    (gone : s.jt.lookup (s.rt.entry i).card (s.rt.entry i).day = none) :
    s.createReferralWork i rest = State.countedTimeout mark (s.withReferralWork i rest kind mark) := by
  simp only [State.createReferralWork, due, State.raiseRecord, gone]
  rfl

end

/-- Settles O59: the entry at the head of the ready list decides the kind of its work; what its creation does is said once for the
three kinds. -/
theorem referralWorkCreated : Obligations.ReferralWorkCreated := by
  unfold Obligations.ReferralWorkCreated
  intro s i rest ready x created
  have step := exec_referralWork ready
  refine ⟨fun full => by rw [step, full]; rfl, fun room => ?_⟩
  rw [if_pos room] at step
  have works : ∀ kind mark, x.workDue = some (kind, mark) → created kind mark (mark == .timeout) := by
    intro kind mark due
    refine ⟨fun r held unsaturated => ?_, fun gone => ?_⟩
    · rw [step, State.createReferralWork_held due held unsaturated]
      cases mark <;> rfl
    · rw [step, State.createReferralWork_gone due gone]
      cases mark <;> rfl
  refine ⟨fun amount cap state answer => works _ .settle ?_, fun state answer => works _ .settle ?_,
    fun n state answer => works _ .reprice ?_, fun state due => works _ .timeout ?_⟩
  · rw [RefEntry.workDue, state, answer]
  · rw [RefEntry.workDue, state, answer]
  · rw [RefEntry.workDue, state, answer]
  · rw [RefEntry.workDue, state, due]
    rfl

end Sys2Proof.Machine
end

section
/-! PROOFS. The stages of the reckoning S1, S2, S5 and S7: distance, units and the stations of a pricing (R118, R121 to R123, R138),
rounding (R129), the daily cap (R132, R139). -/

namespace Sys2Proof.Machine

open Sys2Proof

/-! ## S1: distance (R121) -/

theorem natDistance_eq (m n : Nat) : natDistance m n = if m ≤ n then n - m else m - n := by
  unfold natDistance
  split <;> omega

theorem natDistance_comm (m n : Nat) : natDistance m n = natDistance n m := Nat.add_comm _ _

theorem natDistance_self (n : Nat) : natDistance n n = 0 := by simp [natDistance]

theorem natDistance_le {m n bound : Nat} (hm : m ≤ bound) (hn : n ≤ bound) : natDistance m n ≤ bound := by
  unfold natDistance
  omega

section
variable (b : Bank) {x y : StationRow}

theorem Bank.distance_sameBranch (same : x.branch = y.branch) : b.distance x y = natDistance x.chainage y.chainage :=
  if_pos same

theorem Bank.distance_fromTrunk (trunk : x.branch = 0) (off : y.branch ≠ 0) :
    b.distance x y = natDistance x.chainage (b.line.junction y.branch) + y.chainage := by
  rw [Bank.distance, if_neg (trunk ▸ off.symm), if_pos trunk]

theorem Bank.distance_toTrunk (off : x.branch ≠ 0) (trunk : y.branch = 0) :
    b.distance x y = natDistance y.chainage (b.line.junction x.branch) + x.chainage := by
  rw [Bank.distance, if_neg (trunk ▸ off), if_neg off, if_pos trunk]

theorem Bank.distance_acrossTrunk (apart : x.branch ≠ y.branch) (hx : x.branch ≠ 0) (hy : y.branch ≠ 0) :
    b.distance x y = x.chainage + natDistance b.line.junction1 b.line.junction2 + y.chainage := by
  rw [Bank.distance, if_neg apart, if_neg hx, if_neg hy]

theorem Bank.distance_comm (x y : StationRow) : b.distance x y = b.distance y x := by
  by_cases same : x.branch = y.branch
  · rw [b.distance_sameBranch same, b.distance_sameBranch same.symm, natDistance_comm]
  by_cases hx : x.branch = 0
  · have hy : y.branch ≠ 0 := hx ▸ Ne.symm same
    rw [b.distance_fromTrunk hx hy, b.distance_toTrunk hy hx]
  by_cases hy : y.branch = 0
  · rw [b.distance_toTrunk hx hy, b.distance_fromTrunk hy hx]
  · rw [b.distance_acrossTrunk same hx hy, b.distance_acrossTrunk (Ne.symm same) hy hx]
    omega

theorem LineRow.junction_le {l : LineRow} {bound : Nat} (h1 : l.junction1 ≤ bound) (h2 : l.junction2 ≤ bound) (branch : Nat) :
    l.junction branch ≤ bound := by
  unfold LineRow.junction
  split <;> assumption

/-- The longest way runs along two branches and the trunk between their junctions. -/
theorem Bank.distance_le {b : Bank} {bound : Nat} (hx : x.chainage ≤ bound) (hy : y.chainage ≤ bound)
    (h1 : b.line.junction1 ≤ bound) (h2 : b.line.junction2 ≤ bound) : b.distance x y ≤ 3 * bound := by
  have along := natDistance_le hx hy
  have fromX := natDistance_le hx (LineRow.junction_le h1 h2 y.branch)
  have fromY := natDistance_le hy (LineRow.junction_le h1 h2 x.branch)
  have between := natDistance_le h1 h2
  unfold Bank.distance
  split_ifs <;> omega

/-! ## S2: units (R122) -/

theorem unitsOf_le_iff {d n : Nat} : unitsOf d ≤ n ↔ d ≤ 100 * n := by
  unfold unitsOf
  omega

/-! ## The stations of a pricing (R118, R120, R123, R138) -/

theorem Bank.station_eq_some_iff {b : Bank} {n : Nat} {r : StationRow} :
    b.station n = some r ↔ b.stations[n]? = some r ∧ r.enabled ≠ 0 := by
  unfold Bank.station
  cases found : b.stations[n]? with
  | none => simp
  | some x =>
    by_cases enabled : x.enabled = 0
    · simpa [StationRow.isEnabled, enabled] using fun same : x = r => same ▸ enabled
    · simpa [StationRow.isEnabled, enabled] using fun same : x = r => same ▸ enabled

/-- The origin that a pricing has a station for, with its source: the one a REPRICE answer names, else the origin half's (R118). -/
def Journey.namedOrigin (j : Journey) (a : Option RefAnswer) : Option (Nat × OriginSource) :=
  match a, j.origin with
  | some (.reprice o), _ => some (o, .referral)
  | _, some h => some (h.station, j.source)
  | _, none => none

/-- S1 and S2 work from the named origin. -/
theorem originOf_namedOrigin (j : Journey) (a : Option RefAnswer) :
    (∀ o src, j.namedOrigin a = some (o, src) → originOf j a = (some o, src)) ∧
      (j.namedOrigin a = none → (originOf j a).1 = none) := by
  unfold Journey.namedOrigin originOf
  cases origin : j.origin with
  | none => rcases a with _ | _ | _ | _ <;> simp
  | some h => rcases a with _ | _ | _ | _ <;> simp

section
variable {j : Journey} {a : Option RefAnswer} {least o : Nat} {src : OriginSource} {d : Half}

theorem Bank.route_both (named : j.namedOrigin a = some (o, src)) (dest : j.dest = some d) :
    b.route least j a = b.routeBetween least src o d.station := by
  simp only [Bank.route, (originOf_namedOrigin j a).1 o src named, dest]

theorem Bank.route_originAlone (named : j.namedOrigin a = some (o, src)) (dest : j.dest = none) :
    b.route least j a = b.routeFrom least src o := by
  simp only [Bank.route, (originOf_namedOrigin j a).1 o src named, dest]

theorem Bank.route_destAlone (unnamed : j.namedOrigin a = none) (dest : j.dest = some d) :
    b.route least j a =
      b.routeTo least (resolve (b.product d.product).expected d.attrs .originHint) d.station := by
  simp only [Bank.route, (originOf_namedOrigin j a).2 unnamed, dest, resolveHalf]

end

theorem Bank.routeBetween_known {b : Bank} {least o d : Nat} {src : OriginSource} (hx : b.station o = some x)
    (hy : b.station d = some y) : b.routeBetween least src o d =
      ⟨some o, some d, src, some (b.distance x y), some (max (unitsOf (b.distance x y)) least), 0⟩ := by
  simp only [Bank.routeBetween, hx, hy]

theorem Bank.routeBetween_unknown {b : Bank} {least o d : Nat} {src : OriginSource}
    (unknown : b.station o = none ∨ b.station d = none) :
    b.routeBetween least src o d = ⟨some o, some d, src, none, none, Condition.stationUnknown.only⟩ := by
  unfold Bank.routeBetween
  rcases unknown with origin | dest
  · rw [origin]
  · rw [dest]
    cases b.station o <;> rfl

end

/-- Settles O16: distance and units by S1's cases, and the route by the stations that a pricing has. -/
theorem distanceAndUnits : Obligations.DistanceAndUnits := by
  unfold Obligations.DistanceAndUnits
  refine ⟨fun b x y => ?_, fun b x y _ _ => b.distance_comm x y,
    fun b x => (b.distance_sameBranch rfl).trans (natDistance_self _), fun b x y hx hy h1 h2 => Bank.distance_le hx hy h1 h2,
    fun d => ⟨unitsOf_le_iff.1 le_rfl, fun n covers => unitsOf_le_iff.2 covers⟩, fun b n r => Bank.station_eq_some_iff,
    fun b least j a => ⟨fun o src d named dest => ?_, fun o src named dest => ?_, fun d named dest => ?_⟩⟩
  · simp only [← natDistance_eq]
    refine ⟨b.distance_sameBranch, fun trunk first => ?_, fun trunk second => ?_, fun first second => ?_⟩
    · rw [b.distance_fromTrunk trunk (by omega), first]
      rfl
    · rw [b.distance_fromTrunk trunk (by omega), second]
      rfl
    · exact b.distance_acrossTrunk (by omega) (by omega) (by omega)
  · have route := b.route_both (least := least) (j := j) (a := a) named dest
    exact ⟨fun x y hx hy => route.trans (Bank.routeBetween_known hx hy),
      fun unknown => route.trans (Bank.routeBetween_unknown unknown)⟩
  · have route := b.route_originAlone (least := least) (j := j) (a := a) named dest
    refine ⟨fun x hx => ?_, fun unknown => ?_⟩
    · rw [route, Bank.routeFrom, hx]
    · rw [route, Bank.routeFrom, unknown]
  · have route := b.route_destAlone (least := least) (j := j) (a := a) named dest
    refine ⟨fun unknown => ?_, fun y hy => ⟨fun o x hint hx => ?_, fun o hint unusable => ?_, fun hint => ?_, fun hint => ?_⟩⟩
    · rw [route, Bank.routeTo, unknown]
    · simp only [route, Bank.routeTo, hy, hint, hx]
      exact Bank.routeBetween_known hx hy
    · simp only [route, Bank.routeTo, hy, hint, unusable]
      rfl
    · simp only [route, Bank.routeTo, hy, hint]
      rfl
    · simp only [route, Bank.routeTo, hy, hint]
      rfl

/-! ## S5: rounding (R129) -/

/-- A rounded fare is at least the whole quotient and less than one cent above N. -/
theorem roundFare_bounds (mode n : Nat) :
    n / 10000000 ≤ roundFare mode n ∧ 10000000 * roundFare mode n < n + 10000000 := by
  unfold roundFare fareDivisor
  dsimp only
  split
  case h_1 => omega
  all_goals split <;> omega

theorem roundConds_has (mode n : Nat) (c : Condition) : (roundConds mode n).has c = true ↔
    (c = .inexact ∧ n % 10000000 ≠ 0) ∨ (c = .zeroRounded ∧ 0 < n ∧ roundFare mode n = 0) := by
  cases c <;> simp [roundConds, CondSet.has_or, Condition.has_onlyIf, Nat.pos_iff_ne_zero]

/-- Settles O17: the four modes by the quotient and the remainder, the conditions and the range by the bounds of a rounded fare. -/
theorem roundingRule : Obligations.RoundingRule := by
  unfold Obligations.RoundingRule
  intro n q r divided below
  have quotient : n / 10000000 = q := by omega
  have remainder : n % 10000000 = r := by omega
  refine ⟨?_, ?_, ?_, ?_, fun mode _ => ?_⟩
  iterate 4 simp only [roundFare, fareDivisor, quotient, remainder]
  obtain ⟨atLeast, near⟩ := roundFare_bounds mode n
  simp only [roundConds_has, remainder]
  refine ⟨by simp [Nat.pos_iff_ne_zero], by simp, fun zero => ?_, fun c inexact zeroRounded => ?_, fun range => ?_⟩
  · obtain ⟨positive, rounded⟩ : 0 < n ∧ roundFare mode n = 0 := by simpa using zero
    have inexact : r ≠ 0 := by omega
    simp [inexact]
  · rw [← Bool.not_eq_true, roundConds_has]
    simp [inexact, zeroRounded]
  · omega

/-! ## S7: the daily cap (R132) -/

theorem capCharge_le_fare (cap total fare : Nat) : capCharge cap total fare ≤ fare := by
  unfold capCharge
  split
  · exact le_rfl
  · exact Nat.min_le_left _ _

/-- What CAPPED adds to the set it joins. -/
theorem Condition.has_or_capped {conds : CondSet} (fresh : conds.has .capped = false) (raised : Bool) :
    (CondSet.has (conds ||| Condition.capped.onlyIf raised) .capped = raised) ∧
      ∀ x : Condition, x ≠ .capped → CondSet.has (conds ||| Condition.capped.onlyIf raised) x = conds.has x := by
  simp only [CondSet.has_or, Condition.has_onlyIf, fresh]
  exact ⟨by simp, fun x other => by simp [other.symm]⟩

section
variable (k : Reckoning) (total : Nat)

theorem Reckoning.withCharge_uncapped : k.withCharge false total = { k with charged := k.fareToCharge } := by
  simp [Reckoning.withCharge, Reckoning.charge, Condition.onlyIf]

theorem Reckoning.withCharge_charged : (k.withCharge true total).charged =
    if k.productRow.cap = 0 then k.fareToCharge else min k.fareToCharge (k.productRow.cap - total) := rfl

theorem Reckoning.withCharge_conds (cap : Bool) (own : k.aside = false) : (k.withCharge cap total).conds =
    k.conds ||| Condition.capped.onlyIf (decide ((k.withCharge cap total).charged < k.fareToCharge)) := by
  simp [Reckoning.withCharge, own]

theorem Reckoning.withCharge_aside (cap : Bool) (aside : k.aside = true) : (k.withCharge cap total).conds = k.conds ∧
    (k.withCharge cap total).asideConds =
      k.asideConds ||| Condition.capped.onlyIf (decide ((k.withCharge cap total).charged < k.fareToCharge)) := by
  simp [Reckoning.withCharge, aside]

end

/-- Settles O18: the charge by the cap, and CAPPED into the set that is not held aside or into the one that is. -/
theorem dailyCapLaw : Obligations.DailyCapLaw := by
  unfold Obligations.DailyCapLaw
  refine ⟨fun k total aside fresh => ?_, Reckoning.withCharge_uncapped, fun k total own fresh => ⟨fun uncapped => ?_, fun cap => ?_⟩⟩
  · obtain ⟨same, joined⟩ := k.withCharge_aside total true aside
    obtain ⟨capped, others⟩ := Condition.has_or_capped fresh (decide ((k.withCharge true total).charged < k.fareToCharge))
    refine ⟨same, k.withCharge_charged total, ?_, ?_⟩
    · rw [joined, capped, decide_eq_true_iff]
    · rwa [joined]
  · have charged : (k.withCharge true total).charged = k.fareToCharge := (k.withCharge_charged total).trans (if_pos uncapped)
    exact ⟨charged, by simp [k.withCharge_conds total true own, charged, Condition.onlyIf]⟩
  · have charged : (k.withCharge true total).charged = min k.fareToCharge (k.productRow.cap - total) :=
      (k.withCharge_charged total).trans (if_neg cap.ne')
    obtain ⟨capped, others⟩ := Condition.has_or_capped fresh (decide ((k.withCharge true total).charged < k.fareToCharge))
    rw [← k.withCharge_conds total true own] at capped others
    refine ⟨charged, ?_, others, fun within => ?_⟩
    · rw [capped, decide_eq_true_iff]
    · rw [charged]
      omega

end Sys2Proof.Machine
end

section
/-! PROOFS. The stages S0 and S3 to S6: attributes, the band row, the factors, the whole fare with its conditions (R119, R120, R124 to
R130); and the disposition (R143, R144). -/

namespace Sys2Proof.Machine

open Sys2Proof

/-! ## The first that fits -/

theorem findSome?_of_first {α β : Type} {f : α → Option β} {a : α} {v : β} {l : List α} {i : Nat} (here : l[i]? = some a)
    (fits : f a = some v) (before : ∀ x < i, ∀ a', l[x]? = some a' → f a' = none) : l.findSome? f = some v := by
  induction l generalizing i with
  | nil => simp at here
  | cons y l ih =>
    cases i with
    | zero =>
      obtain rfl : y = a := by simpa using here
      simp [fits]
    | succ i =>
      have skip : f y = none := before 0 i.succ_pos y rfl
      rw [List.findSome?_cons, skip]
      exact ih here fun x lower a' stands => before (x + 1) (by omega) a' stands

/-- The last number below `n` that fits. -/
theorem find?_range_reverse {p : Nat → Bool} {n i : Nat} (below : i < n) (fits : p i = true)
    (after : ∀ k, i < k → k < n → p k = false) : (List.range n).reverse.find? p = some i := by
  induction n with
  | zero => omega
  | succ n ih =>
    rw [List.range_succ, List.reverse_append]
    by_cases last : i = n
    · subst last
      simp [fits]
    · have skip : p n = false := after n (by omega) n.lt_succ_self
      simpa [skip] using ih (by omega) fun k above lower => after k above (by omega)

/-! ## S0: resolving (R119) -/

theorem slotValue_eq_some_iff {k : AttrKind} {a : Option Attr} {v : Nat} : slotValue k a = some v ↔
    a = some ⟨k, v⟩ ∧ (k = .concession → v ≤ 15) ∧ (k = .companions → v ≤ 7) := by
  rcases a with _ | ⟨kind, value⟩
  · simp [slotValue]
  by_cases same : kind = k
  · subst same
    cases kind <;> simp [slotValue] <;> grind
  · simp [slotValue, same]

/-- Entry `i` of a tap's list fills a slot that expects `k`, with value `v`. -/
def Fills (expected : List Nat) (attrs : List Attr) (k : AttrKind) (i v : Nat) : Prop :=
  expected[i]? = some k.code ∧ attrs[i]? = some ⟨k, v⟩ ∧ (k = .concession → v ≤ 15) ∧ (k = .companions → v ≤ 7)

section
variable {expected : List Nat} {attrs : List Attr} {k : AttrKind} {i v : Nat}

/-- What `resolve` looks for at a position of the expected list: the value that fills it, where it expects `k`. -/
def fillingValue (attrs : List Attr) (k : AttrKind) : Nat × Nat → Option Nat :=
  fun (c, n) => if c = k.code then slotValue k attrs[n]? else none

theorem fillingValue_eq_some_iff {c n : Nat} (slot : expected[n]? = some c) :
    fillingValue attrs k (c, n) = some v ↔ Fills expected attrs k n v := by
  by_cases same : c = k.code
  · simp [fillingValue, Fills, slot, same, slotValue_eq_some_iff]
  · simp [fillingValue, Fills, slot, same]

theorem fillingValue_eq_none {c n : Nat} (slot : expected[n]? = some c) (unfilled : ∀ w, ¬Fills expected attrs k n w) :
    fillingValue attrs k (c, n) = none :=
  Option.eq_none_iff_forall_ne_some.2 fun w hit => unfilled w ((fillingValue_eq_some_iff slot).1 hit)

theorem resolve_notExpected (absent : k.code ∉ expected) : resolve expected attrs k = .notExpected := if_neg absent

theorem resolve_expected (member : k.code ∈ expected) : resolve expected attrs k =
    match expected.zipIdx.findSome? (fillingValue attrs k) with
    | some v => .filled v
    | none => .expectedAbsent := if_pos member

theorem resolve_filled (fills : Fills expected attrs k i v) (first : ∀ x w, x < i → ¬Fills expected attrs k x w) :
    resolve expected attrs k = .filled v := by
  have slot : expected[i]? = some k.code := fills.1
  have found : expected.zipIdx.findSome? (fillingValue attrs k) = some v := by
    refine findSome?_of_first (i := i) (a := (k.code, i)) (by simp [List.getElem?_zipIdx, slot])
      ((fillingValue_eq_some_iff slot).2 fills) fun x lower ⟨c, n⟩ stands => ?_
    obtain ⟨before, rfl⟩ : expected[x]? = some c ∧ x = n := by simpa [List.getElem?_zipIdx] using stands
    exact fillingValue_eq_none before fun w => first x w lower
  rw [resolve_expected (List.mem_of_getElem? slot), found]

theorem resolve_expectedAbsent (member : k.code ∈ expected) (unfilled : ∀ i v, ¬Fills expected attrs k i v) :
    resolve expected attrs k = .expectedAbsent := by
  have found : expected.zipIdx.findSome? (fillingValue attrs k) = none :=
    List.findSome?_eq_none_iff.2 fun ⟨_, n⟩ stands =>
      fillingValue_eq_none (List.mem_zipIdx_iff_getElem?.1 stands) (unfilled n)
  rw [resolve_expected member, found]

end

/-! ## S3: the band row and the band fare (R124) -/

theorem Bank.bandRowFor_spec {b : Bank} {units : Nat} (nonempty : 1 ≤ b.line.bandCount) (within : b.line.bandCount ≤ 16) :
    b.bandRowFor units < b.line.bandCount ∧
      ((units ≤ b.upper (b.bandRowFor units) ∧ ∀ k, k < b.bandRowFor units → b.upper k < units) ∨
        (b.bandRowFor units + 1 = b.line.bandCount ∧ ∀ k, k < b.line.bandCount → b.upper k < units)) := by
  have inUse : b.bandsInUse = b.line.bandCount := Nat.min_eq_right within
  unfold Bank.bandRowFor
  rw [inUse]
  split
  next i found =>
    obtain ⟨covers, inRange, before⟩ := List.find?_range_eq_some.1 found
    exact ⟨by simpa using inRange, .inl ⟨by simpa using covers, fun k lower => by simpa using before k lower⟩⟩
  next found =>
    have above : ∀ k, k < b.line.bandCount → b.upper k < units := by simpa using found
    exact ⟨by omega, .inr ⟨by omega, above⟩⟩

theorem Bank.bandFare_row {b : Bank} {i : Nat} {r : BandRow} (row : b.bands[i]? = some r) (units : Nat) :
    b.bandFare i units = 10 * r.base + r.rate * (units - if i = 0 then 0 else b.upper (i - 1)) := by
  simp only [Bank.bandFare, row]

/-! ## S5: the factors (R127, R128) -/

theorem Bank.timeFactor_row {b : Bank} {time i : Nat} (within : b.line.timeBandCount ≤ 8) (inUse : i < b.line.timeBandCount)
    (started : b.bandStart i ≤ time) (after : ∀ k, i < k → k < b.line.timeBandCount → time < b.bandStart k) :
    b.timeFactor time = b.bandFactor i := by
  have rows : b.timeBandsInUse = b.line.timeBandCount := Nat.min_eq_right within
  have found : (List.range b.timeBandsInUse).reverse.find? (fun i => decide (b.bandStart i ≤ time)) = some i :=
    find?_range_reverse (rows ▸ inUse) (decide_eq_true started) fun k above lower =>
      decide_eq_false (after k above (rows ▸ lower)).not_ge
  simp only [Bank.timeFactor, found]

/-- The last row in use that has started, where the first starts with the day. -/
theorem Bank.exists_lastStarted {b : Bank} (time : Nat) (nonempty : 1 ≤ b.line.timeBandCount) (first : b.bandStart 0 = 0) :
    ∃ i, i < b.line.timeBandCount ∧ b.bandStart i ≤ time ∧ ∀ k, i < k → k < b.line.timeBandCount → time < b.bandStart k := by
  have started : b.bandStart 0 ≤ time := le_of_eq_of_le first time.zero_le
  have bound : 0 ≤ b.line.timeBandCount - 1 := Nat.zero_le _
  refine ⟨Nat.findGreatest (fun i => b.bandStart i ≤ time) (b.line.timeBandCount - 1), ?_,
    Nat.findGreatest_spec (P := fun i => b.bandStart i ≤ time) bound started, fun k above lower => ?_⟩
  · have last := Nat.findGreatest_le (P := fun i => b.bandStart i ≤ time) (b.line.timeBandCount - 1)
    omega
  · exact not_le.1 (Nat.findGreatest_is_greatest (P := fun i => b.bandStart i ≤ time) above (by omega))

theorem Bank.concessionFactor_class {b : Bank} {row : ProductRow} {c : Nat} {r : ConcessionRow}
    (row' : b.concessions[c]? = some r) : b.concessionFactor row (.filled c) = r.factor := by
  simp only [Bank.concessionFactor, row']

/-! ## S3 to S6 (R124 to R130) -/

theorem Resolution.isMissing_iff (r : Resolution) : r.isMissing = true ↔ r = .expectedAbsent := by
  cases r <;> simp [Resolution.isMissing]

theorem Resolution.value_eq (r : Resolution) : r.value = match r with | .filled v => some v | _ => none := by
  cases r <;> rfl

theorem Bank.companions_eq (b : Bank) (j : Journey) :
    b.companions j = match resolveHalf b j.fareHalf .companions with | .filled v => v | _ => 0 := by
  unfold Bank.companions
  cases resolveHalf b j.fareHalf .companions <;> rfl

theorem ProductRow.isFlat_iff (row : ProductRow) : row.isFlat = true ↔ row.kind = 2 := beq_iff_eq

theorem ceilFare_eq (ceiling fare : Nat) : ceilFare ceiling fare = if ceiling < fare then ceiling else fare := by
  unfold ceilFare
  split <;> omega

/-- The fare of the group, in tenth-cents: the band fare, or a FLAT product's amount, once for each who travels (R124 to R126). -/
def Bank.groupFare (b : Bank) (row : ProductRow) (j : Journey) (units : Nat) : Nat :=
  (if row.kind = 2 then 10 * row.flat else b.bandFare (b.bandRowFor units) units) * (1 + b.companions j)

/-- N: the fare of the group times both factors, before it is rounded (R128). -/
def Bank.unrounded (b : Bank) (row : ProductRow) (j : Journey) (units : Nat) : Nat :=
  b.groupFare row j units * b.timeFactor j.time * b.concessionFactor row (resolveHalf b j.fareHalf .concession)

/-- What S3 to S6 report, by the fare of the group and N. -/
theorem Bank.fareStages_eq (b : Bank) (row : ProductRow) (j : Journey) (units : Nat) : b.fareStages row j units =
    { bandRow := if row.kind = 2 then none else some (b.bandRowFor units)
      groupFare := some (b.groupFare row j units)
      companions := b.companions j
      concessionClass := (resolveHalf b j.fareHalf .concession).value
      timeFactor := some (b.timeFactor j.time)
      concessionFactor := some (b.concessionFactor row (resolveHalf b j.fareHalf .concession))
      fare := some (ceilFare b.line.ceiling (roundFare b.line.rounding (b.unrounded row j units)))
      conds := Condition.attributeAbsent.onlyIf ((resolveHalf b j.fareHalf .concession).isMissing ||
          (resolveHalf b j.fareHalf .companions).isMissing) ||| roundConds b.line.rounding (b.unrounded row j units) |||
        ceilConds b.line.ceiling (roundFare b.line.rounding (b.unrounded row j units)) } := by
  simp only [Bank.fareStages, Bank.unrounded, Bank.groupFare, ProductRow.isFlat_iff]

theorem Bank.fareStages_conds_has (b : Bank) (row : ProductRow) (j : Journey) (units : Nat) (c : Condition) :
    (b.fareStages row j units).conds.has c = true ↔
      (c = .attributeAbsent ∧ (resolveHalf b j.fareHalf .concession = .expectedAbsent ∨
        resolveHalf b j.fareHalf .companions = .expectedAbsent)) ∨
      (c = .fareOverflow ∧ b.line.ceiling < roundFare b.line.rounding (b.unrounded row j units)) ∨
      (c = .inexact ∧ b.unrounded row j units % 10000000 ≠ 0) ∨
      (c = .zeroRounded ∧ 0 < b.unrounded row j units ∧ roundFare b.line.rounding (b.unrounded row j units) = 0) := by
  rw [Bank.fareStages_eq]
  simp only [CondSet.has_or, Bool.or_eq_true, roundConds_has, ceilConds, Condition.has_onlyIf, Resolution.isMissing_iff,
    Bool.and_eq_true, decide_eq_true_iff, eq_comm (b := c)]
  tauto

/-! ## The disposition (R143, R144) -/

theorem ProductRow.isReferred_of_kind {row : ProductRow} :
    (row.kind = 0 ∨ row.kind = 3 → row.isReferred = true) ∧ (row.kind = 1 ∨ row.kind = 2 → row.isReferred = false) := by
  unfold ProductRow.isReferred
  constructor <;> rintro (kind | kind) <;> simp [kind]

theorem Condition.has_only (c d : Condition) : c.only.has d = decide (c = d) := by
  simpa [Condition.onlyIf] using Condition.has_onlyIf c d true

theorem triggering_has (row : ProductRow) (mask own : CondSet) (c : Condition) : (triggering row mask own).has c = true ↔
    own.has c = true ∧ (mask.has c = true ∨ c = .stationUnknown ∨ (c = .originUnknown ∧ row.policy = 1)) := by
  simp only [triggering, CondSet.has_and, CondSet.has_or, Condition.has_only, Condition.has_onlyIf, ProductRow.isNonAware]
  simp only [Bool.and_eq_true, Bool.or_eq_true, decide_eq_true_iff, beq_iff_eq]
  grind

theorem CondSet.lead_eq_none {cs : CondSet} (empty : ∀ c, ¬cs.has c = true) : cs.lead = none :=
  List.find?_eq_none.2 fun c _ => empty c

/-- The conditions stand in the order of their bits. -/
theorem Condition.all_getElem_bitNo (i : Nat) (h : i < Condition.all.length) : (Condition.all[i]).bitNo = i := by
  have each : ∀ n : Fin Condition.all.length, (Condition.all[n]).bitNo = n := by decide +revert
  exact each ⟨i, h⟩

theorem Condition.all_getElem (c : Condition) : ∃ h : c.bitNo < Condition.all.length, Condition.all[c.bitNo] = c := by
  cases c <;> decide

theorem CondSet.lead_eq_some {cs : CondSet} {c : Condition} (member : cs.has c = true)
    (first : ∀ x : Condition, x.bitNo < c.bitNo → ¬cs.has x = true) : cs.lead = some c := by
  obtain ⟨inRange, here⟩ := c.all_getElem
  refine List.find?_eq_some_iff_getElem.2 ⟨member, c.bitNo, inRange, here, fun j lower => ?_⟩
  simpa using first (Condition.all[j]) (by rwa [Condition.all_getElem_bitNo])

theorem divertReason_charged {row : ProductRow} (kind : row.kind = 1 ∨ row.kind = 2) (mask own : CondSet) :
    divertReason row mask own = (triggering row mask own).lead.map .condition := by
  rw [divertReason, ProductRow.isReferred_of_kind.2 kind]
  rfl

/-- Settles O46: each stage by its own rule, and the disposition by the lead of what triggers. -/
theorem fareStageRules : Obligations.FareStageRules := by
  unfold Obligations.FareStageRules
  refine ⟨fun b units nonempty within => ?_, fun b time nonempty within first => ?_, fun expected attrs k => ?_,
    fun b k => ⟨rfl, fun h => rfl⟩, fun b row => ⟨rfl, rfl, fun c r => Bank.concessionFactor_class⟩, fun j h half => ?_,
    fun b row j units => ?_, fun row mask own => ?_⟩
  · obtain ⟨inUse, covering⟩ := b.bandRowFor_spec (units := units) nonempty within
    exact ⟨inUse, covering, fun r row => Bank.bandFare_row row units⟩
  · obtain ⟨i, inUse, started, after⟩ := b.exists_lastStarted time nonempty first
    exact ⟨i, inUse, Bank.timeFactor_row within inUse started after, started, after⟩
  · exact ⟨resolve_notExpected, fun i v => resolve_filled, resolve_expectedAbsent⟩
  · rcases half with origin | ⟨origin, dest⟩
    · simp [Journey.fareHalf, Journey.product, Journey.time, origin]
    · simp [Journey.fareHalf, Journey.product, Journey.time, origin, dest]
  · intro con com companions group n rounded k
    have sameCompanions : companions = b.companions j := (b.companions_eq j).symm
    have sameGroup : group = b.groupFare row j units := by
      simp only [group, sameCompanions, Bank.groupFare]
    have sameN : n = b.unrounded row j units := by
      simp only [n, sameGroup, Bank.unrounded, con]
    have sameRounded : rounded = roundFare b.line.rounding (b.unrounded row j units) := by
      simp only [rounded, sameN]
    have stages := b.fareStages_eq row j units
    rw [sameRounded, sameN, sameCompanions, sameGroup]
    exact ⟨congrArg FareResult.bandRow stages, congrArg FareResult.groupFare stages, congrArg FareResult.companions stages,
      (congrArg FareResult.concessionClass stages).trans con.value_eq, congrArg FareResult.timeFactor stages,
      congrArg FareResult.concessionFactor stages,
      (congrArg FareResult.fare stages).trans (congrArg some (ceilFare_eq _ _)), b.fareStages_conds_has row j units⟩
  · intro trigger
    refine ⟨fun referred => ?_, fun charged => ⟨fun untriggered => ?_, fun c member first => ?_⟩⟩
    · rw [divertReason, ProductRow.isReferred_of_kind.1 referred]
      rfl
    · rw [divertReason_charged charged, CondSet.lead_eq_none fun c has => untriggered c ((triggering_has row mask own c).1 has)]
      rfl
    · rw [divertReason_charged charged, CondSet.lead_eq_some ((triggering_has row mask own c).2 member)
        fun x before has => first x before ((triggering_has row mask own x).1 has)]
      rfl

end Sys2Proof.Machine
end

section
/-! PROOFS. What a reckoning comes to, by work kind and by answer (R116 to R118, R125, R138, R139, R146, R157), and the law of the
ceiling (R130, R135). -/

namespace Sys2Proof.Machine

open Sys2Proof

/-! ## The reckoning of a work entry (R109, R116, R118, R157) -/

section
variable {s : State} {e : WorkEntry}

theorem State.copiesFor_answer {t : BitVec 16} (kind : e.kind = .settle ∨ e.kind = .reprice) (ticket : e.ticket = some t) :
    (s.copiesFor e).answer = (s.rt.entry (slotOfTicket t)).answer := by
  simp [State.copiesFor, State.ticketEntry, kind, ticket]

theorem State.reckoningFor_journey (kind : e.kind ≠ .settle) :
    s.reckoningFor e (s.copiesFor e) = (s.bankFor e.day).reckon e.snap (s.copiesFor e).answer := by
  unfold State.reckoningFor
  split
  next settle => exact absurd settle kind
  next => rfl

theorem State.reckoningFor_settle (kind : e.kind = .settle) : s.reckoningFor e (s.copiesFor e) =
    (s.bankFor e.day).reckonSettle e.snap ((s.ticketEntry e).getD (RefEntry.cleared 0))
      ((s.copiesFor e).answer.getD .void) := by
  simp only [State.reckoningFor, kind]
  rfl

end

/-! ## S0 to S6 assembled (R117, R125, R138, R139) -/

section
variable {b : Bank} {j : Journey} {a : Option RefAnswer} {u : Nat}

theorem Bank.reckon_result_of_units (units : (b.route (b.product j.product).minUnits j a).units = some u) :
    (b.reckon j a).result = b.fareStages (b.product j.product) j u := by
  simp only [Bank.reckon, units]

theorem Bank.reckon_result_of_noUnits (units : (b.route (b.product j.product).minUnits j a).units = none) :
    (b.reckon j a).result = { FareResult.notRun with companions := b.companions j } := by
  simp only [Bank.reckon, units]

theorem Journey.clockConds_has (j : Journey) (c : Condition) : j.clockConds.has c = true ↔
    c = .clockUnsettled ∧ (j.origin.map Half.clock = some true ∨ j.dest.map Half.clock = some true) := by
  rw [Journey.clockConds, Condition.has_onlyIf]
  cases j.origin <;> cases j.dest <;> simp [eq_comm (a := Condition.clockUnsettled), and_comm]

/-- What S3 to S6 raise, nothing where they do not run. -/
theorem Bank.reckon_stageConds : (b.reckon j a).result.conds =
    match (b.route (b.product j.product).minUnits j a).units with
    | some u => (b.fareStages (b.product j.product) j u).conds
    | none => 0 := by
  cases units : (b.route (b.product j.product).minUnits j a).units with
  | some u => rw [Bank.reckon_result_of_units units]
  | none => rw [Bank.reckon_result_of_noUnits units]; rfl

theorem Bank.reckon_conds_charged (kind : (b.product j.product).kind = 1 ∨ (b.product j.product).kind = 2) :
    (b.reckon j a).aside = false ∧ (b.reckon j a).asideConds = 0 ∧ ∀ c, (b.reckon j a).conds.has c = true ↔
      ((b.route (b.product j.product).minUnits j a).conds.has c = true ∨ j.clockConds.has c = true) ∨
        (b.reckon j a).result.conds.has c = true := by
  have charged := ProductRow.isReferred_of_kind.2 kind
  refine ⟨charged, if_neg (by simp [charged]), fun c => ?_⟩
  have conds : (b.reckon j a).conds = (b.route (b.product j.product).minUnits j a).conds ||| j.clockConds |||
      (b.reckon j a).result.conds := if_neg (by simp [charged])
  simp [conds, CondSet.has_or]

theorem Bank.reckon_conds_aside (kind : (b.product j.product).kind = 0 ∨ (b.product j.product).kind = 3) :
    (b.reckon j a).aside = true ∧ (b.reckon j a).asideConds = (b.reckon j a).result.conds ∧
      ∀ c, (b.reckon j a).conds.has c = true ↔
        (b.route (b.product j.product).minUnits j a).conds.has c = true ∨ j.clockConds.has c = true := by
  have referred := ProductRow.isReferred_of_kind.1 kind
  refine ⟨referred, if_pos referred, fun c => ?_⟩
  have conds : (b.reckon j a).conds = (b.route (b.product j.product).minUnits j a).conds ||| j.clockConds := if_pos referred
  simp [conds, CondSet.has_or]

end

/-! ## The ceiling (R130, R135) -/

theorem Bank.reckon_fareToCharge_le (b : Bank) (j : Journey) (a : Option RefAnswer) :
    (b.reckon j a).fareToCharge ≤ b.line.ceiling := by
  rw [Reckoning.fareToCharge]
  cases units : (b.route (b.product j.product).minUnits j a).units with
  | some u =>
    rw [Bank.reckon_result_of_units units, Bank.fareStages_eq]
    exact Nat.min_le_left _ _
  | none =>
    rw [Bank.reckon_result_of_noUnits units]
    exact Nat.zero_le _

theorem Bank.reckonSettle_fareToCharge_le (b : Bank) (j : Journey) (e : RefEntry) (a : RefAnswer) :
    (b.reckonSettle j e a).fareToCharge ≤ b.line.ceiling := by
  cases a with
  | charge amount cap => exact Nat.min_le_left _ _
  | void => exact Nat.zero_le _
  | reprice station => exact Nat.zero_le _

theorem State.reckoningFor_fareToCharge_le (s : State) (e : WorkEntry) :
    (s.reckoningFor e (s.copiesFor e)).fareToCharge ≤ (s.bankFor e.day).line.ceiling := by
  by_cases kind : e.kind = .settle
  · rw [State.reckoningFor_settle kind]
    exact Bank.reckonSettle_fareToCharge_le _ _ _ _
  · rw [State.reckoningFor_journey kind]
    exact Bank.reckon_fareToCharge_le _ _ _

theorem Reckoning.withCharge_charged_le (k : Reckoning) (cap : Bool) (total : Nat) :
    (k.withCharge cap total).charged ≤ k.fareToCharge := by
  cases cap with
  | true => exact capCharge_le_fare _ _ _
  | false => exact le_rfl

/-- No outcome update charges more than the fare reckoned, whether the record is gone, charged or diverted. -/
theorem State.outcomeUpdate_charged_le (s : State) (e : WorkEntry) (c : Copies) (k : Reckoning) :
    (s.outcomeUpdate e c k).1.reck.charged ≤ k.fareToCharge := by
  cases found : s.jt.lookup e.card e.day with
  | none =>
    rw [State.outcomeUpdate_gone found]
    exact le_rfl
  | some r =>
    have capped := k.withCharge_charged_le (appliesCap e.kind c.answer) r.dayTotal
    simp only [State.outcomeUpdate, found]
    split
    next => exact capped
    next => split <;> exact capped

/-- Settles O19: a work entry's reckoning by its kind, its fare and condition sets by the units and the product's kind, and the
charge held to the ceiling by the fare. -/
theorem chargeWithinCeiling : Obligations.ChargeWithinCeiling := by
  unfold Obligations.ChargeWithinCeiling
  refine ⟨fun s e => (s.outcomeUpdate_charged_le e _ _).trans (s.reckoningFor_fareToCharge_le e), fun s e => ⟨?_, ?_⟩,
    fun b j a => ?_, fun k c => ?_, fun b j e a => ?_, fun kind a other => if_neg other⟩
  · intro settle reprice
    rw [State.reckoningFor_journey settle]
    simp [State.copiesFor, settle, reprice]
  · intro t a ticket answered
    refine ⟨fun reprice => ?_, fun settle => ?_⟩
    · rw [State.reckoningFor_journey (by simp [reprice]), State.copiesFor_answer (.inr reprice) ticket, answered]
    · rw [State.reckoningFor_settle settle, State.copiesFor_answer (.inl settle) ticket, answered]
      simp [State.ticketEntry, ticket]
  · intro k row r stages own
    have sameStages : k.result.conds = stages := Bank.reckon_stageConds
    have sameOwn : ∀ c, own c ↔ r.conds.has c = true ∨ j.clockConds.has c = true := fun c => by
      rw [j.clockConds_has c]
    refine ⟨rfl, rfl, rfl, rfl, rfl, rfl, rfl, rfl, rfl, fun u units => ?_, fun units => ?_, fun kind => ?_, fun kind => ?_⟩
    · have result : k.result = b.fareStages row j u := Bank.reckon_result_of_units units
      refine ⟨result, ?_⟩
      rw [Reckoning.fareToCharge, result]
      rfl
    · have result : k.result = _ := Bank.reckon_result_of_noUnits units
      rw [Reckoning.fareToCharge, result]
      exact ⟨rfl, rfl, rfl, rfl, b.companions_eq j⟩
    · obtain ⟨aside, asideConds, conds⟩ := Bank.reckon_conds_charged (a := a) kind
      refine ⟨aside, asideConds, fun c => ?_⟩
      rw [sameOwn, ← sameStages]
      exact conds c
    · obtain ⟨aside, asideConds, conds⟩ := Bank.reckon_conds_aside (a := a) kind
      refine ⟨aside, asideConds.trans sameStages, fun c => ?_⟩
      rw [sameOwn]
      exact conds c
  · exact ⟨by simp [Reckoning.undiverted, CondSet.has_or], rfl, rfl⟩
  · refine ⟨rfl, rfl, rfl, rfl, rfl, rfl, rfl, rfl, rfl, rfl, rfl, rfl, rfl, rfl, rfl, fun amount cap charge => ?_, fun void => ?_⟩
    · subst charge
      refine ⟨rfl, rfl, fun c => ?_⟩
      simp [Bank.reckonSettle, settleConds, ceilConds, CondSet.has_or, Condition.has_onlyIf,
        eq_comm (a := Condition.fareOverflow), and_comm]
    · subst void
      exact ⟨rfl, rfl, by simp [Bank.reckonSettle, settleConds]⟩

end Sys2Proof.Machine
end

section
/-! PROOFS. The line link's own commands: SET_DISPOSITION, CAPTURE_COUNTERS, and a COMMAND of no known form (R141, R179, R183,
R193). -/

namespace Sys2Proof.Machine

open Sys2Proof

/-! ## Arguments and codes (R193) -/

/-- The arguments of a command read as one number, over the whole of their length. -/
theorem DownFrame.IsCommand.fieldAt_args {f : DownFrame} {c : CommandCode} {args : List Byte} (h : f.IsCommand c args) :
    fieldAt f.args 0 c.argLength = beNat args := by
  rw [h.args_eq, ← h.length, fieldAt_whole]

theorem condSetOf_eq_some {word : Nat} (low : word < 512) : condSetOf word = some (BitVec.ofNat 9 word) := if_pos low

theorem condSetOf_eq_none {word : Nat} (high : 512 ≤ word) : condSetOf word = none := if_neg (Nat.not_lt.2 high)

theorem CommandCode.code_toNat_range (c : CommandCode) : 1 ≤ c.code.toNat ∧ c.code.toNat ≤ 12 := by
  cases c <;> decide

/-- No byte but a command's code is read as that command. -/
theorem code_of_commandOf {b : Byte} {c : CommandCode} (h : commandOf b = some c) : c.code = b := by
  apply BitVec.eq_of_toNat_eq
  unfold commandOf at h
  split at h
  case h_13 => cases h
  all_goals
    next value =>
      cases h
      exact value.symm

/-- Code 0 and the codes above 12 are no command's. -/
theorem commandOf_eq_none {b : Byte} (h : b = 0 ∨ 12 < b.toNat) : commandOf b = none := by
  by_contra found
  obtain ⟨c, hc⟩ := Option.ne_none_iff_exists'.1 found
  have range := c.code_toNat_range
  rw [code_of_commandOf hc] at range
  rcases h with rfl | above
  · exact absurd range.1 (by decide)
  · omega

theorem DownFrame.command_eq_none_of_code {f : DownFrame} (h : commandOf f.commandByte = none) : f.command = none := by
  simp [DownFrame.command, h]

theorem DownFrame.command_eq_none_of_length {f : DownFrame} {c : CommandCode} {a : List Byte} (body : f.body = c.code :: a)
    (length : a.length ≠ c.argLength) : f.command = none := by
  simp [DownFrame.command, DownFrame.commandByte, DownFrame.args, body, length]

theorem DownFrame.commandByte_of_head {f : DownFrame} {b : Byte} (head : f.body.head? = some b) : f.commandByte = b := by
  rw [DownFrame.commandByte, List.headD_eq_head?_getD, head, Option.getD_some]

/-- A body of no known form: a code of no command, or arguments not of their code's length (R179). -/
theorem DownFrame.command_eq_none {f : DownFrame}
    (h : f.body.head? = some 0 ∨ (∃ b : Byte, f.body.head? = some b ∧ 12 < b.toNat) ∨
      (∃ c : CommandCode, ∃ a : List Byte, f.body = c.code :: a ∧ a.length ≠ c.argLength)) : f.command = none := by
  rcases h with zero | ⟨b, head, above⟩ | ⟨c, a, body, length⟩
  · refine DownFrame.command_eq_none_of_code (commandOf_eq_none (.inl ?_))
    exact DownFrame.commandByte_of_head zero
  · refine DownFrame.command_eq_none_of_code (commandOf_eq_none (.inr ?_))
    rwa [DownFrame.commandByte_of_head head]
  · exact DownFrame.command_eq_none_of_length body length

section
variable {s : State} {f : DownFrame} {rest : List DownFrame} {args : List Byte}

/-! ## SET_DISPOSITION (R141) -/

theorem setDispositionTaken_set {m : CondSet} (mask : condSetOf (fieldAt f.args 0 2) = some m) :
    setDispositionTaken f s = State.reply f .done { s with lli := { s.lli with disposition := m } } := by
  rw [setDispositionTaken, mask]

theorem setDispositionTaken_refused (mask : condSetOf (fieldAt f.args 0 2) = none) :
    setDispositionTaken f s = s.reply f .badArgument := by
  rw [setDispositionTaken, mask]

/-- The REPLY of a frame whose taking has replaced the disposition mask. -/
theorem State.taking_disposition_reply (h : s.Takes f rest) (m : CondSet) (st : Status) :
    State.reply f st { s.taking rest with lli := { (s.taking rest).lli with disposition := m } } =
      State.answered f rest st { s with lli := { s.lli with disposition := m } } :=
  State.taking_reply (s := { s with lli := { s.lli with disposition := m } }) h.between st

/-- The whole mask replaced, or refused for a bit above 8 (R141): the first clause of O37. -/
theorem setDisposition_decided (h : s.Takes f rest) (hc : f.IsCommand .setDisposition args) :
    (beNat args < 512 → exec .setDisposition s = .next (State.answered f rest .done
      { s with lli := { s.lli with disposition := BitVec.ofNat 9 (beNat args) } })) ∧
    (512 ≤ beNat args → exec .setDisposition s = .next (s.answered f rest .badArgument)) := by
  have taken : exec .setDisposition s = .next (setDispositionTaken f (s.taking rest)) := h.answering hc _
  have word : fieldAt f.args 0 2 = beNat args := hc.fieldAt_args
  rw [taken]
  refine ⟨fun low => ?_, fun high => ?_⟩
  · rw [setDispositionTaken_set (by rw [word, condSetOf_eq_some low]), State.taking_disposition_reply h]
  · rw [setDispositionTaken_refused (word ▸ condSetOf_eq_none high), State.taking_reply h.between]

/-! ## CAPTURE_COUNTERS (R183) -/

theorem captureTaken_captured {clear : Bool} (code : yesNoOf (fieldAt f.args 0 1) = some clear) :
    captureTaken f s = (s.capture clear).reply f .done := by
  rw [captureTaken, code]

theorem captureTaken_refused (code : yesNoOf (fieldAt f.args 0 1) = none) :
    captureTaken f s = s.reply f .badArgument := by
  rw [captureTaken, code]

/-- The REPLY of a capture: nothing of the taking stands in the counters copied. -/
theorem State.taking_capture_reply (h : s.Takes f rest) (clear : Bool) (st : Status) :
    ((s.taking rest).capture clear).reply f st = State.answered f rest st (s.capture clear) :=
  State.taking_reply (s := s.capture clear) h.between st

/-- Counters copied, and zeroed with clear yes, or refused for a clear code of neither (R183): the second clause of O37. -/
theorem captureCounters_decided (h : s.Takes f rest) (hc : f.IsCommand .captureCounters args) :
    (∀ clear, yesNoOf (beNat args) = some clear →
      exec .captureCounters s = .next (State.answered f rest .done (s.capture clear))) ∧
    (2 ≤ beNat args → exec .captureCounters s = .next (s.answered f rest .badArgument)) := by
  have taken : exec .captureCounters s = .next (captureTaken f (s.taking rest)) := h.answering hc _
  have code : fieldAt f.args 0 1 = beNat args := hc.fieldAt_args
  rw [taken]
  refine ⟨fun clear named => ?_, fun neither => ?_⟩
  · rw [captureTaken_captured (code ▸ named), State.taking_capture_reply h]
  · rw [captureTaken_refused (code ▸ yesNoOf_eq_none neither), State.taking_reply h.between]

/-! ## A COMMAND of no known form (R179) -/

theorem exec_unknownCommand_taken (h : s.Takes f rest) (kind : f.kind = .command) (unknown : f.command = none) :
    exec .unknownCommand s = .next (s.answered f rest .badArgument) := by
  have refused : exec .unknownCommand s = .next ((s.taking rest).reply f .badArgument) := by
    simp only [exec, execUnknownCommand, h.takeKind kind, unknown, if_true]
  rw [refused, State.taking_reply h.between]

end

/-- Settles O37: each command by its argument, and the unknown refused by its code or its length. -/
theorem lineLinkCommands : Obligations.LineLinkCommands := by
  intro s f rest args h
  refine ⟨setDisposition_decided h, fun hc => ?_, fun kind unknown => ?_⟩
  · obtain ⟨captured, refused⟩ := captureCounters_decided h hc
    refine ⟨fun no => ?_, fun yes => ?_, refused⟩
    · exact captured false (by rw [no]; rfl)
    · exact captured true (by rw [yes]; rfl)
  · exact exec_unknownCommand_taken h kind (DownFrame.command_eq_none unknown)

end Sys2Proof.Machine
end

section
/-! PROOFS. An answer from the line server: the fields of a REFERRAL_ANSWER, and the cases of R154 in order (R154, R155). -/

namespace Sys2Proof.Machine

open Sys2Proof

/-! ## The ticket of a body (R149, R191) -/

theorem ticketOfBody_eq {body : List Byte} {use slot : Byte} (useAt : body[0]? = some use) (slotAt : body[1]? = some slot) :
    ticketOfBody body = ticketOf use slot.toFin := by
  rw [ticketOfBody, fieldAt_word useAt slotAt, Nat.mul_comm]
  rfl

theorem ticketOf_toNat (use : BitVec 8) (slot : Fin 256) : (ticketOf use slot).toNat = use.toNat * 256 + slot.val := by
  have useBound := use.isLt
  rw [ticketOf, BitVec.toNat_ofNat]
  omega

@[simp] theorem slotOfTicket_ticketOf (use : BitVec 8) (slot : Fin 256) : slotOfTicket (ticketOf use slot) = slot := by
  refine Fin.ext (show (ticketOf use slot).toNat % 256 = slot.val from ?_)
  rw [ticketOf_toNat]
  omega

@[simp] theorem useOfTicket_ticketOf (use : BitVec 8) (slot : Fin 256) : useOfTicket (ticketOf use slot) = use := by
  have quotient : (use.toNat * 256 + slot.val) / 256 = use.toNat := by omega
  rw [useOfTicket, ticketOf_toNat, quotient, BitVec.ofNat_toNat, BitVec.setWidth_eq]

/-! ## The answer of a body (R154, R191) -/

section
variable {body : List Byte} {kind cap hi lo station : Byte}

theorem answerOfBody_charge (kindAt : body[2]? = some 1) (capAt : body[3]? = some cap) (hiAt : body[4]? = some hi)
    (loAt : body[5]? = some lo) : answerOfBody body = some (.charge (256 * hi.toNat + lo.toNat) (cap != 0)) := by
  have flag : (cap.toNat != 0) = (cap != 0) := by
    rw [Bool.eq_iff_iff, bne_iff_ne, bne_iff_ne, not_iff_not]
    exact BitVec.toNat_inj (y := 0#8)
  rw [← fieldAt_word hiAt loAt, ← flag, ← fieldAt_byte capAt]
  simp [answerOfBody, fieldAt_byte kindAt]

theorem answerOfBody_void (kindAt : body[2]? = some 2) : answerOfBody body = some .void := by
  simp [answerOfBody, fieldAt_byte kindAt]

theorem answerOfBody_reprice (kindAt : body[2]? = some 3) (stationAt : body[6]? = some station) :
    answerOfBody body = some (.reprice station.toNat) := by
  simp [answerOfBody, fieldAt_byte kindAt, fieldAt_byte stationAt]

theorem answerOfBody_unknown (kindAt : body[2]? = some kind) (unknown : ¬(kind = 1 ∨ kind = 2 ∨ kind = 3)) :
    answerOfBody body = none := by
  unfold answerOfBody
  rw [fieldAt_byte kindAt]
  split
  case h_1 charge => exact absurd (.inl (BitVec.eq_of_toNat_eq (y := 1) charge)) unknown
  case h_2 void => exact absurd (.inr (.inl (BitVec.eq_of_toNat_eq (y := 2) void))) unknown
  case h_3 reprice => exact absurd (.inr (.inr (BitVec.eq_of_toNat_eq (y := 3) reprice))) unknown
  case h_4 => rfl

/-- The answer that the fields of a body name, its kind being one of the three. -/
def namedAnswer (kind cap hi lo station : Byte) : RefAnswer :=
  if kind = 1 then .charge (256 * hi.toNat + lo.toNat) (cap != 0)
  else if kind = 2 then .void else .reprice station.toNat

theorem answerOfBody_known {use slot : Byte} (fields : body = [use, slot, kind, cap, hi, lo, station])
    (known : kind = 1 ∨ kind = 2 ∨ kind = 3) : answerOfBody body = some (namedAnswer kind cap hi lo station) := by
  subst fields
  rcases known with rfl | rfl | rfl
  · exact answerOfBody_charge rfl rfl rfl rfl
  · exact answerOfBody_void rfl
  · exact answerOfBody_reprice rfl rfl

theorem badReprice_reprice (b : Bank) (n : Nat) : badReprice b (.reprice n) = true ↔ b.station n = none :=
  Option.isNone_iff_eq_none

/-- Only a REPRICE of a station unknown to the bank is refused (R154, case 4). -/
theorem badReprice_namedAnswer (b : Bank) (known : kind = 1 ∨ kind = 2 ∨ kind = 3) :
    badReprice b (namedAnswer kind cap hi lo station) = true ↔ kind = 3 ∧ b.station station.toNat = none := by
  rcases known with rfl | rfl | rfl
  · simp [namedAnswer, badReprice]
  · simp [namedAnswer, badReprice]
  · simpa [namedAnswer] using badReprice_reprice b station.toNat

end

/-! ## Cases 2 to 5 of R154 -/

/-- An answer is LATE for an entry: it is FREE, of another use count, or timed out (R154, case 2). -/
def RefEntry.LateFor (x : RefEntry) (use : BitVec 8) : Prop :=
  x.state = .free ∨ x.useCount ≠ use ∨ (x.state = .awaiting ∧ x.work = .timeout)

theorem RefEntry.lateFor_iff (x : RefEntry) (use : BitVec 8) :
    x.LateFor use ↔ x.state = .free ∨ x.useCount ≠ use ∨ x.timedOut = true := by
  simp [RefEntry.LateFor, RefEntry.timedOut]

section
variable {s : State} {use : BitVec 8} {slot : Fin 256} {a : RefAnswer}

theorem State.decideAnswer_late (late : (s.rt.entry slot).LateFor use) :
    s.decideAnswer (ticketOf use slot) a = (.late, s.bump .lateAnswers) := by
  rw [State.decideAnswer, slotOfTicket_ticketOf, useOfTicket_ticketOf]
  exact if_pos ((RefEntry.lateFor_iff _ _).1 late)

theorem State.decideAnswer_inTime (inTime : ¬(s.rt.entry slot).LateFor use) : s.decideAnswer (ticketOf use slot) a =
    if (s.rt.entry slot).state = .answered then (.alreadyAnswered, s.bump .alreadyAnswered)
    else if badReprice (s.bankFor (s.rt.entry slot).day) a then (.badArgument, s.bump .refusedAnswers)
    else (.done, (s.takeAnswer slot a).bump .answersTaken) := by
  rw [State.decideAnswer, slotOfTicket_ticketOf, useOfTicket_ticketOf]
  exact if_neg fun late => inTime ((RefEntry.lateFor_iff _ _).2 late)

theorem State.decideAnswer_answered (inTime : ¬(s.rt.entry slot).LateFor use) (st : (s.rt.entry slot).state = .answered) :
    s.decideAnswer (ticketOf use slot) a = (.alreadyAnswered, s.bump .alreadyAnswered) := by
  rw [State.decideAnswer_inTime inTime, if_pos st]

theorem State.decideAnswer_refused (inTime : ¬(s.rt.entry slot).LateFor use) (st : (s.rt.entry slot).state = .awaiting)
    (bad : badReprice (s.bankFor (s.rt.entry slot).day) a = true) :
    s.decideAnswer (ticketOf use slot) a = (.badArgument, s.bump .refusedAnswers) := by
  rw [State.decideAnswer_inTime inTime, if_neg (by simp [st]), if_pos bad]

theorem State.decideAnswer_done (inTime : ¬(s.rt.entry slot).LateFor use) (st : (s.rt.entry slot).state = .awaiting)
    (good : ¬badReprice (s.bankFor (s.rt.entry slot).day) a = true) :
    s.decideAnswer (ticketOf use slot) a = (.done, (s.takeAnswer slot a).bump .answersTaken) := by
  rw [State.decideAnswer_inTime inTime, if_neg (by simp [st]), if_neg good]

end

/-! ## The frame taken (R179, R180) -/

section
variable {s u : State} {f : DownFrame} {rest : List DownFrame} {use slot : Byte} {a : RefAnswer} {st : Status}

/-- The frame's place in the receive list takes no part in the decision. -/
theorem State.decideAnswer_taking (rest : List DownFrame) (s : State) (ticket : BitVec 16) (a : RefAnswer) :
    (s.taking rest).decideAnswer ticket a =
      ((s.decideAnswer ticket a).1, (s.decideAnswer ticket a).2.taking rest) := by
  have entry : (s.taking rest).rt = s.rt := rfl
  have bank (d : Day) : (s.taking rest).bankFor d = s.bankFor d := State.bankFor_congr rfl rfl d
  unfold State.decideAnswer
  dsimp only
  rw [entry, bank]
  (repeat' split) <;> rfl

@[simp] theorem State.decideAnswer_lli (ticket : BitVec 16) (a : RefAnswer) (s : State) :
    (s.decideAnswer ticket a).2.lli = s.lli := by
  unfold State.decideAnswer
  dsimp only
  (repeat' split) <;> rfl

theorem exec_referralAnswer_taken (h : s.Takes f rest) (hk : f.kind = .referralAnswer) :
    exec .referralAnswer s = .next (referralAnswerTaken f (s.taking rest)) := by
  simp only [exec, execReferralAnswer, h.takeKind hk]

/-- A body of no known kind is refused (R154, case 1). -/
theorem exec_referralAnswer_unknown (h : s.Takes f rest) (hk : f.kind = .referralAnswer) (unknown : answerOfBody f.body = none) :
    exec .referralAnswer s = .next (State.answered f rest .badArgument (s.bump .refusedAnswers)) := by
  rw [exec_referralAnswer_taken h hk, referralAnswerTaken, unknown]
  exact congrArg _ (State.taking_reply (s := s.bump .refusedAnswers) h.between _)

/-- A body of a known kind has the status and the state of its decision. -/
theorem exec_referralAnswer_decided (h : s.Takes f rest) (hk : f.kind = .referralAnswer) (known : answerOfBody f.body = some a)
    (decided : s.decideAnswer (ticketOfBody f.body) a = (st, u)) :
    exec .referralAnswer s = .next (State.answered f rest st u) := by
  have between : u.lli.replyHeld = false := by
    have same := s.decideAnswer_lli (ticketOfBody f.body) a
    rw [decided] at same
    exact same ▸ h.between
  rw [exec_referralAnswer_taken h hk, referralAnswerTaken, known]
  dsimp only
  rw [State.decideAnswer_taking, decided, State.taking_reply between]

end

/-- Settles O58: a body of no known kind is refused, and each known kind has the decision on the entry that its ticket names. -/
theorem referralAnswerDecided : Obligations.ReferralAnswerDecided := by
  intro s f rest use slot kind cap hi lo station h hk body i x late unknown known
  have ticket : ticketOfBody f.body = ticketOf use i := by
    rw [body]
    exact ticketOfBody_eq rfl rfl
  have decided {st : Status} {u : State} (hkind : known)
      (decision : s.decideAnswer (ticketOf use i) (namedAnswer kind cap hi lo station) = (st, u)) :
      exec .referralAnswer s = .next (State.answered f rest st u) :=
    exec_referralAnswer_decided h hk (answerOfBody_known body hkind) (by rw [ticket, decision])
  refine ⟨fun hkind => ?_, fun hkind hlate => ?_, fun hkind inTime answered => ?_, fun inTime awaiting bad => ?_,
    fun hkind inTime awaiting good => ?_⟩
  · exact exec_referralAnswer_unknown h hk (answerOfBody_unknown (by rw [body]; rfl) hkind)
  · exact decided hkind (State.decideAnswer_late hlate)
  · exact decided hkind (State.decideAnswer_answered inTime answered)
  · have hkind : known := .inr (.inr bad.1)
    exact decided hkind (State.decideAnswer_refused inTime awaiting ((badReprice_namedAnswer _ hkind).2 bad))
  · exact decided hkind (State.decideAnswer_done inTime awaiting fun bad => good ((badReprice_namedAnswer _ hkind).1 bad))

end Sys2Proof.Machine
end

section
/-! PROOFS. The closure of a record, whole (R70, R94, R169). -/

namespace Sys2Proof.Machine

open Sys2Proof

/-- The expiry queue without the entries of a record's open journey and held tap-outs (R94). -/
def Record.queueClosed (r : Record) (queue : List ExpiryEntry) : List ExpiryEntry :=
  r.held.foldl (fun l h => queueWithout r (.hold h.port h.hubSeq) l)
    (if r.openJourney.isSome = true then queueWithout r .journeyLimit queue else queue)

/-- The raises of the pending count that a closure loses to its bound (R70). -/
def Record.closureLost (r : Record) : Nat :=
  min r.closureWork.length (r.pendingCount + r.closureWork.length - Config.pendingMax)

section
variable (r : Record) (s : State)

/-- All that a closure does (R169). -/
theorem State.closeRecord_eq : s.closeRecord r = { s with
    jt := s.jt.write r.closed
    expiry := r.queueClosed s.expiry
    pool := { s.pool with
      l3 := s.pool.l3 ++ r.closureWork, nonTapInUse := s.pool.nonTapInUse + r.closureWork.length }
    roll := { s.roll with
      closingCount := s.roll.closingCount + 1, summary := summaryWith r.closed s.roll.summary }
    counters := (s.counters.add .pendingSaturations r.closureLost).add .closures 1 } := by
  simp only [State.closeRecord]
  rw [State.reportIfReady_eq, State.joinAll_eq _ _ r.closureWork_mem, State.cancelAll_eq]
  rfl

/-- The CLOSING record of a closure is reported ready where nothing is pending (R72). -/
theorem Record.summaryWith_closed (l : List (Card × Day)) : summaryWith r.closed l =
    if r.closed.pendingCount = 0 ∧ (r.card, r.day) ∉ l then l ++ [(r.card, r.day)] else l :=
  if_congr (and_iff_right rfl) rfl rfl

/-- The raises lost are those that a pending count within its bound does not come to (R70). -/
theorem Record.closureLost_eq (within : r.pendingCount ≤ Config.pendingMax) : r.closureLost =
    r.pendingCount + r.closureWork.length - min Config.pendingMax (r.pendingCount + r.closureWork.length) := by
  unfold Record.closureLost
  omega

end

/-- Settles O53: the fields of `State.closeRecord_eq`, with its two counters by their places. -/
theorem recordClosure : Obligations.RecordClosure := by
  intro s r
  dsimp only
  rw [State.closeRecord_eq, Record.summaryWith_closed]
  refine ⟨fun part outside => ?_, rfl, rfl, rfl, rfl, fun c other same => ?_, ?_, fun _ within => ?_⟩
  · cases part
    case jt | expiry | pool | roll | counters => exact absurd (by decide) outside
    all_goals rfl
  · rw [Counters.value_add_other _ _ other, Counters.value_add_other _ _ same]
  · rw [Counters.value_add_same, Counters.value_add_other _ _ (by decide)]
  · rw [Counters.value_add_other _ _ (by decide), Counters.value_add_same, r.closureLost_eq within]
    rfl

end Sys2Proof.Machine
end

section
/-! PROOFS. A ROLL_DONE placed or owed (R174), the end of a roll (R172, R173), and the day summaries (R170, R171). -/

namespace Sys2Proof.Machine

open Sys2Proof

section
variable {s : State}

/-! ## ROLL_DONE (R174) -/

/-- The notice a ROLL_DONE carries, as the state stands at its making (R174). -/
def State.rollDoneNotice (swap : Bool) (s : State) : RollDone := ⟨s.clock.day, s.tables.activeGen, swap, s.clock.time⟩

theorem State.makeRollDone_placed (none : s.roll.owedDone = none) (place : s.lli.urgentHasPlace = true) (swap : Bool) :
    s.makeRollDone swap = s.pushUrgent (.rollDone (s.rollDoneNotice swap)) :=
  if_pos (by rw [none, place]; rfl)

/-- A ROLL_DONE with no place, or made while another is owed, is owed in its stead (log 16). -/
theorem State.makeRollDone_owed (waits : s.lli.urgentHasPlace = false ∨ s.roll.owedDone ≠ none) (swap : Bool) :
    s.makeRollDone swap = { s with roll := { s.roll with owedDone := some (s.rollDoneNotice swap) } } := by
  refine if_neg fun free => ?_
  rw [Bool.and_eq_true, Option.isNone_iff_eq_none] at free
  rcases waits with full | owed
  · exact Bool.false_ne_true (full.symm.trans free.2)
  · exact owed free.1

/-- But for the notice owed, a ROLL_DONE leaves the roll as it is. -/
theorem State.makeRollDone_roll (swap : Bool) (s : State) :
    (s.makeRollDone swap).roll = { s.roll with owedDone := (s.makeRollDone swap).roll.owedDone } := by
  by_cases free : s.roll.owedDone = none ∧ s.lli.urgentHasPlace = true
  · rw [State.makeRollDone_placed free.1 free.2]
    rfl
  · rw [State.makeRollDone_owed]
    exact (not_and_or.1 free).symm.imp_left Bool.eq_false_of_not_eq_true

/-! ## The end of a roll (R173) -/

/-- The tables and the roll at the end of a roll, before its ROLL_DONE: an armed bank active, the line READY. -/
def State.rollEnded (s : State) : State := { s with
  tables := if s.tables.armed = true then s.tables.swapRoles else s.tables
  roll := { s.roll with state := .ready, oldDay := none } }

theorem State.endRoll_eq (s : State) : s.endRoll = (s.rollEnded.makeRollDone s.tables.armed).bump .rollsCompleted := by
  unfold State.endRoll State.rollEnded
  cases s.tables.armed <;> rfl

/-- The generation that a ROLL_DONE reports after the end of a roll is the armed bank's, if there was one (R173, R174). -/
theorem State.rollEnded_notice (s : State) : s.rollEnded.rollDoneNotice s.tables.armed =
    ⟨s.clock.day, if s.tables.armed = true then s.tables.armedGen else s.tables.activeGen, s.tables.armed, s.clock.time⟩ := by
  unfold State.rollDoneNotice State.rollEnded
  cases s.tables.armed <;> rfl

theorem State.endRoll_agreeOutside (s : State) : State.AgreeOutside [.tables, .roll, .lli, .counters] s s.endRoll := by
  intro part outside
  cases part
  case tables | roll | lli | counters => exact absurd (by decide) outside
  all_goals simp [Part.same]

/-! ## Summaries (R170, R171) -/

section
variable {c : Card} {d : Day} {rest : List (Card × Day)}

theorem exec_daySummary_full (head : s.roll.summary = (c, d) :: rest) (full : 512 ≤ s.lli.bulk.length) :
    exec .daySummary s = .next s := by
  have none : ¬s.lli.bulkHasPlace = true := by simpa [LineLink.bulkHasPlace] using full
  simp only [exec, execDaySummary, head]
  exact if_neg none

/-- The head of the summary list leaves it, whatever becomes of its record. -/
def State.summaryTaken (rest : List (Card × Day)) (s : State) : State := { s with roll := { s.roll with summary := rest } }

theorem exec_daySummary_leaves (head : s.roll.summary = (c, d) :: rest) (place : s.lli.bulk.length < 512)
    (pending : ∀ r, s.jt.lookup c d = some r → 0 < r.pendingCount) :
    exec .daySummary s = .next (s.summaryTaken rest) := by
  have free : s.lli.bulkHasPlace = true := by simpa [LineLink.bulkHasPlace] using place
  simp only [exec, execDaySummary, head, free, if_true]
  cases found : s.jt.lookup c d with
  | none => rfl
  | some r => exact if_neg fun ready => (pending r found).ne' ready.2

/-- A record out of the table and its DAY_SUMMARY in the bulk queue, before the end of the roll is examined (R170, R171). -/
def State.summarised (r : Record) (s : State) : State := State.bump .daySummaries { s with
  jt := s.jt.remove r.card r.day
  roll := { s.roll with closingCount := s.roll.closingCount - 1 }
  lli := LineLink.startSending { s.lli with bulk := s.lli.bulk ++ [.daySummary (s.summaryOf r)] } }

theorem State.summarise_eq (r : Record) (s : State) : s.summarise r = (s.summarised r).checkRoll := by
  unfold State.summarise State.pushBulk State.summarised
  rfl

theorem exec_daySummary_summarises {r : Record} (head : s.roll.summary = (c, d) :: rest) (place : s.lli.bulk.length < 512)
    (found : s.jt.lookup c d = some r) (closing : r.status = .closing) (none : r.pendingCount = 0) :
    exec .daySummary s = .next ((s.summaryTaken rest).summarised r).checkRoll := by
  have free : s.lli.bulkHasPlace = true := by simpa [LineLink.bulkHasPlace] using place
  simp only [exec, execDaySummary, head, free, if_true, found]
  rw [if_pos ⟨closing, none⟩, ← State.summarise_eq]
  rfl

end

end

/-- Settles O55: a summary by what the table holds of the head, the end of the roll examined after it; and the end by the
ROLL_DONE placed or owed. -/
theorem summariesAndRollEnd : Obligations.SummariesAndRollEnd := by
  refine ⟨fun s c d rest head => ⟨exec_daySummary_full head, fun place => ⟨exec_daySummary_leaves head place, ?_⟩⟩,
    fun s => ?_⟩
  · intro r found closing none u
    have summarised : exec .daySummary s = .next u.checkRoll := by
      obtain ⟨card, day⟩ := JourneyTable.lookup_key found
      rw [exec_daySummary_summarises head place found closing none, State.summarised, State.summaryOf, card, day]
      rfl
    rw [summarised]
    refine ⟨fun more => ?_, fun rolling pos visit last =>
      congrArg _ (State.checkRoll_finished (s := u) rolling pos visit (Nat.sub_eq_zero_of_le last))⟩
    rw [State.checkRoll_unfinished]
    exact more.imp_right (.imp_right (.imp_right Nat.sub_pos_of_lt))
  · intro u swap generation done
    have ended : u = (s.rollEnded.makeRollDone swap).bump .rollsCompleted := s.endRoll_eq
    have notice : s.rollEnded.rollDoneNotice swap = done := s.rollEnded_notice
    have tables : u.tables = if swap = true then s.tables.swapRoles else s.tables := by
      rw [ended, State.bump_tables, State.makeRollDone_tables]
      rfl
    have roll : u.roll = { s.rollEnded.roll with owedDone := u.roll.owedDone } := by
      rw [ended]
      exact State.makeRollDone_roll swap _
    refine ⟨s.endRoll_agreeOutside, fun armed => ?_, fun unarmed => ?_, roll, ?_, fun place none => ?_, fun waits => ?_⟩
    · rw [tables, if_pos armed]
      rfl
    · rw [tables, unarmed]
      rfl
    · rw [ended, State.bump, State.count, State.makeRollDone_counters]
      rfl
    · rw [ended, State.makeRollDone_placed (s := s.rollEnded) none place, notice]
      exact ⟨none, rfl⟩
    · rw [ended, State.makeRollDone_owed (s := s.rollEnded) waits, notice]
      exact ⟨rfl, rfl⟩

end Sys2Proof.Machine
end

section
/-! PROOFS. ROLL_DAY: the cases of R164 in order, the start of a day with its DAY_OVERRUN before the REPLY, the immediate roll and
the roll begun (R45, R164 to R166, R174). -/

namespace Sys2Proof.Machine

open Sys2Proof

section
variable {s : State} {f : DownFrame} {rest : List DownFrame} {args : List Byte} {day : Day} {start : Nat}

/-! ## The arguments (R193) and the cases of R164 -/

/-- The service day that the arguments of a ROLL_DAY name. -/
def rollDayOf (args : List Byte) : Day := BitVec.ofNat 16 (beNat (args.take 2))

/-- The start time that they name. -/
def rollStartOf (args : List Byte) : Nat := beNat (args.drop 2)

/-- A ROLL_DAY as R164 decides it. -/
def State.rollDecided (f : DownFrame) (day : Day) (start : Nat) (s : State) : RollDecision → State
  | .refused st => s.reply f st
  | .immediate => ((s.immediateRoll day start).reply f .done).makeRollDone true
  | .accepted => (s.acceptRoll day start).reply f .done

theorem exec_rollDay_taken (h : s.Takes f rest) (hc : f.IsCommand .rollDay args) : exec .rollDay s =
    .next ((s.taking rest).rollDecided f (rollDayOf args) (rollStartOf args)
      (rollDecision s (rollDayOf args) (rollStartOf args))) := by
  have taken : exec .rollDay s = .next (rollDayTaken f (s.taking rest)) := h.answering hc _
  have start : fieldAt f.args 2 4 = rollStartOf args := by
    have length : (args.drop 2).length = 4 := by rw [List.length_drop, hc.length]; rfl
    rw [hc.args_eq, fieldAt, List.take_of_length_le length.le]
    rfl
  have day : BitVec.ofNat 16 (fieldAt f.args 0 2) = rollDayOf args := by rw [hc.args_eq]; rfl
  rw [taken, rollDayTaken, start, day]
  change _ = Host.Outcome.next (State.rollDecided _ _ _ _ (rollDecision (s.taking rest) _ _))
  cases rollDecision (s.taking rest) (rollDayOf args) (rollStartOf args) <;> rfl

theorem rollDecision_rolling (rolling : s.roll.state = .rolling) : rollDecision s day start = .refused .busy :=
  if_pos rolling

theorem rollDecision_beyond (idle : s.roll.state ≠ .rolling) (beyond : Config.lineTimeMax < start) :
    rollDecision s day start = .refused .badArgument := (if_neg idle).trans (if_pos beyond)

theorem rollDecision_notReady (st : s.roll.state = .notReady) (inside : start ≤ Config.lineTimeMax) :
    rollDecision s day start = if s.tables.armed = true then .immediate else .refused .badState := by
  rw [rollDecision, if_neg (by rw [st]; decide), if_neg inside.not_gt, if_pos st]

theorem rollDecision_ready (st : s.roll.state = .ready) (inside : start ≤ Config.lineTimeMax) :
    rollDecision s day start = if day ≠ s.clock.day + 1 then .refused .badArgument else .accepted := by
  rw [rollDecision, if_neg (by rw [st]; decide), if_neg inside.not_gt, if_neg (by rw [st]; decide)]

/-! ## The start of a day (R45, R48, R165, R166) -/

/-- A start at 129,599 with the overrun flag clear (R45). -/
abbrev State.StartArrives (start : Nat) (s : State) : Prop := start = Config.lineTimeMax ∧ s.clock.overrun = false

/-- A second urgent place, beside that of the REPLY. -/
abbrev State.SecondPlace (s : State) : Prop := s.lli.urgentUsed + 1 < Config.urgentPlaces

/-- The state with a day started: its clock, and the deadlines compared with it; a DAY_OVERRUN is owed where no second place is
(R45, R47). -/
def State.dayStarted (day : Day) (start : Nat) (s : State) : State := { s with
  clock := { time := start, day := day, overrun := decide (start = Config.lineTimeMax)
             owedOverrun := s.clock.owedOverrun || decide (s.StartArrives start ∧ ¬s.SecondPlace) }
  ports := s.ports.map (Port.compareDeadlines start)
  expiry := s.expiry.map (ExpiryEntry.compareDeadline start)
  rt := { s.rt with entries := s.rt.entries.map (RefEntry.compareDeadline start) } }

/-- The DAY_OVERRUN placed at the start of a day, if any (R45). -/
def State.overrunPlaced (day : Day) (start : Nat) (s : State) : List UpFrame :=
  if s.StartArrives start ∧ s.SecondPlace then [.dayOverrun day start] else []

/-- The frames that a ROLL_DAY begun places: its DAY_OVERRUN, if any, and its REPLY DONE (R45, R165, R166). -/
def State.rollFrames (f : DownFrame) (day : Day) (start : Nat) (s : State) : List UpFrame :=
  s.overrunPlaced day start ++ [.reply f.request (.command 6) .done none none]

/-- The head frame out of the receive list, and these frames at the tail of the urgent queue, where a free transmitter takes them
up (R179, R182). -/
def State.placing (rest : List DownFrame) (frames : List UpFrame) (s : State) : State :=
  { s with lli := LineLink.startSending { s.lli with receive := rest, urgent := s.lli.urgent ++ frames } }

theorem State.placing_pushUrgent {frames : List UpFrame} (nonempty : frames ≠ []) (x : UpFrame) (s : State) :
    (s.placing rest frames).pushUrgent x = s.placing rest (frames ++ [x]) := by
  have sending := LineLink.startSending_urgent_more { s.lli with receive := rest, urgent := s.lli.urgent ++ frames } [x]
    s.lli.replyHeld (by simp [nonempty])
  simp only [State.pushUrgent, State.placing, LineLink.startSending_urgent, List.append_assoc] at sending ⊢
  rw [← sending, LineLink.startSending_held]

theorem State.placing_urgentUsed (frames : List UpFrame) (s : State) :
    (s.placing rest frames).lli.urgentUsed = s.lli.urgentUsed + frames.length := by
  simp only [State.placing, LineLink.urgentUsed, LineLink.startSending_urgent, LineLink.startSending_reserve,
    LineLink.startSending_held, List.length_append]
  omega

/-- A day started while its ROLL_DAY is being taken: the second place is one beside that of the REPLY. -/
theorem State.Takes.startDay_taking (h : s.Takes f rest) (inside : start ≤ Config.lineTimeMax) :
    (s.taking rest).startDay day start =
      if s.StartArrives start ∧ s.SecondPlace then
        ((s.dayStarted day start).taking rest).pushUrgent (.dayOverrun day start)
      else (s.dayStarted day start).taking rest := by
  have place := h.taking_urgentHasPlace
  rw [State.startDay, State.setLineTime_eq _ _ inside]
  simp only [place, decide_eq_true_eq, decide_eq_false_iff_not]
  split
  next placed => exact (if_pos placed).symm
  next none => exact (if_neg none).symm

/-- The start of a day, with the REPLY of the ROLL_DAY behind the DAY_OVERRUN it may place. -/
theorem State.Takes.startDay_reply (h : s.Takes f rest) (hc : f.IsCommand .rollDay args) (inside : start ≤ Config.lineTimeMax) :
    ((s.taking rest).startDay day start).reply f .done =
      (s.dayStarted day start).placing rest (s.rollFrames f day start) := by
  have kind : f.requestKind = .command 6 := hc.requestKind_eq
  rw [h.startDay_taking inside, State.rollFrames, State.overrunPlaced, ← kind]
  split
  next =>
    rw [State.taking_pushUrgent_reply (s := s.dayStarted day start) h.between, State.placing, ← List.append_assoc]
    rfl
  next => exact State.taking_reply (s := s.dayStarted day start) h.between _

/-! ## The roll begun (R166) -/

/-- The sweep of a roll begun: the day that was current is the old day. -/
def State.sweepBegun (s : State) : State := { s with roll := { s.roll with
  state := .rolling, oldDay := some s.clock.day, pos := 0, visit := [], paused := false, closingCount := 0 } }

theorem State.Takes.acceptRoll_reply (h : s.Takes f rest) (hc : f.IsCommand .rollDay args)
    (inside : start ≤ Config.lineTimeMax) : ((s.taking rest).acceptRoll day start).reply f .done =
      (s.sweepBegun.dayStarted day start).placing rest (s.rollFrames f day start) :=
  have taking : s.sweepBegun.Takes f rest := ⟨h.head, h.place, h.between⟩
  taking.startDay_reply hc inside

/-! ## The immediate roll (R165, R174) -/

/-- The immediate roll before its REPLY: the armed bank active, the day started, the line READY, one more roll completed. -/
def State.rolledAtOnce (day : Day) (start : Nat) (s : State) : State := State.bump .rollsCompleted { s.dayStarted day start with
  tables := s.tables.swapRoles
  roll := { s.roll with state := .ready } }

theorem State.Takes.immediateRoll_reply (h : s.Takes f rest) (hc : f.IsCommand .rollDay args)
    (inside : start ≤ Config.lineTimeMax) : ((s.taking rest).immediateRoll day start).reply f .done =
      (s.rolledAtOnce day start).placing rest (s.rollFrames f day start) :=
  have taking : State.Takes { s with tables := s.tables.swapRoles } f rest := ⟨h.head, h.place, h.between⟩
  congrArg (fun t : State => State.bump .rollsCompleted { t with roll := { t.roll with state := .ready } })
    (taking.startDay_reply hc inside)

/-- The ROLL_DONE of an immediate roll is placed: none is owed, and a place is left behind its other frames. -/
abbrev State.DonePlaced (f : DownFrame) (day : Day) (start : Nat) (s : State) : Prop :=
  s.roll.owedDone = none ∧ s.lli.urgentUsed + (s.rollFrames f day start).length < Config.urgentPlaces

/-- The immediate roll whole: its ROLL_DONE behind the REPLY, or owed (R174, log 16). -/
theorem State.Takes.immediateRoll_done (h : s.Takes f rest) (hc : f.IsCommand .rollDay args)
    (inside : start ≤ Config.lineTimeMax) :
    let done : RollDone := ⟨day, s.tables.armedGen, true, start⟩
    let free := s.DonePlaced f day start
    let w := s.rolledAtOnce day start
    (((s.taking rest).immediateRoll day start).reply f .done).makeRollDone true =
      State.placing rest (s.rollFrames f day start ++ if free then [.rollDone done] else [])
        { w with roll := { w.roll with owedDone := if free then none else some done } } := by
  intro done free w
  have used := w.placing_urgentUsed (rest := rest) (s.rollFrames f day start)
  rw [h.immediateRoll_reply hc inside]
  by_cases placed : free
  · have place : (w.placing rest (s.rollFrames f day start)).lli.urgentHasPlace = true :=
      decide_eq_true (used.trans_lt placed.2)
    rw [State.makeRollDone_placed (s := w.placing rest _) placed.1 place, State.placing_pushUrgent (by simp [State.rollFrames]),
      if_pos placed, if_pos placed, ← placed.1]
    rfl
  · have waits : (w.placing rest (s.rollFrames f day start)).lli.urgentHasPlace = false ∨ s.roll.owedDone ≠ none :=
      (not_and_or.1 placed).symm.imp_left fun full => decide_eq_false (used ▸ full)
    rw [State.makeRollDone_owed (s := w.placing rest _) waits, if_neg placed, if_neg placed, List.append_nil]
    rfl

end

/-- What a ROLL_DAY begun leaves alone. -/
theorem State.rollDay_agreeOutside {s u : State} (jt : u.jt = s.jt) (pu : u.pu = s.pu) (pool : u.pool = s.pool)
    (fu : u.fu = s.fu) (pending : u.pending = s.pending) :
    State.AgreeOutside [.clock, .ports, .expiry, .rt, .tables, .roll, .lli, .counters] s u := by
  intro part outside
  cases part
  case clock | ports | expiry | rt | tables | roll | lli | counters => exact absurd (by decide) outside
  all_goals assumption

/-- Settles O52: the cases of R164 in order (`exec_rollDay_taken` and the lemmas about `rollDecision`), then the immediate roll
and the roll begun by the states they come to. -/
theorem rollDayDecided : Obligations.RollDayDecided := by
  intro s f rest args h hc day start
  have decided {d : RollDecision} (branch : rollDecision s day start = d) :
      exec .rollDay s = .next ((s.taking rest).rollDecided f day start d) := branch ▸ exec_rollDay_taken h hc
  have refused {st : Status} (branch : rollDecision s day start = .refused st) :
      exec .rollDay s = .next (s.answered f rest st) :=
    (decided branch).trans (congrArg _ (State.taking_reply h.between st))
  refine ⟨fun rolling => refused (rollDecision_rolling rolling), fun idle beyond => refused (rollDecision_beyond idle beyond),
    fun st inside unarmed => refused ?_, fun st inside other => refused ?_, fun accepts inside => ?_⟩
  · rw [rollDecision_notReady st inside, unarmed]
    rfl
  · rw [rollDecision_ready st inside, if_pos other]
  · rcases accepts with ⟨st, armed⟩ | ⟨st, following⟩
    · have immediate := decided ((rollDecision_notReady st inside).trans (if_pos armed))
      rw [immediate, State.rollDecided, h.immediateRoll_done hc inside]
      refine ⟨_, rfl, State.rollDay_agreeOutside rfl rfl rfl rfl rfl, rfl, rfl, rfl, rfl, fun ready => ?_,
        fun _ => ⟨rfl, rfl, rfl, ?_⟩⟩
      · rw [st] at ready
        cases ready
      · rw [List.append_assoc]
        rfl
    · have accepted := decided ((rollDecision_ready st inside).trans (if_neg (not_not.2 following)))
      rw [accepted, State.rollDecided, h.acceptRoll_reply hc inside]
      refine ⟨_, rfl, State.rollDay_agreeOutside rfl rfl rfl rfl rfl, rfl, rfl, rfl, rfl,
        fun _ => ⟨rfl, rfl, rfl, rfl⟩, fun notReady => ?_⟩
      · rw [st] at notReady
        cases notReady

end Sys2Proof.Machine
end

section
/-! PROOFS. What the bounds of the queues and of the slots read: the places of the line link (R177, R179), the entries of the Work Pool
and their counts, and the taps taken and not ended (R103). -/

namespace Sys2Proof.Machine

open Sys2Proof

/-! ## The places of the line link (R177, R179) -/

/-- The line link within its places, with or without a place held for a REPLY (R177, R179). -/
structure LineLink.Fits (held : Bool) (l : LineLink) : Prop where
  reply : l.replyHeld = held
  receive : l.receive.length ≤ Config.receivePlaces
  urgent : l.urgentUsed ≤ Config.urgentPlaces
  bulk : l.bulk.length ≤ Config.bulkPlaces

theorem State.queuesInBounds_iff {s : State} : s.QueuesInBounds ↔ s.lli.Fits false :=
  ⟨fun ⟨reply, receive, urgent, bulk⟩ => ⟨reply, receive, urgent, bulk⟩,
    fun ⟨reply, receive, urgent, bulk⟩ => ⟨reply, receive, urgent, bulk⟩⟩

@[simp] theorem LineLink.startSending_urgentUsed (l : LineLink) : l.startSending.urgentUsed = l.urgentUsed := by
  simp [LineLink.urgentUsed]

section
variable {held : Bool} {l m : LineLink}

/-- The places alone decide. -/
theorem LineLink.Fits.same (h : l.Fits held) (reply : m.replyHeld = l.replyHeld) (receive : m.receive = l.receive)
    (urgent : m.urgentUsed = l.urgentUsed) (bulk : m.bulk = l.bulk) : m.Fits held :=
  ⟨reply.trans h.reply, receive ▸ h.receive, urgent ▸ h.urgent, bulk ▸ h.bulk⟩

theorem LineLink.Fits.startSending (h : l.Fits held) : l.startSending.Fits held :=
  h.same (by simp) (by simp) (by simp) (by simp)

theorem LineLink.Fits.pushUrgent (h : l.Fits held) (place : l.urgentHasPlace = true) (f : UpFrame) :
    (LineLink.startSending { l with urgent := l.urgent ++ [f] }).Fits held := by
  refine LineLink.Fits.startSending ⟨h.reply, h.receive, ?_, h.bulk⟩
  simp only [LineLink.urgentHasPlace, decide_eq_true_eq] at place
  simp only [LineLink.urgentUsed, List.length_append, List.length_singleton] at place ⊢
  omega

theorem LineLink.Fits.pushBulk (h : l.Fits held) (place : l.bulkHasPlace = true) (f : UpFrame) :
    (LineLink.startSending { l with bulk := l.bulk ++ [f] }).Fits held := by
  refine LineLink.Fits.startSending ⟨h.reply, h.receive, h.urgent, ?_⟩
  rw [List.length_append]
  exact of_decide_eq_true place

/-- The REPLY fills the place held for it (R179). -/
theorem LineLink.Fits.reply_placed (h : l.Fits true) (f : UpFrame) :
    (LineLink.startSending { l with replyHeld := false, urgent := l.urgent ++ [f] }).Fits false := by
  have used := h.urgent
  refine LineLink.Fits.startSending ⟨rfl, h.receive, ?_, h.bulk⟩
  simp only [LineLink.urgentUsed, h.reply, List.length_append, List.length_singleton] at used ⊢
  simpa [Nat.add_right_comm] using used

/-- The place held becomes the copy reply reserve (R180). -/
theorem LineLink.Fits.reserve (h : l.Fits true) (request : BitVec 16) :
    LineLink.Fits false { l with replyHeld := false, copyReserve := some request } := by
  have used := h.urgent
  refine ⟨rfl, h.receive, ?_, h.bulk⟩
  simp only [LineLink.urgentUsed, h.reply, Option.isSome_some, if_true, Bool.false_eq_true, if_false] at used ⊢
  omega

/-- The reserved place filled by the REPLY of a COPY_ACTIVE (R180). -/
theorem LineLink.Fits.fillReserve (h : l.Fits held) (reserved : l.copyReserve.isSome = true) (f : UpFrame) :
    (LineLink.startSending { l with copyReserve := none, urgent := l.urgent ++ [f] }).Fits held := by
  have used := h.urgent
  refine LineLink.Fits.startSending ⟨h.reply, h.receive, ?_, h.bulk⟩
  simp only [LineLink.urgentUsed, reserved, List.length_append, List.length_singleton, Option.isSome_none, if_true,
    Bool.false_eq_true, if_false] at used ⊢
  omega

/-- A frame taken leaves the receive list, with a place held for its REPLY (R179). -/
theorem LineLink.Fits.take (h : l.Fits false) {f : DownFrame} {rest : List DownFrame} (head : l.receive = f :: rest)
    (place : l.urgentHasPlace = true) : LineLink.Fits true { l with receive := rest, replyHeld := true } := by
  have listed := h.receive
  rw [head, List.length_cons] at listed
  refine ⟨rfl, Nat.le_of_succ_le listed, ?_, h.bulk⟩
  simp only [LineLink.urgentHasPlace, decide_eq_true_eq] at place
  simp only [LineLink.urgentUsed, h.reply] at place ⊢
  simpa using place

/-- A frame received where the list has room (R178). -/
theorem LineLink.Fits.listed (h : l.Fits held) (room : l.receive.length < Config.receivePlaces) (f : DownFrame)
    (source : BitVec 48) : LineLink.Fits held { l with receive := l.receive ++ [f], server := some source } :=
  ⟨h.reply, by rw [List.length_append]; exact room, h.urgent, h.bulk⟩

theorem LineLink.Fits.frameSent (h : l.Fits held) (q : QueueSel) : (l.frameSent q).Fits held := by
  have used := h.urgent
  have queued := h.bulk
  unfold LineLink.frameSent
  cases q with
  | urgent =>
    refine LineLink.Fits.startSending ⟨h.reply, h.receive, ?_, h.bulk⟩
    simp only [LineLink.urgentUsed, List.length_tail] at used ⊢
    omega
  | bulk =>
    refine LineLink.Fits.startSending ⟨h.reply, h.receive, h.urgent, ?_⟩
    simp only [List.length_tail]
    omega

end

/-! ## The entries of the Work Pool (R101 to R109) -/

/-- The entries on the four lists. -/
def WorkPool.entries (w : WorkPool) : List WorkEntry := w.l0 ++ w.l1 ++ w.l2 ++ w.l3

/-- The list of a level stands somewhere among the entries. -/
theorem WorkPool.entries_split (w : WorkPool) (v : Level) : ∃ before after, w.entries = before ++ w.list v ++ after ∧
    ∀ l, (w.setList v l).entries = before ++ l ++ after := by
  cases v with
  | l0 => exact ⟨[], w.l1 ++ w.l2 ++ w.l3, by simp [WorkPool.entries, WorkPool.list], fun l => by
      simp [WorkPool.entries, WorkPool.setList]⟩
  | l1 => exact ⟨w.l0, w.l2 ++ w.l3, by simp [WorkPool.entries, WorkPool.list], fun l => by
      simp [WorkPool.entries, WorkPool.setList]⟩
  | l2 => exact ⟨w.l0 ++ w.l1, w.l3, rfl, fun l => rfl⟩
  | l3 => exact ⟨w.l0 ++ w.l1 ++ w.l2, [], by simp [WorkPool.entries, WorkPool.list], fun l => by
      simp [WorkPool.entries, WorkPool.setList]⟩

theorem WorkPool.entries_join (w : WorkPool) (e : WorkEntry) : (w.join e).entries.Perm (e :: w.entries) := by
  have joined : (w.join e).entries = (w.setList e.level (w.list e.level ++ [e])).entries := by
    unfold WorkPool.join
    dsimp only
    split <;> rfl
  obtain ⟨before, after, entries, replaced⟩ := w.entries_split e.level
  rw [joined, replaced, entries]
  simpa using List.perm_middle (l₁ := before ++ w.list e.level)

/-- Run level and aging count are all that a grant changes beside its list (R108). -/
theorem WorkPool.afterGrant_eq (w : WorkPool) (v : Level) (aging : Bool) :
    ∃ run n, w.afterGrant v aging = { w with runLevel := run, aging := n } := by
  unfold WorkPool.afterGrant
  split
  · exact ⟨_, _, rfl⟩
  · split
    · exact ⟨_, _, rfl⟩
    · split
      · exact ⟨w.runLevel, _, rfl⟩
      · exact ⟨_, _, rfl⟩

/-- The entry granted leaves its list, and the released taps stay as they are (R109). -/
theorem WorkPool.entries_grant {w v : WorkPool} {e : WorkEntry} {aging : Bool} (h : w.grant = some (e, aging, v)) :
    w.entries.Perm (e :: v.entries) ∧ v.releasedTaps = w.releasedTaps := by
  unfold WorkPool.grant at h
  split at h
  next level aged _ =>
    split at h
    next head =>
      cases h
      obtain ⟨run, n, after⟩ := w.afterGrant_eq level aging
      obtain ⟨before, behind, entries, replaced⟩ := w.entries_split level
      rw [after, WorkPool.setList_withRun]
      refine ⟨?_, by cases level <;> rfl⟩
      rw [entries, head, List.append_assoc, List.cons_append]
      refine List.perm_middle.trans (.cons _ (.of_eq ?_))
      exact (List.append_assoc _ _ _).symm.trans (replaced _).symm
    next => cases h
  next => cases h

/-- A tap-caused entry has a waiting tap, and no other entry has one (R84, R102). -/
def WorkEntry.Classed (e : WorkEntry) : Prop := e.waiting.isSome = true ↔ e.cls = .tap

/-- The pool's two counts are those of these entries, each of its class (R103). -/
structure WorkPool.Counts (w : WorkPool) (entries : List WorkEntry) : Prop where
  taps : w.tapInUse = entries.countP fun e => e.cls == .tap
  nonTaps : w.nonTapInUse = entries.countP fun e => e.cls == .nonTap
  classed : ∀ e ∈ entries, e.Classed

section
variable {w : WorkPool} {l m : List WorkEntry} {e : WorkEntry}

theorem WorkPool.Counts.perm (h : w.Counts l) (same : l.Perm m) : w.Counts m :=
  ⟨h.taps.trans (same.countP_eq _), h.nonTaps.trans (same.countP_eq _), fun e he => h.classed e (same.mem_iff.2 he)⟩

/-- The counts alone decide. -/
theorem WorkPool.Counts.same {v : WorkPool} (h : w.Counts l) (taps : v.tapInUse = w.tapInUse)
    (nonTaps : v.nonTapInUse = w.nonTapInUse) : v.Counts l := ⟨taps.trans h.taps, nonTaps.trans h.nonTaps, h.classed⟩

/-- How many slots of a class an entry uses. -/
def WorkEntry.slots (e : WorkEntry) (c : SourceClass) : Nat := if e.cls = c then 1 else 0

theorem WorkPool.counts_cons (w : WorkPool) (e : WorkEntry) (l : List WorkEntry) : w.Counts (e :: l) ↔
    e.Classed ∧ (∀ x ∈ l, x.Classed) ∧ w.tapInUse = (l.countP fun e => e.cls == .tap) + e.slots .tap ∧
      w.nonTapInUse = (l.countP fun e => e.cls == .nonTap) + e.slots .nonTap := by
  simp only [WorkEntry.slots]
  constructor
  · intro h
    have classed := h.classed
    rw [List.forall_mem_cons] at classed
    exact ⟨classed.1, classed.2, by simpa [List.countP_cons] using h.taps, by simpa [List.countP_cons] using h.nonTaps⟩
  · rintro ⟨own, classed, taps, nonTaps⟩
    exact ⟨by simpa [List.countP_cons] using taps, by simpa [List.countP_cons] using nonTaps,
      List.forall_mem_cons.2 ⟨own, classed⟩⟩

theorem WorkPool.join_inUse (w : WorkPool) (e : WorkEntry) : (w.join e).tapInUse = w.tapInUse + e.slots .tap ∧
    (w.join e).nonTapInUse = w.nonTapInUse + e.slots .nonTap ∧ (w.join e).releasedTaps = w.releasedTaps := by
  unfold WorkPool.join WorkEntry.slots
  cases e.level <;> cases e.cls <;> exact ⟨rfl, rfl, rfl⟩

theorem WorkPool.Counts.join (h : w.Counts l) (classed : e.Classed) : (w.join e).Counts (e :: l) := by
  obtain ⟨taps, nonTaps, -⟩ := w.join_inUse e
  rw [WorkPool.counts_cons, taps, nonTaps, h.taps, h.nonTaps]
  exact ⟨classed, h.classed, rfl, rfl⟩

end

/-! ## Taps and slots (R103) -/

/-- How many taps stand on the intake lists. -/
def State.intakes (s : State) : Nat := ∑ p : PortId, (s.port p).intake.length

/-- How many credits are outstanding, over all ports (R33). -/
def State.outstandings (s : State) : Nat := ∑ p : PortId, (s.port p).outstanding

theorem State.sum_ports (s : State) (f : Port → Nat) : (s.ports.toList.map f).sum = ∑ p : PortId, f (s.port p) := by
  have listed : s.ports.toList.map f = List.ofFn fun p : PortId => f (s.port p) :=
    List.ext_getElem (by simp only [List.length_map, Vector.length_toList, List.length_ofFn]) fun i _ _ => by
      simp only [List.getElem_map, List.getElem_ofFn, Vector.getElem_toList, State.port, Fin.getElem_fin]
  rw [listed, List.sum_ofFn]

/-- A sum over the ports follows the one port that changes. -/
theorem sum_of_others {f g : PortId → Nat} {p : PortId} (h : ∀ r, r ≠ p → g r = f r) :
    ∑ r, g r + f p = ∑ r, f r + g p := by
  have rest : ∑ r ∈ Finset.univ.erase p, g r = ∑ r ∈ Finset.univ.erase p, f r :=
    Finset.sum_congr rfl fun r hr => h r (Finset.ne_of_mem_erase hr)
  have before := Finset.add_sum_erase Finset.univ f (Finset.mem_univ p)
  have after := Finset.add_sum_erase Finset.univ g (Finset.mem_univ p)
  omega

/-- What the law of the slots reads of a state: the taps on intake lists, the credits outstanding, the Pairing Unit's item, the
Work Pool and the entry in flight. -/
structure Uses where
  intakes : Nat
  outstandings : Nat
  item : Option PuItem
  pool : WorkPool
  flight : Option WorkEntry

/-- What a state's slots and taps are. -/
def State.uses (s : State) : Uses := ⟨s.intakes, s.outstandings, s.pu.item, s.pool, s.fu.entry⟩

/-- The entries that use a slot. -/
def Uses.work (x : Uses) : List WorkEntry := x.pool.entries ++ x.flight.toList

/-- How many items the Pairing Unit has in progress (R76). -/
def Uses.inProgress (x : Uses) : Nat := if x.item.isSome then 1 else 0

/-- The law of the slots midway of a step: `taps` more taps have been taken and have not ended than stand anywhere (fewer, where a
tap ends before its work), and the entries `work` keep their slots with no list and no Fare Unit to name them. -/
structure Uses.Books (taps : Int) (work : List WorkEntry) (x : Uses) : Prop where
  within : x.pool.slotsInUse ≤ Config.poolSlots
  counts : x.pool.Counts (work ++ x.work)
  held : ∀ e a, x.item = some (.slotWait e a) → e.waiting.isSome = true ∧ e.cls = .tap
  inside : (x.intakes + x.inProgress + x.pool.tapInUse : Int) + taps ≤ x.outstandings + x.pool.releasedTaps

/-- The entries with a waiting tap are the tap-caused ones. -/
theorem WorkPool.Counts.waiting {w : WorkPool} {l : List WorkEntry} (h : w.Counts l) :
    (l.filter fun e => e.waiting.isSome).length = w.tapInUse := by
  rw [h.taps, ← List.countP_eq_length_filter]
  exact List.countP_congr fun e he => (h.classed e he).trans beq_iff_eq.symm

theorem State.tapsInside_eq {s : State} (h : s.pool.Counts s.workInUse) :
    s.tapsInside = s.intakes + s.uses.inProgress + s.pool.tapInUse := by
  rw [State.tapsInside, h.waiting, s.sum_ports]
  rfl

theorem State.sum_outstanding (s : State) : (s.ports.toList.map Port.outstanding).sum = s.outstandings := s.sum_ports _

/-- Between steps nothing is in hand. -/
theorem State.slotLaw_iff {s : State} : s.SlotLaw ↔ s.uses.Books 0 [] := by
  have inside_iff : s.pool.Counts s.workInUse →
      (s.tapsInside ≤ (s.ports.toList.map Port.outstanding).sum + s.pool.releasedTaps ↔
      (s.intakes + s.uses.inProgress + s.pool.tapInUse : Int) + 0 ≤ s.outstandings + s.pool.releasedTaps) := fun counts => by
    rw [State.tapsInside_eq counts, State.sum_outstanding]
    omega
  constructor
  · intro h
    have counts : s.pool.Counts s.workInUse :=
      ⟨by rw [h.taps, List.countP_eq_length_filter], by rw [h.nonTaps, List.countP_eq_length_filter], h.waiting⟩
    exact ⟨h.within, counts, h.heldWork, (inside_iff counts).1 h.inside⟩
  · intro h
    have counts : s.pool.Counts s.workInUse := h.counts
    exact ⟨h.within, by rw [counts.taps, List.countP_eq_length_filter], by rw [counts.nonTaps, List.countP_eq_length_filter],
      counts.classed, h.held, (inside_iff counts).2 h.inside⟩

/-- A tap-caused entry stands for a reserved slot (R33, R103). -/
theorem State.SlotLaw.tapInUse_le {s : State} (h : s.SlotLaw) (credits : s.CreditLaw) : s.pool.tapInUse ≤ s.reservation := by
  have inside : (s.intakes + s.uses.inProgress + s.pool.tapInUse : Int) + 0 ≤ s.outstandings + s.pool.releasedTaps :=
    (State.slotLaw_iff.1 h).inside
  have reserved : s.outstandings ≤ s.portReservation := by
    rw [State.portReservation, s.sum_ports]
    refine Finset.sum_le_sum fun p _ => ?_
    unfold Port.reserved
    split
    next => exact (credits p).outstanding_le
    next out => exact ((credits p).outstanding_eq_zero (Bool.eq_false_of_not_eq_true out)).le
  rw [State.reservation]
  omega

/-- Free non-tap slots are slots not in use (R103, R105). -/
theorem State.SlotLaw.room {s : State} (h : s.SlotLaw) (credits : s.CreditLaw) {n : Nat} (free : n ≤ s.nonTapFree) :
    s.pool.slotsInUse + n ≤ Config.poolSlots := by
  have reserved := h.tapInUse_le credits
  have within := h.within
  simp only [State.nonTapFree, WorkPool.slotsInUse] at free ⊢
  omega

/-! ## What a step leaves of the slots and taps -/

section
variable {s u v : State}

theorem State.uses_eq (ports : v.ports = u.ports) (item : v.pu.item = u.pu.item) (pool : v.pool = u.pool) (fu : v.fu = u.fu) :
    v.uses = u.uses := by
  simp only [State.uses, State.intakes, State.outstandings, State.port, ports, item, pool, fu]

/-- The same taps on every intake list and the same credits at every port. -/
theorem State.uses_of_ports
    (ports : ∀ p, (v.port p).intake = (u.port p).intake ∧ (v.port p).outstanding = (u.port p).outstanding)
    (item : v.pu.item = u.pu.item) (pool : v.pool = u.pool) (fu : v.fu = u.fu) : v.uses = u.uses := by
  simp only [State.uses, State.intakes, State.outstandings, (ports _).1, (ports _).2, item, pool, fu]

theorem State.OtherPortsKept.intakes {p : PortId} (h : u.OtherPortsKept p v) :
    v.intakes + (u.port p).intake.length = u.intakes + (v.port p).intake.length :=
  sum_of_others (f := fun r => (u.port r).intake.length) (g := fun r => (v.port r).intake.length) fun r hr => by rw [h r hr]

theorem State.OtherPortsKept.outstandings {p : PortId} (h : u.OtherPortsKept p v) :
    v.outstandings + (u.port p).outstanding = u.outstandings + (v.port p).outstanding :=
  sum_of_others (f := fun r => (u.port r).outstanding) (g := fun r => (v.port r).outstanding) fun r hr => by rw [h r hr]

theorem State.uses_of_port {p : PortId} (others : u.OtherPortsKept p v) (intake : (v.port p).intake = (u.port p).intake)
    (outstanding : (v.port p).outstanding = (u.port p).outstanding) (item : v.pu.item = u.pu.item) (pool : v.pool = u.pool)
    (fu : v.fu = u.fu) : v.uses = u.uses := by
  refine State.uses_of_ports (fun r => ?_) item pool fu
  by_cases same : r = p
  · exact same ▸ ⟨intake, outstanding⟩
  · rw [others r same]
    exact ⟨rfl, rfl⟩

theorem State.setPort_uses (s : State) {p : PortId} {q : Port} (intake : q.intake = (s.port p).intake)
    (outstanding : q.outstanding = (s.port p).outstanding) : (s.setPort p q).uses = s.uses :=
  State.uses_of_port ((State.otherPortsKept_refl p s).setPort q) (by simpa using intake) (by simpa using outstanding) rfl rfl rfl

end

section
variable {x y : Uses} {t t' : Int} {w : List WorkEntry}

/-- Taps and credits move; entries and counts stay. -/
theorem Uses.Books.move {n : Nat} (h : x.Books t w) (item : y.item = x.item) (pool : y.pool = { x.pool with releasedTaps := n })
    (flight : y.flight = x.flight) (moved : (y.intakes + t' : Int) + x.outstandings + x.pool.releasedTaps ≤
      x.intakes + t + y.outstandings + n) : y.Books t' w := by
  have inside := h.inside
  have work : y.work = x.work := by simp only [Uses.work, pool, flight]; rfl
  refine ⟨?_, ?_, ?_, ?_⟩
  · rw [pool]; exact h.within
  · rw [pool, work]; exact h.counts.same rfl rfl
  · rw [item]; exact h.held
  · simp only [Uses.inProgress, item, pool] at inside ⊢
    omega

/-- An entry joins the pool in a slot not in use (R102, R103): a tap's entry takes over its tap. -/
theorem Uses.Books.join (h : x.Books t w) {e : WorkEntry} (classed : e.Classed) (room : x.pool.slotsInUse < Config.poolSlots) :
    Uses.Books (t - e.slots .tap) w { x with pool := x.pool.join e } := by
  obtain ⟨taps, nonTaps, released⟩ := x.pool.join_inUse e
  have inside := h.inside
  have one : e.slots .tap + e.slots .nonTap = 1 := by
    unfold WorkEntry.slots
    cases e.cls <;> rfl
  refine ⟨?_, ?_, h.held, ?_⟩
  · simp only [WorkPool.slotsInUse, taps, nonTaps] at room ⊢
    omega
  · refine (h.counts.join classed).perm (List.perm_middle.symm.trans (.append_left w ?_))
    exact ((x.pool.entries_join e).append_right x.flight.toList).symm
  · simp only [Uses.inProgress, taps, released] at inside ⊢
    omega

/-- The Pairing Unit holds an item in the place of the tap in hand (R76). -/
theorem Uses.Books.hold (h : x.Books t w) (idle : x.item = none) {i : PuItem}
    (held : ∀ e a, i = .slotWait e a → e.waiting.isSome = true ∧ e.cls = .tap) :
    Uses.Books (t - 1) w { x with item := some i } := by
  have inside := h.inside
  refine ⟨h.within, h.counts, fun e a item => held e a (Option.some.inj item), ?_⟩
  simp only [Uses.inProgress, idle, Option.isSome_some, Option.isSome_none, if_true, Bool.false_eq_true, if_false] at inside ⊢
  omega

/-- The item's tap is in hand again (R81, R106). -/
theorem Uses.Books.resume (h : x.Books t w) (busy : x.item.isSome = true) :
    Uses.Books (t + 1) w { x with item := none } := by
  have inside := h.inside
  refine ⟨h.within, h.counts, fun e a item => (by cases item), ?_⟩
  simp only [Uses.inProgress, busy, Option.isSome_none, if_true, Bool.false_eq_true, if_false] at inside ⊢
  omega

/-- An entry granted leaves its list and keeps its slot (R109). -/
theorem Uses.Books.grant (h : x.Books t []) {pool : WorkPool} {e : WorkEntry} {aging : Bool}
    (granted : x.pool.grant = some (e, aging, pool)) : Uses.Books t [e] { x with pool := pool } := by
  obtain ⟨taps, nonTaps⟩ := WorkPool.grant_uses granted
  obtain ⟨entries, released⟩ := WorkPool.entries_grant granted
  have inside := h.inside
  refine ⟨?_, ?_, h.held, ?_⟩
  · simpa only [WorkPool.slotsInUse, taps, nonTaps] using h.within
  · exact (h.counts.perm (entries.append_right x.flight.toList)).same taps nonTaps
  · simpa only [Uses.inProgress, taps, released] using inside

/-- The Fare Unit comes to name the entry in hand (R111), or lets it go (R110). -/
theorem Uses.Books.fly (h : x.Books t w) {w' : List WorkEntry} {f : Option WorkEntry}
    (same : (w ++ x.flight.toList).Perm (w' ++ f.toList)) : Uses.Books t w' { x with flight := f } :=
  ⟨h.within, h.counts.perm ((List.perm_append_comm_assoc _ _ _).trans
    ((same.append_left _).trans (List.perm_append_comm_assoc _ _ _))), h.held, h.inside⟩

/-- The pool after a slot of an entry's class is released (R110). -/
def WorkPool.freed (c : SourceClass) (w : WorkPool) : WorkPool :=
  match c with
  | .tap => { w with tapInUse := w.tapInUse - 1 }
  | .nonTap => { w with nonTapInUse := w.nonTapInUse - 1 }

/-- The entry in hand leaves its slot; a tap of its own that has ended before is no longer counted against it (R110). -/
theorem Uses.Books.free {e : WorkEntry} (h : x.Books t [e]) :
    Uses.Books (t + e.slots .tap) [] { x with pool := x.pool.freed e.cls } := by
  have inside := h.inside
  have within := h.within
  obtain ⟨-, classed, taps, nonTaps⟩ := (WorkPool.counts_cons _ _ _).1 h.counts
  have freed : (x.pool.freed e.cls).tapInUse = x.pool.tapInUse - e.slots .tap ∧
      (x.pool.freed e.cls).nonTapInUse = x.pool.nonTapInUse - e.slots .nonTap ∧
      (x.pool.freed e.cls).releasedTaps = x.pool.releasedTaps ∧ (x.pool.freed e.cls).entries = x.pool.entries := by
    unfold WorkEntry.slots
    cases e.cls <;> exact ⟨rfl, rfl, rfl, rfl⟩
  obtain ⟨tapsFreed, nonTapsFreed, released, entries⟩ := freed
  refine ⟨?_, ⟨?_, ?_, ?_⟩, h.held, ?_⟩
  · simp only [WorkPool.slotsInUse, tapsFreed, nonTapsFreed] at within ⊢
    omega
  · rw [tapsFreed, Uses.work, entries]
    exact Nat.sub_eq_of_eq_add taps
  · rw [nonTapsFreed, Uses.work, entries]
    exact Nat.sub_eq_of_eq_add nonTaps
  · rw [Uses.work, entries]
    exact classed
  · simp only [Uses.inProgress, tapsFreed, released] at inside ⊢
    omega

end

end Sys2Proof.Machine
end

section
/-! PROOFS. What holds midway of a step: the places of the line link, the counters and the slots, along the operations that every block
shares, a tap's step, a closure and a pricing (R33, R76 to R111, R131, R169, R177, R189). -/

namespace Sys2Proof.Machine

open Sys2Proof

/-! ## Midway of a step -/

/-- The bounds midway of a step from `s`, each from that bound of `s` alone: the places of the line link, with a place held for a
REPLY or not (R177, R179); the counters (R189); the slots, with `t` taps and the entries `w` in hand (R103). -/
structure State.Midway (s : State) (held : Bool) (t : Int) (w : List WorkEntry) (u : State) : Prop where
  queues : s.QueuesInBounds → u.lli.Fits held
  counters : s.CountersInRange → u.CountersInRange
  slots : s.CreditLaw → s.SlotLaw → u.uses.Books t w

theorem State.Midway.refl (s : State) : s.Midway false 0 [] s :=
  ⟨State.queuesInBounds_iff.1, id, fun _ => State.slotLaw_iff.1⟩

theorem State.CountersInRange.count {s : State} (h : s.CountersInRange) (c : CounterId) (n : Nat) :
    (s.count c n).CountersInRange := fun i => Counters.add_le s.counters c n h i

theorem State.CountersInRange.bumpConditions {s : State} (h : s.CountersInRange) (cs : CondSet) :
    (s.bumpConditions cs).CountersInRange := by
  unfold State.bumpConditions
  generalize cs.members = l
  induction l generalizing s with
  | nil => exact h
  | cons c l ih => exact ih (h.count (.conditions c) 1)

section
variable {s u v : State} {held : Bool} {t : Int} {w : List WorkEntry}

/-- An update that none of the bounds reads. -/
theorem State.Midway.same (h : s.Midway held t w u) (lli : v.lli = u.lli) (counters : v.counters = u.counters)
    (uses : v.uses = u.uses) : s.Midway held t w v :=
  ⟨fun k => lli ▸ h.queues k, fun k i => by rw [counters]; exact h.counters k i, fun k l => uses ▸ h.slots k l⟩

/-- An update of the line link alone. -/
theorem State.Midway.link {after : Bool} (h : s.Midway held t w u) (fits : u.lli.Fits held → v.lli.Fits after)
    (counters : v.counters = u.counters) (uses : v.uses = u.uses) : s.Midway after t w v :=
  ⟨fun k => fits (h.queues k), fun k i => by rw [counters]; exact h.counters k i, fun k l => uses ▸ h.slots k l⟩

/-- An update of the slots and taps alone. -/
theorem State.Midway.book {t' : Int} {w' : List WorkEntry} (h : s.Midway held t w u) (lli : v.lli = u.lli)
    (counters : v.counters = u.counters) (books : s.CreditLaw → s.SlotLaw → u.uses.Books t w → v.uses.Books t' w') :
    s.Midway held t' w' v :=
  ⟨fun k => lli ▸ h.queues k, fun k i => by rw [counters]; exact h.counters k i, fun k l => books k l (h.slots k l)⟩

theorem State.Midway.count (h : s.Midway held t w u) (c : CounterId) (n : Nat) : s.Midway held t w (u.count c n) :=
  ⟨h.queues, fun k => (h.counters k).count c n, h.slots⟩

theorem State.Midway.bump (h : s.Midway held t w u) (c : CounterId) : s.Midway held t w (u.bump c) := h.count c 1

/-- Taps in hand may be forgotten. -/
theorem State.Midway.forget {t' : Int} (h : s.Midway held t w u) (le : t' ≤ t) : s.Midway held t' w u :=
  h.book rfl rfl fun _ _ books => books.move (n := u.pool.releasedTaps) rfl rfl rfl (by
    simp only [State.uses]; omega)

/-! ## The queues of the line link -/

theorem State.Midway.pushUrgent (h : s.Midway held t w u) (place : u.lli.urgentHasPlace = true) (f : UpFrame) :
    s.Midway held t w (u.pushUrgent f) := h.link (fun fits => fits.pushUrgent place f) rfl rfl

theorem State.Midway.pushBulk (h : s.Midway held t w u) (place : u.lli.bulkHasPlace = true) (f : UpFrame) :
    s.Midway held t w (u.pushBulk f) := h.link (fun fits => fits.pushBulk place f) rfl rfl

theorem State.Midway.pushFor (h : s.Midway held t w u) {c : AttnClass} (place : u.lli.hasPlaceFor c = true) (f : UpFrame) :
    s.Midway held t w (u.pushFor c f) := by
  cases c with
  | urgent => exact h.pushUrgent place f
  | routine => exact h.pushBulk place f

theorem State.Midway.replyFull (h : s.Midway true t w u) (f : DownFrame) (st : Status) (x : Option (TableId × Nat))
    (c : Option ViewContents) : s.Midway false t w (u.replyFull f st x c) :=
  h.link (fun fits => fits.reply_placed _) rfl rfl

theorem State.Midway.reply (h : s.Midway true t w u) (f : DownFrame) (st : Status) : s.Midway false t w (u.reply f st) :=
  h.replyFull f st none none

theorem State.Midway.copyReply (h : s.Midway held t w u) (st : Status) : s.Midway held t w (u.copyReply st) := by
  unfold State.copyReply
  split
  next reserved => exact h.link (fun fits => fits.fillReserve (by rw [reserved]; rfl) _) rfl rfl
  next => exact h

/-! ## Ports (R24, R25, R36, R38) -/

theorem State.Midway.setPort (h : s.Midway held t w u) {p : PortId} {q : Port} (intake : q.intake = (u.port p).intake)
    (outstanding : q.outstanding = (u.port p).outstanding) : s.Midway held t w (u.setPort p q) :=
  h.same rfl rfl (u.setPort_uses intake outstanding)

theorem State.Midway.modPort (h : s.Midway held t w u) {p : PortId} {f : Port → Port}
    (intake : (f (u.port p)).intake = (u.port p).intake) (outstanding : (f (u.port p)).outstanding = (u.port p).outstanding) :
    s.Midway held t w (u.modPort p f) := h.setPort intake outstanding

/-- An attention event finds a place for its notice, or owes it (R38, R39). -/
theorem State.Midway.raise (h : s.Midway held t w u) (p : PortId) (k : AttnKind) (d : AttnDetail) :
    s.Midway held t w (u.raise p k d) := by
  unfold State.raise
  dsimp only
  split
  · exact h
  · have latched : s.Midway held t w (u.setPort p { u.port p with attention := (u.port p).attention ||| k.only }) :=
      h.setPort rfl rfl
    split
    · exact latched
    · split
      next place => exact latched.pushFor place _
      next => exact latched.link (fun fits => fits.same rfl rfl rfl rfl) rfl rfl

/-- One port's taps and credits move, and taps of ended attachments with them (R33, R104). -/
theorem State.Midway.onePort {p : PortId} {t' : Int} {n : Nat} (h : s.Midway held t w u) (others : u.OtherPortsKept p v)
    (lli : v.lli = u.lli) (counters : v.counters = u.counters) (item : v.pu.item = u.pu.item)
    (pool : v.pool = { u.pool with releasedTaps := n }) (fu : v.fu = u.fu)
    (moved : s.CreditLaw → ((v.port p).intake.length + t' : Int) + (u.port p).outstanding + u.pool.releasedTaps ≤
      (u.port p).intake.length + t + (v.port p).outstanding + n) : s.Midway held t' w v := by
  have taps := others.intakes
  have credits := others.outstandings
  refine h.book lli counters fun law _ books => books.move (n := n) item pool (congrArg FareUnit.entry fu) ?_
  have := moved law
  simp only [State.uses]
  omega

theorem State.Midway.release (h : s.Midway held t w u) (p : PortId) (st : PortState) : s.Midway held t w (u.release p st) :=
  h.onePort ((State.otherPortsKept_refl p u).release st) (by simp) (by simp) (by simp) (State.release_pool p st u) (by simp)
    fun _ => by
      rw [State.release_port]
      push_cast
      omega

theorem State.Midway.offerSweepIfFell (h : s.Midway held t w u) (n : Nat) : s.Midway held t w (u.offerSweepIfFell n) :=
  h.same (by simp) (by simp) (State.uses_eq (by simp) (by simp) (by simp) (by simp))

theorem State.Midway.completeDetach (h : s.Midway held t w u) (p : PortId) : s.Midway held t w (u.completeDetach p) := by
  have detached : s.Midway held t w (u.setPort p { (u.port p).place (.detach p) with
      st := .present, tracker := (u.port p).tracker.stop }) := h.setPort rfl rfl
  exact (detached.offerSweepIfFell u.reservation).raise p .detachDone .nothing

theorem State.Midway.completeDetachIfDone (h : s.Midway held t w u) (p : PortId) :
    s.Midway held t w (u.completeDetachIfDone p) := by
  unfold State.completeDetachIfDone
  split
  · exact h.completeDetach p
  · exact h

/-! ## Endings and gate answers (R34, R42, R104) -/

/-- The tap in hand ends. -/
theorem State.Midway.endTap (h : s.Midway held t w u) (p : PortId) (n : BitVec 16) :
    s.Midway held (t - 1) w (u.endTap p n) := by
  have credit : ∀ {q : Port}, q.intake = (u.port p).intake → q.outstanding = (u.port p).outstanding - 1 →
      s.Midway held (t - 1) w (u.setPort p q) := fun {q} intake outstanding =>
    h.onePort (n := u.pool.releasedTaps) ((State.otherPortsKept_refl p u).setPort q) rfl rfl rfl rfl rfl fun _ => by
      rw [State.setPort_port, intake, outstanding]
      omega
  unfold State.endTap
  dsimp only
  split
  next =>
    split
    next => exact credit (by split <;> rfl) (by split <;> rfl)
    next => exact (credit (q := { u.port p with outstanding := (u.port p).outstanding - 1 }) rfl rfl).completeDetachIfDone p
    next => exact h.forget (by omega)
  next =>
    refine State.Midway.offerSweepIfFell ?_ _
    exact h.onePort (State.otherPortsKept_refl p u) rfl rfl rfl rfl rfl fun _ => by
      change ((u.port p).intake.length + (t - 1) : Int) + (u.port p).outstanding + u.pool.releasedTaps ≤
        (u.port p).intake.length + t + (u.port p).outstanding + (u.pool.releasedTaps - 1 : Nat)
      omega

theorem State.Midway.handAnswer (h : s.Midway held t w u) (p : PortId) (n : BitVec 16) (k : TapNo) (a : Answer) :
    s.Midway held t w (u.handAnswer p n k a) := by
  unfold State.handAnswer
  dsimp only
  split
  · exact h.setPort rfl rfl
  · exact h.bump _

theorem State.Midway.answerTap (h : s.Midway held t w u) (x : Tap) (a : Option Answer) :
    s.Midway held t w (u.answerTap x a) := by
  cases a with
  | none => exact h
  | some a => exact h.handAnswer _ _ _ a

theorem State.Midway.handToWaiting (h : s.Midway held t w u) (x : Option WaitingTap) (a : Option Answer) :
    s.Midway held t w (u.handToWaiting x a) := by
  cases x with
  | none => exact h
  | some x =>
    cases a with
    | none => exact h
    | some a => exact h.handAnswer _ _ _ a

/-! ## Work (R102 to R106, R169) -/

/-- An entry takes a slot not in use, and a tap's entry the tap in hand. -/
theorem State.Midway.joinPool (h : s.Midway held t w u) {e : WorkEntry} (classed : e.Classed)
    (room : s.CreditLaw → s.SlotLaw → u.pool.slotsInUse < Config.poolSlots) :
    s.Midway held (t - e.slots .tap) w (u.joinPool e) :=
  h.book rfl rfl fun credits slots books => books.join classed (room credits slots)

theorem State.Midway.joinNonTap (h : s.Midway held t w u) {e : WorkEntry} (classed : e.cls = .nonTap ∧ e.waiting = none)
    (room : s.CreditLaw → s.SlotLaw → u.pool.slotsInUse < Config.poolSlots) : s.Midway held t w (u.joinPool e) := by
  obtain ⟨cls, waiting⟩ := classed
  have joined := h.joinPool (e := e) (by simp [WorkEntry.Classed, cls, waiting]) room
  simpa [WorkEntry.slots, cls] using joined

theorem State.Midway.joinAll (h : s.Midway held t w u) {es : List WorkEntry}
    (classed : ∀ e ∈ es, e.cls = .nonTap ∧ e.waiting = none)
    (room : s.CreditLaw → s.SlotLaw → u.pool.slotsInUse + es.length ≤ Config.poolSlots) :
    s.Midway held t w (u.joinAll es) := by
  induction es generalizing u with
  | nil => exact h
  | cons e es ih =>
    rw [List.forall_mem_cons] at classed
    simp only [List.length_cons] at room
    obtain ⟨taps, nonTaps, -⟩ := u.pool.join_inUse e
    have one : e.slots .tap + e.slots .nonTap = 1 := by simp [WorkEntry.slots, classed.1.1]
    refine ih (h.joinNonTap classed.1 fun credits slots => by have := room credits slots; omega) classed.2 fun credits slots => ?_
    have := room credits slots
    simp only [State.joinPool, WorkPool.slotsInUse, taps, nonTaps] at this ⊢
    omega

theorem State.Midway.createTapWork (h : s.Midway held t w u) (idle : u.pu.item = none) {e : WorkEntry}
    (classed : e.cls = .tap ∧ e.waiting.isSome = true) (a : Option Answer) :
    s.Midway held (t - 1) w (u.createTapWork e a) := by
  obtain ⟨cls, waiting⟩ := classed
  unfold State.createTapWork
  split
  next room =>
    have joined := h.joinPool (e := e) (by simp [WorkEntry.Classed, cls, waiting]) fun _ _ => room
    refine State.Midway.handToWaiting ?_ _ _
    simpa [WorkEntry.slots, cls] using joined
  next =>
    refine State.Midway.bump ?_ _
    exact h.book rfl rfl fun _ _ books => books.hold idle fun f b same => by
      cases same
      exact ⟨waiting, cls⟩

end

section
variable {s u v : State} {held : Bool} {t : Int} {w : List WorkEntry}

/-! ## Blocks that none of the bounds reads -/

theorem State.Midway.withExpiry (h : s.Midway held t w u) (queue : List ExpiryEntry) :
    s.Midway held t w { u with expiry := queue } := h.same rfl rfl rfl

theorem State.Midway.withRoll (h : s.Midway held t w u) (roll : RollSweep) : s.Midway held t w { u with roll := roll } :=
  h.same rfl rfl rfl

theorem State.Midway.withTables (h : s.Midway held t w u) (ts : TableStore) : s.Midway held t w { u with tables := ts } :=
  h.same rfl rfl rfl

theorem State.Midway.withClock (h : s.Midway held t w u) (clock : LineClock) : s.Midway held t w { u with clock := clock } :=
  h.same rfl rfl rfl

theorem State.Midway.withTable (h : s.Midway held t w u) (jt : JourneyTable) : s.Midway held t w { u with jt := jt } :=
  h.same rfl rfl rfl

theorem State.Midway.withReferrals (h : s.Midway held t w u) (rt : ReferralTable) : s.Midway held t w { u with rt := rt } :=
  h.same rfl rfl rfl

/-! ## Records written (R70, R72, R169) -/

theorem State.Midway.writeRecord (h : s.Midway held t w u) (r : Record) : s.Midway held t w (u.writeRecord r) :=
  h.same rfl rfl rfl

theorem State.Midway.writeRecordWithWork (h : s.Midway held t w u) (r : Record) :
    s.Midway held t w (u.writeRecordWithWork r) := by
  refine State.Midway.writeRecord ?_ _
  unfold State.countSaturation
  split
  · exact h.bump _
  · exact h

theorem State.Midway.reportIfReady (h : s.Midway held t w u) (r : Record) : s.Midway held t w (u.reportIfReady r) := by
  unfold State.reportIfReady
  split
  · exact h.same rfl rfl rfl
  · exact h

/-- A closure's entries are of expiries' class, with no waiting tap (R102, R169). -/
theorem Record.closureWork_classed (r : Record) : ∀ e ∈ r.closureWork, e.cls = .nonTap ∧ e.waiting = none := by
  intro e he
  simp only [Record.closureWork, List.mem_append, List.mem_map] at he
  rcases he with ⟨o, -, rfl⟩ | ⟨o, -, rfl⟩ <;> exact ⟨rfl, rfl⟩

theorem State.Midway.cancelAll (h : s.Midway held t w u) (r : Record) : s.Midway held t w (u.cancelAll r) := by
  rw [State.cancelAll_eq]
  exact h.withExpiry _

theorem State.Midway.closeRecord (h : s.Midway held t w u) {r : Record}
    (room : s.CreditLaw → s.SlotLaw → u.pool.slotsInUse + r.closureWork.length ≤ Config.poolSlots) :
    s.Midway held t w (u.closeRecord r) := by
  have joined := fun n => (((h.count .pendingSaturations n).writeRecord r.closed).cancelAll r).joinAll r.closureWork_classed
    (by simpa using room)
  exact (((joined _).withRoll _).bump .closures).reportIfReady r.closed

/-! ## A tap's step (R78 to R92) -/

theorem State.Midway.noticeTap (h : s.Midway held t w u) (idle : u.pu.item = none) (x : Tap) (r : NoticeReason) (a : Answer) :
    s.Midway held (t - 1) w (u.noticeTap x r a) := by
  have answered : s.Midway held t w ((u.bump (.tapNotices r)).answerTap x (x.ifLive a)) := (h.bump _).answerTap _ _
  unfold State.noticeTap
  dsimp only
  split
  next place => exact (answered.pushBulk place _).endTap _ _
  next => exact answered.book rfl rfl fun _ _ books => books.hold (by simpa [State.uses] using idle) fun _ _ same => by cases same

theorem State.Midway.dropDuplicate (h : s.Midway held t w u) (x : Tap) : s.Midway held (t - 1) w (u.dropDuplicate x) :=
  ((h.bump _).answerTap _ _).endTap _ _

theorem State.Midway.pairTapIn (h : s.Midway held t w u) (idle : u.pu.item = none) (r : Record) (x : Tap) :
    s.Midway held (t - 1) w (u.pairTapIn r x) := by
  unfold State.pairTapIn
  split
  next => exact ((h.writeRecordWithWork _).withExpiry _).createTapWork (by simpa using idle) ⟨rfl, rfl⟩ _
  next =>
    split
    next =>
      split
      · exact ((h.writeRecordWithWork _).withExpiry _).createTapWork (by simpa using idle) ⟨rfl, rfl⟩ _
      · exact (h.writeRecordWithWork r).createTapWork (by simpa using idle) ⟨rfl, rfl⟩ _
    next => exact (((h.writeRecord _).withExpiry _).answerTap _ _).endTap _ _

theorem State.Midway.holdOrDisplace (h : s.Midway held t w u) (idle : u.pu.item = none) (r : Record) (x : Tap) :
    s.Midway held (t - 1) w (u.holdOrDisplace r x) := by
  have kept : s.Midway held (t - 1) w (u.holdTap r x) := (((h.writeRecord _).withExpiry _).answerTap _ _).endTap _ _
  unfold State.holdOrDisplace
  split
  next =>
    split
    · exact kept
    · exact (((h.writeRecordWithWork _).withExpiry _).bump _).createTapWork (by simpa using idle) ⟨rfl, rfl⟩ _
  next => exact kept

theorem State.Midway.pairTapOut (h : s.Midway held t w u) (idle : u.pu.item = none) (r : Record) (x : Tap) :
    s.Midway held (t - 1) w (u.pairTapOut r x) := by
  unfold State.pairTapOut
  split
  next =>
    split
    · exact ((h.writeRecordWithWork _).withExpiry _).createTapWork (by simpa using idle) ⟨rfl, rfl⟩ _
    · exact h.holdOrDisplace idle r x
  next => exact h.holdOrDisplace idle r x

theorem State.Midway.tapInRecord (h : s.Midway held t w u) (idle : u.pu.item = none) (x : Tap) (r : Record) :
    s.Midway held (t - 1) w (u.tapInRecord x r) := by
  unfold State.tapInRecord
  dsimp only
  split
  · exact h.dropDuplicate x
  · split
    · exact (h.writeRecord _).noticeTap idle _ _ _
    · split
      · exact h.pairTapIn idle _ x
      · exact h.pairTapOut idle _ x

theorem State.Midway.findAndPair (h : s.Midway held t w u) (idle : u.pu.item = none) (x : Tap) :
    s.Midway held (t - 1) w (u.findAndPair x) := by
  unfold State.findAndPair
  split
  next r _ => exact h.tapInRecord idle x r
  next jt r _ => exact (h.withTable jt).tapInRecord idle x r
  next => exact (h.bump _).noticeTap idle _ _ _
  next => exact (h.bump _).noticeTap idle _ _ _

/-- The tap in hand steps; the closure that it makes first finds its slots free (R80, R105). -/
theorem State.Midway.stepTap (h : s.Midway held t w u) (idle : u.pu.item = none) {x : Tap}
    (room : ∀ r, u.intakeCheck x = none → u.touched x = some r → s.CreditLaw → s.SlotLaw →
      u.pool.slotsInUse + r.closureWork.length ≤ Config.poolSlots) : s.Midway held (t - 1) w (u.stepTap x) := by
  unfold State.stepTap
  split
  next => exact h.noticeTap idle _ _ _
  next passes =>
    split
    next r touched => exact (h.closeRecord (room r passes touched)).findAndPair (by simpa using idle) x
    next => exact h.findAndPair idle x

/-! ## The step of an expiry entry (R96 to R98) -/

theorem State.Midway.expire (h : s.Midway held t w u)
    (room : s.CreditLaw → s.SlotLaw → u.pool.slotsInUse < Config.poolSlots) (e : ExpiryEntry) :
    s.Midway held t w (u.expire e) := by
  have room (r : Record) : s.CreditLaw → s.SlotLaw → (u.writeRecordWithWork r).pool.slotsInUse < Config.poolSlots := by
    simpa using room
  unfold State.expire
  split
  next => exact h
  next r _ =>
    split
    next =>
      split
      · exact ((h.writeRecordWithWork _).joinNonTap ⟨rfl, rfl⟩ (room _)).bump _
      · exact h
    next =>
      split
      · exact ((h.writeRecordWithWork _).joinNonTap ⟨rfl, rfl⟩ (room _)).bump _
      · exact h

/-! ## A pricing (R109 to R111, R131, R156) -/

theorem State.Midway.bumpConditions (h : s.Midway held t w u) (c : CondSet) : s.Midway held t w (u.bumpConditions c) :=
  ⟨fun k => by simpa using h.queues k, fun k => (h.counters k).bumpConditions c, fun k l => by
    rw [State.uses_eq (v := u.bumpConditions c) (u := u) (by simp) (by simp) (by simp) (by simp)]
    exact h.slots k l⟩

theorem State.Midway.countConditions (h : s.Midway held t w u) (e : WorkEntry) (cs : CondSet) :
    s.Midway held t w (u.countConditions e cs) := by
  unfold State.countConditions
  split <;> exact h.bumpConditions _

theorem State.Midway.chargeRecord (h : s.Midway held t w u) (e : WorkEntry) (c : Copies) (k : Reckoning) (r : Record) (b : Bool) :
    s.Midway held t w (u.chargeRecord e c k r b).2 := by
  have written := ((h.writeRecord (r.charge k.undiverted e.settles)).reportIfReady
    (r.charge k.undiverted e.settles)).countConditions e k.undiverted.conds
  cases b
  · exact written
  · exact written.bump _

theorem State.Midway.divert (h : s.Midway held t w u) (e : WorkEntry) (c : Copies) (k : Reckoning) (r : Record)
    (reason : DivertReason) (slot : Fin 256) (rest : List (Fin 256)) :
    s.Midway held t w (u.divert e c k r reason slot rest).2 :=
  ((((h.withReferrals _).writeRecord r).reportIfReady r).bump _).bumpConditions k.conds

theorem State.Midway.outcomeUpdate (h : s.Midway held t w u) (e : WorkEntry) (c : Copies) (k : Reckoning) :
    s.Midway held t w (u.outcomeUpdate e c k).2 := by
  unfold State.outcomeUpdate
  split
  next => exact (h.countConditions e _).bump _
  next =>
    dsimp only
    split
    · exact h.chargeRecord e c _ _ false
    · split
      · exact h.divert e c _ _ _ _ _
      · exact h.chargeRecord e c _ _ true

/-- An outcome update decides a pricing of its own entry, and leaves the Fare Unit to the steps behind it (R131). -/
theorem State.outcomeUpdate_entry (e : WorkEntry) (c : Copies) (k : Reckoning) (s : State) :
    (s.outcomeUpdate e c k).1.entry = e ∧ (s.outcomeUpdate e c k).2.fu = s.fu := by
  unfold State.outcomeUpdate
  split
  next =>
    rw [State.chargeGone, State.countConditions_eq]
    exact ⟨rfl, rfl⟩
  next =>
    have charged (x : Reckoning) (r : Record) (b : Bool) :
        (s.chargeRecord e c x r b).1.entry = e ∧ (s.chargeRecord e c x r b).2.fu = s.fu := by
      rw [State.chargeRecord, State.countConditions_eq]
      cases b <;> exact ⟨rfl, by simp [State.withCounters]⟩
    dsimp only
    split
    · exact charged _ _ _
    · split
      · exact ⟨rfl, by simp [State.divert]⟩
      · exact charged _ _ _

theorem State.Midway.answerGate (h : s.Midway held t w u) (p : Pricing) : s.Midway held t w (u.answerGate p) := by
  unfold State.answerGate
  split
  · split
    · exact h.handAnswer _ _ _ _
    · exact h
  · exact h

/-- How many taps wait for an entry's ending. -/
def WorkEntry.taps (e : WorkEntry) : Int := if e.waiting.isSome then 1 else 0

theorem WorkEntry.Classed.taps {e : WorkEntry} (h : e.Classed) : e.taps = e.slots .tap := by
  unfold WorkEntry.taps WorkEntry.slots
  by_cases waits : e.waiting.isSome = true
  · simp [waits, h.1 waits]
  · rw [if_neg waits, if_neg fun tap => waits (h.2 tap)]
    rfl

/-- Steps 4 and 5 of R110: the waiting tap ends before its entry leaves its slot. -/
theorem State.Midway.finishPricing (h : s.Midway held t w u) {p : Pricing} (named : w ++ u.fu.entry.toList = [p.entry]) :
    s.Midway held t [] (u.finishPricing p) := by
  have ended : s.Midway held (t - p.entry.taps) w (u.endWaiting p.entry.waiting) := by
    unfold WorkEntry.taps
    cases waits : p.entry.waiting with
    | none => exact h.forget (by simp)
    | some x => exact h.endTap x.port x.attachment
  have freed : s.Midway held (t - p.entry.taps) w ((u.endWaiting p.entry.waiting).endTicket p.entry.ticket) := by
    unfold State.endTicket
    split
    · exact ended.withReferrals _
    · exact ended
  have fu : ((u.endWaiting p.entry.waiting).endTicket p.entry.ticket).fu = u.fu := by simp
  refine freed.book (by simp [State.finishPricing]) (by simp [State.finishPricing]) fun _ _ books => ?_
  have flown := books.fly (f := none) (w' := [p.entry]) (.of_eq (by simpa [State.uses, fu] using named))
  have counted : t - p.entry.taps + p.entry.slots .tap = t := by
    rw [WorkEntry.Classed.taps (flown.counts.classed p.entry (by simp))]
    omega
  have left := flown.free
  rw [counted] at left
  unfold State.finishPricing State.freeSlot
  cases cls : p.entry.cls <;> rw [cls] at left <;> exact left

/-- Step 3 with a bulk place, and the steps behind it; or the entry stays with a STALLED Fare Unit (R110, R111). -/
theorem State.Midway.placeAndFinish {p : Pricing} (h : s.Midway held t [p.entry] u) (idle : u.fu = .idle) :
    s.Midway held t [] (u.placeAndFinish p) := by
  unfold State.placeAndFinish
  split
  next place =>
    refine State.Midway.finishPricing (w := [p.entry]) ((h.pushBulk place _).bump _) ?_
    simp [idle, FareUnit.entry]
  next =>
    have stalled : s.Midway held t [] { u with fu := .stalled p } := h.book rfl rfl fun _ _ books =>
      books.fly (f := some p.entry) (.of_eq (by simp [State.uses, idle, FareUnit.entry]))
    exact stalled.bump .stalls

theorem State.Midway.priceEntry {e : WorkEntry} (h : s.Midway held t [e] u) (idle : u.fu = .idle) :
    s.Midway held t [] (u.priceEntry e) := by
  obtain ⟨entry, fu⟩ := u.outcomeUpdate_entry e (u.copiesFor e) (u.reckoningFor e (u.copiesFor e))
  refine State.Midway.placeAndFinish ?_ (by rw [State.answerGate_fu, fu, idle])
  rw [entry]
  exact (h.outcomeUpdate e _ _).answerGate _

end

end Sys2Proof.Machine
end

section
/-! PROOFS. The same along line time, the roll, the gate ports, ENGINE_RESET and the frames taken from the line (R24 to R48, R164 to
R184). -/

namespace Sys2Proof.Machine

open Sys2Proof

section
variable {s u v : State} {held : Bool} {t : Int} {w : List WorkEntry}

/-! ## Line time and the roll (R45 to R48, R164 to R174) -/

theorem State.Midway.checkOverrun (h : s.Midway held t w u) : s.Midway held t w u.checkOverrun := by
  unfold State.checkOverrun
  split
  · have flagged := h.withClock { u.clock with overrun := true }
    unfold State.makeOverrun
    split
    next place => exact flagged.pushUrgent place _
    next => exact flagged.withClock _
  · exact h

theorem State.Midway.compareDeadlines (h : s.Midway held t w u) : s.Midway held t w u.compareDeadlines := by
  refine h.same rfl rfl (State.uses_of_ports (fun p => ?_) rfl rfl rfl)
  rw [State.port, State.compareDeadlines, Fin.getElem_fin, Vector.getElem_map]
  exact ⟨rfl, rfl⟩

theorem State.Midway.setLineTime (h : s.Midway held t w u) (n : Nat) : s.Midway held t w (u.setLineTime n) :=
  ((h.withClock _).checkOverrun).compareDeadlines

theorem State.Midway.startDay (h : s.Midway held t w u) (d : Day) (n : Nat) : s.Midway held t w (u.startDay d n) :=
  (h.withClock _).setLineTime n

theorem State.Midway.immediateRoll (h : s.Midway held t w u) (d : Day) (n : Nat) : s.Midway held t w (u.immediateRoll d n) :=
  (((h.withTables _).startDay d n).withRoll _).bump _

theorem State.Midway.acceptRoll (h : s.Midway held t w u) (d : Day) (n : Nat) : s.Midway held t w (u.acceptRoll d n) :=
  (h.withRoll _).startDay d n

theorem State.Midway.makeRollDone (h : s.Midway held t w u) (b : Bool) : s.Midway held t w (u.makeRollDone b) := by
  unfold State.makeRollDone
  dsimp only
  split
  next placed => exact h.pushUrgent ((Bool.and_eq_true _ _).mp placed).2 _
  next => exact h.withRoll _

theorem State.Midway.checkRoll (h : s.Midway held t w u) : s.Midway held t w u.checkRoll := by
  unfold State.checkRoll
  split
  · unfold State.endRoll
    dsimp only
    split
    · exact (((h.withTables _).withRoll _).makeRollDone _).bump _
    · exact ((h.withRoll _).makeRollDone _).bump _
  · exact h

theorem State.Midway.leaveVisit (h : s.Midway held t w u) (rest : List Card) : s.Midway held t w (u.leaveVisit rest) :=
  (h.withRoll _).checkRoll

/-- A closure in the sweep finds its slots free (R105, R168). -/
theorem State.Midway.sweepCard (h : s.Midway held t w u)
    (room : ∀ r, u.canClose r = true → s.CreditLaw → s.SlotLaw →
      u.pool.slotsInUse + r.closureWork.length ≤ Config.poolSlots) (c : Card) (rest : List Card) :
    s.Midway held t w (u.sweepCard c rest) := by
  unfold State.sweepCard
  split
  next r _ =>
    split
    · split
      next free => exact (h.closeRecord (room r free)).leaveVisit rest
      next => exact h.withRoll _
    · exact h.leaveVisit rest
  next => exact h.leaveVisit rest

/-! ## The gate ports (R24 to R41) -/

theorem State.Midway.failAttach (h : s.Midway held t w u) (p : PortId) (c : AttachCause) :
    s.Midway held t w (u.failAttach p c) :=
  (h.modPort (f := Port.leaveAttaching .faulted) rfl rfl).raise p _ _

theorem Port.takeTap_taps (p : PortId) (f : TapFrame) (step : Nat) (q : Port) :
    (q.takeTap p f step).intake.length = q.intake.length + 1 ∧ (q.takeTap p f step).outstanding = q.outstanding + 1 := by
  unfold Port.takeTap
  dsimp only
  split <;> exact ⟨List.length_append, rfl⟩

theorem State.Midway.countTap (h : s.Midway held t w u) (p : PortId) (f : TapFrame) (step : Nat) :
    s.Midway held t w (u.countTap p f step) := by
  have gap := (h.count (.port p .lostTaps) (step - 1)).raise p .tapGap (.lost (step - 1))
  unfold State.countTap
  dsimp only
  split <;> split
  · exact gap.bump _
  · exact h.bump _
  · exact gap
  · exact h

/-- A tap joins an intake list and uses a credit (R33). -/
theorem State.Midway.takeTap (h : s.Midway held t w u) (p : PortId) (f : TapFrame) (step : Nat) :
    s.Midway held t w (u.takeTap p f step) := by
  obtain ⟨intake, outstanding⟩ := Port.takeTap_taps p f step ((u.countTap p f step).port p)
  rw [State.takeTap_eq]
  refine (h.countTap p f step).onePort (p := p) (n := (u.countTap p f step).pool.releasedTaps)
    ((State.otherPortsKept_refl p _).modPort _) rfl rfl rfl rfl rfl fun _ => ?_
  rw [State.modPort_port, intake, outstanding]
  push_cast
  omega

theorem State.Midway.measureTap (h : s.Midway held t w u) (p : PortId) (f : TapFrame) :
    s.Midway held t w (u.measureTap p f) := by
  unfold State.measureTap
  dsimp only
  split
  · exact h.bump _
  · exact h.takeTap p f _

theorem State.Midway.applyBeacon (h : s.Midway held t w u) (p : PortId) (n : Nat) (d : Day) :
    s.Midway held t w (u.applyBeacon p n d) := by
  unfold State.applyBeacon
  split
  · exact h.bump _
  · split
    · exact h.bump _
    · dsimp only
      split
      · exact State.Midway.raise (h.modPort rfl rfl) _ _ _
      · exact h.modPort rfl rfl

theorem State.Midway.advanceRun (h : s.Midway held t w u) (p : PortId) : s.Midway held t w (u.advanceRun p) := by
  have run : s.Midway held t w (u.modPort p fun q => { q with badRun := min 16 (q.badRun + 1) }) := h.modPort rfl rfl
  unfold State.advanceRun
  dsimp only
  split
  · refine State.Midway.raise ?_ p _ _
    split
    · exact run.modPort rfl rfl
    · exact run.release p _
  · exact run

theorem State.Midway.beginAttach (h : s.Midway held t w u) (p : PortId) (limit : Nat) :
    s.Midway held t w (u.beginAttach p limit) := by
  have begun : s.Midway held t w (u.modPort p fun q => { q.place (.attachReq p limit 10 (u.tables.stationList p)) with
      st := .attaching, creditLimit := limit, badRun := 0, attachDeadline := some (u.dueAfter 5), attachFallenDue := false }) :=
    h.modPort rfl rfl
  unfold State.beginAttach
  dsimp only
  split
  · exact begun.failAttach p _
  · exact begun

theorem State.Midway.setOptions (h : s.Midway held t w u) (p : PortId) (auto : Bool) (mask : AttnSet) (c : AttnClass) :
    s.Midway held t w (u.setOptions p auto mask c) := by
  have options : s.Midway held t w (u.modPort p fun q => { q with autoDetach := auto, mask := mask, cls := c }) :=
    h.modPort rfl rfl
  unfold State.setOptions
  dsimp only
  split
  · exact options.release p _
  · exact options

theorem State.Midway.unlatch (h : s.Midway held t w u) (p : PortId) (k : AttnSet) : s.Midway held t w (u.unlatch p k) :=
  (h.modPort (p := p) (f := fun q => { q with attention := q.attention &&& ~~~k }) rfl rfl).link
    (fun fits => fits.same rfl rfl rfl rfl) rfl rfl

/-- A port attached has no tap of its attachment yet; ATTACHING it had none outstanding (R28, R33). -/
theorem State.Midway.attach (h : s.Midway held t w u) {p : PortId} (none : s.CreditLaw → (u.port p).outstanding = 0)
    (first : TapNo) : s.Midway held t w (u.modPort p (Port.attach first)) :=
  h.onePort (n := u.pool.releasedTaps) ((State.otherPortsKept_refl p u).modPort _) rfl rfl rfl rfl rfl fun credits => by
    have outstanding : ((u.port p).attach first).outstanding = 0 := rfl
    have intake : ((u.port p).attach first).intake = (u.port p).intake := rfl
    rw [State.modPort_port, none credits, outstanding, intake]

/-! ## ENGINE_RESET (R43, R113, R184) -/

/-- The reset leaves no tap, no credit outstanding, no item and no work. -/
theorem State.resetBlocks_uses (s : State) : s.resetBlocks.uses = ⟨0, 0, none, WorkPool.reset, none⟩ := by
  have intakes : s.resetBlocks.intakes = 0 := Finset.sum_eq_zero fun p _ => by rw [State.resetBlocks_port]; rfl
  have outstandings : s.resetBlocks.outstandings = 0 := Finset.sum_eq_zero fun p _ => by rw [State.resetBlocks_port]; rfl
  rw [State.uses, intakes, outstandings]
  rfl

theorem Uses.books_reset : Uses.Books 0 [] ⟨0, 0, none, WorkPool.reset, none⟩ :=
  ⟨by decide, ⟨rfl, rfl, by simp [Uses.work, WorkPool.entries, WorkPool.reset]⟩, by simp, by decide⟩

theorem State.Midway.resetBlocks (h : s.Midway held t w u) : s.Midway held 0 [] u.resetBlocks where
  queues k := (h.queues k).same rfl rfl rfl rfl
  counters _ i := by
    rw [show u.resetBlocks.counters[i] = 0 from Counters.zero_get i]
    exact Nat.zero_le _
  slots _ _ := by
    rw [State.resetBlocks_uses]
    exact Uses.books_reset

theorem State.Midway.afterReset (h : s.Midway held t w u) (p : PortId) : s.Midway held t w (u.afterReset p) := by
  unfold State.afterReset
  dsimp only
  split
  · exact h.setPort rfl rfl
  · exact h.completeDetachIfDone p

theorem State.Midway.resetPorts (h : s.Midway held t w u) : s.Midway held t w u.resetPorts := by
  unfold State.resetPorts
  induction List.finRange 8 generalizing u with
  | nil => exact h
  | cons p ps ih => exact ih (h.afterReset p)

/-! ## Frames taken from the line (R179) -/

theorem State.Midway.taking (h : s.Midway false t w u) {f : DownFrame} {rest : List DownFrame}
    (head : u.lli.receive = f :: rest) (place : u.lli.urgentHasPlace = true) : s.Midway true t w (u.taking rest) :=
  h.link (fun fits => fits.take head place) rfl rfl

theorem State.Midway.load (h : s.Midway true t w u) (f : DownFrame) : s.Midway false t w (loadTaken f u) := by
  unfold loadTaken
  dsimp only
  split
  · exact (h.withTables _).reply f _
  · exact h.reply f _

theorem State.Midway.referralAnswer (h : s.Midway true t w u) (f : DownFrame) :
    s.Midway false t w (referralAnswerTaken f u) := by
  unfold referralAnswerTaken
  split
  · exact (h.bump _).reply f _
  next a _ =>
    have decided : s.Midway true t w (u.decideAnswer (ticketOfBody f.body) a).2 := by
      unfold State.decideAnswer
      dsimp only
      split
      · exact h.bump _
      · split
        · exact h.bump _
        · split
          · exact h.bump _
          · exact (h.withReferrals _).bump _
    exact decided.reply f _

theorem State.Midway.answerView (h : s.Midway true t w u) (f : DownFrame) (x : ViewSel) :
    s.Midway false t w (u.answerView f x) := by
  unfold State.answerView
  split
  · exact h.replyFull f _ _ _
  · exact h.reply f _

/-- A part of the line link that takes no place. -/
theorem State.Midway.withLink (h : s.Midway held t w u) {l : LineLink} (reply : l.replyHeld = u.lli.replyHeld)
    (receive : l.receive = u.lli.receive) (urgent : l.urgentUsed = u.lli.urgentUsed) (bulk : l.bulk = u.lli.bulk) :
    s.Midway held t w { u with lli := l } :=
  h.link (fun fits => fits.same reply receive urgent bulk) rfl rfl

theorem State.Midway.view (h : s.Midway true t w u) (f : DownFrame) : s.Midway false t w (viewTaken f u) := by
  unfold viewTaken
  split
  next x _ => exact (h.withLink (l := { u.lli with selected := x }) rfl rfl rfl rfl).answerView f x
  next => exact h.answerView f _
  next => exact h.reply f _

theorem State.Midway.portAttach (h : s.Midway true t w u) (f : DownFrame) : s.Midway false t w (portAttachTaken f u) := by
  unfold portAttachTaken
  dsimp only
  split
  next => exact h.reply f _
  next p _ =>
    split
    next => exact h.reply f _
    next =>
      split
      · exact h.reply f _
      · exact h.reply f _
      · exact h.reply f _
      · exact h.reply f _
      · exact (h.beginAttach p _).reply f _
      · exact (h.beginAttach p _).reply f _

theorem State.Midway.portDetach (h : s.Midway true t w u) (f : DownFrame) : s.Midway false t w (portDetachTaken f u) := by
  unfold portDetachTaken
  split
  next => exact h.reply f _
  next p _ =>
    dsimp only
    split
    next => exact ((h.setPort (q := (u.port p).beginDetach) rfl rfl).completeDetachIfDone p).reply f _
    next => exact h.reply f _

theorem State.Midway.setPortOptions (h : s.Midway true t w u) (f : DownFrame) :
    s.Midway false t w (setPortOptionsTaken f u) := by
  unfold setPortOptionsTaken
  split
  · exact (h.setOptions _ _ _ _).reply f _
  · exact h.reply f _

theorem State.Midway.clearAttention (h : s.Midway true t w u) (f : DownFrame) :
    s.Midway false t w (clearAttentionTaken f u) := by
  unfold clearAttentionTaken
  split
  · exact (h.unlatch _ _).reply f _
  · exact h.reply f _

theorem State.Midway.setTime (h : s.Midway true t w u) (f : DownFrame) : s.Midway false t w (setTimeTaken f u) := by
  unfold setTimeTaken
  dsimp only
  split
  · exact h.reply f _
  · exact (h.setLineTime _).reply f _

theorem State.Midway.rollDay (h : s.Midway true t w u) (f : DownFrame) : s.Midway false t w (rollDayTaken f u) := by
  unfold rollDayTaken
  dsimp only
  split
  next st _ => exact h.reply f st
  next => exact ((h.immediateRoll _ _).reply f .done).makeRollDone true
  next => exact (h.acceptRoll _ _).reply f .done

theorem State.Midway.arm (h : s.Midway true t w u) (f : DownFrame) : s.Midway false t w (armTaken f u) := by
  unfold armTaken
  dsimp only
  split
  · exact (h.withTables _).reply f _
  · exact h.replyFull f _ _ _

theorem State.Midway.disarm (h : s.Midway true t w u) (f : DownFrame) : s.Midway false t w (disarmTaken f u) := by
  unfold disarmTaken
  split
  · exact h.reply f _
  · exact (h.withTables _).reply f _

/-- A COPY_ACTIVE that starts keeps the place of its REPLY as the copy reply reserve (R180). -/
theorem State.Midway.copyActive (h : s.Midway true t w u) (f : DownFrame) : s.Midway false t w (copyActiveTaken f u) := by
  unfold copyActiveTaken
  split
  · exact h.reply f _
  · split
    · exact h.reply f _
    · exact h.link (fun fits => fits.reserve f.request) rfl rfl

theorem State.Midway.setDisposition (h : s.Midway true t w u) (f : DownFrame) :
    s.Midway false t w (setDispositionTaken f u) := by
  unfold setDispositionTaken
  split
  next m _ => exact (h.withLink (l := { u.lli with disposition := m }) rfl rfl rfl rfl).reply f _
  next => exact h.reply f _

theorem State.Midway.capture (h : s.Midway held t w u) (clear : Bool) : s.Midway held t w (u.capture clear) where
  queues k := (h.queues k).same rfl rfl rfl rfl
  counters k i := by
    cases clear
    · exact h.counters k i
    · rw [show (u.capture true).counters[i] = 0 from Counters.zero_get i]
      exact Nat.zero_le _
  slots := h.slots

theorem State.Midway.captureCounters (h : s.Midway true t w u) (f : DownFrame) : s.Midway false t w (captureTaken f u) := by
  unfold captureTaken
  split
  · exact (h.capture _).reply f _
  · exact h.reply f _

theorem State.Midway.engineReset (h : s.Midway true t w u) (f : DownFrame) : s.Midway false 0 [] (engineResetTaken f u) :=
  (((h.copyReply .badState).resetBlocks).resetPorts).reply f .done

end

end Sys2Proof.Machine
end

section
/-! PROOFS. Every step keeps the places of the line link, the counters and the slots within their bounds (R103, R177, R179, R189). -/

namespace Sys2Proof.Machine

open Sys2Proof

section
variable {s u : State}

/-! ## Outcomes within the bounds -/

/-- An outcome is a next state, and a step to it keeps the bounds, with nothing left in hand. -/
def State.EndsWithin (s : State) (o : Host.Outcome State Fault Refusal) : Prop :=
  ∃ u, o = .next u ∧ s.Midway false 0 [] u

theorem State.Midway.ends (h : s.Midway false 0 [] u) : s.EndsWithin (.next u) := ⟨u, rfl, h⟩

theorem State.endsWithin_self (s : State) : s.EndsWithin (.next s) := (State.Midway.refl s).ends

/-- A command that acts under a condition, or not at all. -/
theorem State.endsWithin_ite {c : Prop} [Decidable c] (h : c → s.Midway false 0 [] u) :
    s.EndsWithin (if c then .next u else .next s) := by
  split
  next acts => exact (h acts).ends
  next => exact s.endsWithin_self

theorem State.endsWithin_takeKind {k : DownKind} {g : DownFrame → State → State}
    (h : ∀ f v, s.Midway true 0 [] v → s.Midway false 0 [] (g f v)) : s.EndsWithin (answering (s.takeKind k) g s) := by
  unfold answering
  split
  next taken =>
    obtain ⟨rest, head, place, -, rfl⟩ := State.takeKind_some taken
    exact (h _ _ ((State.Midway.refl s).taking head place)).ends
  next => exact s.endsWithin_self

theorem State.endsWithin_takeCommand {c : CommandCode} {g : DownFrame → State → State}
    (h : ∀ f v, s.Midway true 0 [] v → s.Midway false 0 [] (g f v)) : s.EndsWithin (answering (s.takeCommand c) g s) := by
  unfold answering
  split
  next taken =>
    obtain ⟨rest, head, place, -, rfl⟩ := State.takeCommand_some taken
    exact (h _ _ ((State.Midway.refl s).taking head place)).ends
  next => exact s.endsWithin_self

/-- A good gate frame (R30). -/
theorem State.endsWithin_onFrame {p : PortId} {c : FrameCase} {act : State → State}
    (h : c = .taken → s.Midway false 0 [] (act (s.clearRun p))) : s.EndsWithin (.next (s.onFrame p c act)) := by
  cases c with
  | absent => exact s.endsWithin_self
  | ignored => exact s.endsWithin_self
  | unexpected => exact State.Midway.ends (((State.Midway.refl s).modPort rfl rfl).bump _)
  | taken => exact (h rfl).ends

end

/-! ## The commands of the gate ports -/

section
variable (s : State) (p : PortId)

theorem State.midway_clearRun : s.Midway false 0 [] (s.clearRun p) := (State.Midway.refl s).modPort rfl rfl

theorem State.endsWithin_gateCarrierLoss : s.EndsWithin (execGateCarrierLoss p s) := by
  have lost : s.Midway false 0 [] ((s.modPort p fun q => { q with carrier := false, transmit := [] }).raise p .carrierChange
      (.carrier false)) := State.Midway.raise ((State.Midway.refl s).modPort rfl rfl) _ _ _
  unfold execGateCarrierLoss
  split
  next =>
    dsimp only
    split
    · exact lost.ends
    · exact State.Midway.ends (lost.modPort rfl rfl)
    · exact State.Midway.ends (lost.modPort rfl rfl)
    · exact State.Midway.ends (lost.modPort rfl rfl)
    · exact (lost.release p _).ends
    · split
      · exact (lost.release p _).ends
      · exact lost.ends
  next => exact s.endsWithin_self

theorem State.endsWithin_gateCarrierReturn : s.EndsWithin (execGateCarrierReturn p s) := by
  have back : s.Midway false 0 [] ((s.modPort p fun q => { q with carrier := true }).raise p .carrierChange (.carrier true)) :=
    State.Midway.raise ((State.Midway.refl s).modPort rfl rfl) _ _ _
  unfold execGateCarrierReturn
  split
  next => exact s.endsWithin_self
  next =>
    dsimp only
    split
    · exact State.Midway.ends (back.modPort rfl rfl)
    · exact State.Midway.ends (back.modPort rfl rfl)
    · exact back.ends

theorem State.endsWithin_hubState (alarm : Bool) (code : Byte) : s.EndsWithin (execHubState p alarm code s) := by
  refine State.endsWithin_onFrame fun _ => ?_
  split
  · exact (s.midway_clearRun p).raise _ _ _
  · exact s.midway_clearRun p

theorem State.endsWithin_attachAck (positive : Bool) (echo : Byte) (first : TapNo) :
    s.EndsWithin (execAttachAck p positive echo first s) := by
  refine State.endsWithin_onFrame fun taken => ?_
  have unattached : (s.port p).inReservation = false :=
    Port.inReservation_eq_false.2 (by simp [(Port.ackCase_eq_taken.1 taken).2])
  have none : s.CreditLaw → ((s.clearRun p).port p).outstanding = 0 := fun credits => by
    rw [State.clearRun_port]
    exact (credits p).outstanding_eq_zero unattached
  split
  · split
    · exact ((s.midway_clearRun p).attach none first).raise _ _ _
    · exact (s.midway_clearRun p).failAttach p _
  · exact (s.midway_clearRun p).failAttach p _

theorem State.endsWithin_badFrame : s.EndsWithin (execBadFrame p s) := by
  have counted := (State.Midway.refl s).bump (.port p .badFrames)
  unfold execBadFrame
  split
  · dsimp only
    split
    · exact (counted.advanceRun p).ends
    · exact (counted.advanceRun p).ends
    · exact (counted.advanceRun p).ends
    · exact counted.ends
  · exact s.endsWithin_self

theorem State.endsWithin_attachTimeout : s.EndsWithin (execAttachTimeout p s) := by
  unfold execAttachTimeout
  dsimp only
  split
  · exact State.endsWithin_ite fun _ => (State.Midway.refl s).failAttach p _
  · exact s.endsWithin_self

theorem State.endsWithin_beaconTimeout : s.EndsWithin (execBeaconTimeout p s) := by
  unfold execBeaconTimeout
  dsimp only
  split
  · exact State.endsWithin_ite fun _ => (State.Midway.refl s).setPort rfl rfl
  · exact s.endsWithin_self

end

/-! ## The commands of the line link -/

section
variable (s : State)

theorem State.endsWithin_lineFrameReceived (bytes : List Byte) : s.EndsWithin (execLineFrameReceived bytes s) := by
  have counted := fun c => ((State.Midway.refl s).bump c).ends
  unfold execLineFrameReceived
  split
  · split
    next => exact counted _
    next => exact counted _
    next => exact counted _
    next source f _ =>
      unfold State.receiveGood
      split
      next => exact counted _
      next room =>
        exact State.Midway.ends
          ((State.Midway.refl s).link (fun fits => fits.listed (Nat.lt_of_not_le room) f source) rfl rfl)
  · exact s.endsWithin_self

theorem State.endsWithin_lineCarrierLoss : s.EndsWithin (execLineCarrierLoss s) :=
  State.endsWithin_ite fun _ =>
    ((State.Midway.refl s).withLink (l := { s.lli with carrier := false, transmitting := none }) rfl rfl rfl rfl).bump _

theorem State.endsWithin_lineCarrierReturn : s.EndsWithin (execLineCarrierReturn s) := by
  unfold execLineCarrierReturn
  split
  · exact s.endsWithin_self
  · have back := (State.Midway.refl s).withLink (l := { s.lli with carrier := true }) rfl rfl rfl rfl
    exact State.Midway.ends (back.link (fun fits => fits.startSending) rfl rfl)

theorem State.endsWithin_upstreamFrameSent : s.EndsWithin (execUpstreamFrameSent s) := by
  unfold execUpstreamFrameSent
  split
  · exact State.Midway.ends ((State.Midway.refl s).link (fun fits => fits.frameSent _) rfl rfl)
  · exact s.endsWithin_self

theorem State.endsWithin_unknownCommand : s.EndsWithin (execUnknownCommand s) := by
  unfold execUnknownCommand
  split
  next taken =>
    obtain ⟨rest, head, place, -, rfl⟩ := State.takeKind_some taken
    exact State.endsWithin_ite fun _ => ((State.Midway.refl s).taking head place).reply _ _
  next => exact s.endsWithin_self

/-- The entry an examination of the owed list returns finds a place (R39). -/
theorem State.ready_of_examineOwed {l : List OwedNotice} {o : OwedNotice} (h : (s.examineOwed l).2 = some o) :
    s.owedReady o = true := by
  induction l with
  | nil => cases h
  | cons x l ih =>
    unfold State.examineOwed at h
    split at h
    next ready =>
      cases h
      exact ready
    next =>
      dsimp only at h
      split at h <;> exact ih h

theorem State.endsWithin_owedPortNotice : s.EndsWithin (execOwedPortNotice s) := by
  have examined := (State.Midway.refl s).withLink (l := s.lli.withOwed (s.examineOwed s.lli.owed).1) rfl rfl rfl rfl
  unfold execOwedPortNotice
  split
  · dsimp only
    split
    next o found =>
      have ready := s.ready_of_examineOwed found
      simp only [State.owedReady, Bool.and_eq_true] at ready
      exact (examined.pushFor ready.2 _).ends
    next => exact examined.ends
  · exact s.endsWithin_self

theorem State.endsWithin_owedDayOverrun : s.EndsWithin (execOwedDayOverrun s) :=
  State.endsWithin_ite fun owed =>
    ((State.Midway.refl s).withClock { s.clock with owedOverrun := false }).pushUrgent ((Bool.and_eq_true _ _).mp owed).2 _

theorem State.endsWithin_owedRollDone : s.EndsWithin (execOwedRollDone s) := by
  unfold execOwedRollDone
  split
  · exact State.endsWithin_ite fun place =>
      ((State.Midway.refl s).withRoll { s.roll with owedDone := none }).pushUrgent place _
  · exact s.endsWithin_self

/-! ## The steps the engine takes on its own account -/

theorem State.endsWithin_lineTimeAdvance : s.EndsWithin (execLineTimeAdvance s) :=
  State.endsWithin_ite fun _ => ((State.Midway.refl s).withClock _).checkOverrun.compareDeadlines

/-- A source is served with no item in progress (R76). -/
theorem State.item_of_nextSource {v : PuSource} (next : s.nextSource = some v) : s.pu.item = none := by
  by_contra busy
  rw [State.nextSource_busy busy] at next
  cases next

/-- The head tap of a port comes in hand (R77). -/
theorem State.midway_tapTaken {p : PortId} {x : Tap} {rest : List Tap} (head : (s.port p).intake = x :: rest) :
    s.Midway false 1 [] (s.tapTaken p rest) :=
  (State.Midway.refl s).onePort (p := p) (n := s.pool.releasedTaps) ((State.otherPortsKept_refl p s).setPort _) rfl rfl rfl rfl
    rfl fun _ => by
      have taken : (s.tapTaken p rest).port p = { s.port p with intake := rest } := s.setPort_port p _
      rw [taken, head, List.length_cons]
      push_cast
      omega

theorem State.endsWithin_tapStep : s.EndsWithin (execTapStep s) := by
  unfold execTapStep
  split
  next p source port =>
    cases head : (s.port p).intake with
    | nil =>
      have none : s.takeHead p = none := by simp [State.takeHead, head]
      rw [none]
      exact s.endsWithin_self
    | cons x rest =>
      rw [State.takeHead_eq head]
      refine ((s.midway_tapTaken head).stepTap (s.item_of_nextSource source) fun r passes touched credits slots => ?_).ends
      have closes := State.canClose_of_takeable (State.takeable_of_intakePort port) head passes touched
      exact slots.room credits (of_decide_eq_true closes)
  next => exact s.endsWithin_self

theorem State.endsWithin_tapNotice : s.EndsWithin (execTapNotice s) := by
  unfold execTapNotice
  split
  next n att item =>
    refine State.endsWithin_ite fun place => ?_
    have resumed : s.Midway false 1 [] { s with pu := { s.pu with item := none } } :=
      (State.Midway.refl s).book rfl rfl fun _ _ books => books.resume (by simp [State.uses, item])
    exact (resumed.pushBulk place _).endTap _ _
  next => exact s.endsWithin_self

theorem State.endsWithin_slotWaitResume : s.EndsWithin (execSlotWaitResume s) := by
  unfold execSlotWaitResume
  split
  next e a item =>
    refine State.endsWithin_ite fun room => ?_
    have joined : s.Midway false 0 [] { s with pu := { s.pu with item := none }, pool := s.pool.join e } :=
      (State.Midway.refl s).book rfl rfl fun _ _ books => by
        obtain ⟨waiting, cls⟩ := books.held e a item
        have joins := (books.resume (by simp [State.uses, item])).join (e := e) (by simp [WorkEntry.Classed, waiting, cls]) room
        have taken : (0 : Int) + 1 - e.slots .tap = 0 := by simp [WorkEntry.slots, cls]
        rw [taken] at joins
        exact joins
    exact joined.handToWaiting _ _
  next => exact s.endsWithin_self

theorem State.endsWithin_expiryStep : s.EndsWithin (execExpiryStep s) := by
  unfold execExpiryStep
  split
  next e source _ =>
    have left : s.Midway false 0 [] { s.tookFrom .expiry with expiry := s.expiry.eraseP ExpiryEntry.due } :=
      (State.Midway.refl s).same rfl rfl rfl
    refine (left.expire (fun credits slots => ?_) e).ends
    have takeable := State.takeable_of_nextSource source
    simp only [State.takeable, Bool.and_eq_true, decide_eq_true_eq] at takeable
    exact slots.room credits takeable.2
  next => exact s.endsWithin_self

theorem State.endsWithin_chainVisit : s.EndsWithin (execChainVisit s) :=
  State.endsWithin_ite fun _ => ((State.Midway.refl s).withRoll _).checkRoll

theorem State.endsWithin_sweepItem : s.EndsWithin (execSweepItem s) := by
  unfold execSweepItem
  split
  next =>
    have left : s.Midway false 0 [] (s.tookFrom .sweep) := (State.Midway.refl s).same rfl rfl rfl
    exact (left.sweepCard (fun r closes credits slots => slots.room credits (of_decide_eq_true closes)) _ _).ends
  next => exact s.endsWithin_self

theorem State.Midway.summarise {held : Bool} {t : Int} {w : List WorkEntry} {s u : State} (h : s.Midway held t w u)
    (place : u.lli.bulkHasPlace = true) (r : Record) : s.Midway held t w (u.summarise r) := by
  have removed : s.Midway held t w { u.pushBulk (.daySummary (u.summaryOf r)) with
      jt := u.jt.remove r.card r.day
      roll := { u.roll with closingCount := u.roll.closingCount - 1 } } := (h.pushBulk place _).same rfl rfl rfl
  exact (removed.bump .daySummaries).checkRoll

theorem State.endsWithin_daySummary : s.EndsWithin (execDaySummary s) := by
  unfold execDaySummary
  split
  next rest _ =>
    split
    next place =>
      have left := (State.Midway.refl s).withRoll { s.roll with summary := rest }
      dsimp only
      split
      next r _ =>
        split
        · exact (left.summarise place r).ends
        · exact left.ends
      next => exact left.ends
    next => exact s.endsWithin_self
  next => exact s.endsWithin_self

theorem State.endsWithin_grant : s.EndsWithin (execGrant s) := by
  unfold execGrant
  split
  next e aging pool idle granted =>
    have left : s.Midway false 0 [e] { s with pool := pool } :=
      (State.Midway.refl s).book rfl rfl fun _ _ books => books.grant granted
    dsimp only
    split
    · exact ((left.bump .agingGrants).priceEntry idle).ends
    · exact (left.priceEntry idle).ends
  next => exact s.endsWithin_self

theorem State.endsWithin_stallResume : s.EndsWithin (execStallResume s) := by
  unfold execStallResume
  split
  next p stalled =>
    refine State.endsWithin_ite fun place => ?_
    refine State.Midway.finishPricing (w := []) (((State.Midway.refl s).pushBulk place _).bump _) ?_
    simp [stalled, FareUnit.entry]
  next => exact s.endsWithin_self

/-- The work of a referral is no tap's, and finds a non-tap slot free (R105, R156). -/
theorem State.endsWithin_referralWork : s.EndsWithin (execReferralWork s) := by
  unfold execReferralWork
  split
  next slot rest _ =>
    refine State.endsWithin_ite fun free => ?_
    unfold State.createReferralWork
    dsimp only
    split
    next kind mark _ =>
      have raised : s.Midway false 0 [] (State.raiseRecord (s.rt.entry slot)
          { s with rt := { s.rt.setEntry slot { s.rt.entry slot with work := mark } with ready := rest } }) := by
        unfold State.raiseRecord
        split
        · exact ((State.Midway.refl s).withReferrals _).writeRecordWithWork _
        · exact (State.Midway.refl s).withReferrals _
      have joined := raised.joinNonTap (e := (s.rt.entry slot).workEntry slot kind mark) ⟨rfl, rfl⟩ fun credits slots => by
        simpa using slots.room credits free
      split
      · exact joined.bump _
      · exact joined
    next => exact (State.Midway.refl s).withReferrals _
  next => exact s.endsWithin_self

end

/-! ## Every command -/

theorem LineLink.reset_fits : LineLink.reset.Fits false := ⟨rfl, by decide, by decide, by decide⟩

theorem State.reset_books : State.reset.uses.Books 0 [] := State.slotLaw_iff.1 State.reset_slotLaw

/-- POWER_ON_RESET leaves every bound met (R185). -/
theorem State.midway_powerOnReset (s : State) : s.Midway false 0 [] { State.reset with pending := s.pending } where
  queues _ := LineLink.reset_fits
  counters _ i := by
    rw [show State.reset.counters[i] = 0 from Counters.zero_get i]
    exact Nat.zero_le _
  slots _ _ := State.reset_books

/-- Every command keeps the places, the counters and the slots within their bounds. -/
theorem exec_endsWithin (c : Instr) (s : State) : s.EndsWithin (exec c s) := by
  cases c
  case powerOnReset => exact s.midway_powerOnReset.ends
  case gateCarrierLoss p => exact s.endsWithin_gateCarrierLoss p
  case gateCarrierReturn p => exact s.endsWithin_gateCarrierReturn p
  case tap p f => exact State.endsWithin_onFrame fun _ => (s.midway_clearRun p).measureTap p f
  case beacon p n d => exact State.endsWithin_onFrame fun _ => (s.midway_clearRun p).applyBeacon p _ d
  case hubState p alarm code => exact s.endsWithin_hubState p alarm code
  case attachAck p b echo first => exact s.endsWithin_attachAck p b echo first
  case badFrame p => exact s.endsWithin_badFrame p
  case gateFrameSent p => exact State.endsWithin_ite fun _ => (State.Midway.refl s).modPort rfl rfl
  case attachTimeout p => exact s.endsWithin_attachTimeout p
  case beaconTimeout p => exact s.endsWithin_beaconTimeout p
  case lineTimeAdvance => exact s.endsWithin_lineTimeAdvance
  case expiryDue => exact State.Midway.ends ((State.Midway.refl s).withExpiry _)
  case referralDue slot => exact State.endsWithin_ite fun _ => (State.Midway.refl s).withReferrals _
  case lineFrameReceived bytes => exact s.endsWithin_lineFrameReceived bytes
  case lineCarrierLoss => exact s.endsWithin_lineCarrierLoss
  case lineCarrierReturn => exact s.endsWithin_lineCarrierReturn
  case upstreamFrameSent => exact s.endsWithin_upstreamFrameSent
  case load => exact State.endsWithin_takeKind fun f _ h => h.load f
  case referralAnswer => exact State.endsWithin_takeKind fun f _ h => h.referralAnswer f
  case view => exact State.endsWithin_takeKind fun f _ h => h.view f
  case portAttach => exact State.endsWithin_takeCommand fun f _ h => h.portAttach f
  case portDetach => exact State.endsWithin_takeCommand fun f _ h => h.portDetach f
  case setPortOptions => exact State.endsWithin_takeCommand fun f _ h => h.setPortOptions f
  case clearAttention => exact State.endsWithin_takeCommand fun f _ h => h.clearAttention f
  case setTime => exact State.endsWithin_takeCommand fun f _ h => h.setTime f
  case rollDay => exact State.endsWithin_takeCommand fun f _ h => h.rollDay f
  case arm => exact State.endsWithin_takeCommand fun f _ h => h.arm f
  case disarm => exact State.endsWithin_takeCommand fun f _ h => h.disarm f
  case copyActive => exact State.endsWithin_takeCommand fun f _ h => h.copyActive f
  case copyRow => exact State.Midway.ends ((State.Midway.refl s).withTables _)
  case copyComplete => exact State.endsWithin_ite fun _ => ((State.Midway.refl s).withTables _).copyReply _
  case setDisposition => exact State.endsWithin_takeCommand fun f _ h => h.setDisposition f
  case captureCounters => exact State.endsWithin_takeCommand fun f _ h => h.captureCounters f
  case engineReset => exact State.endsWithin_takeCommand fun f _ h => h.engineReset f
  case unknownCommand => exact s.endsWithin_unknownCommand
  case tapStep => exact s.endsWithin_tapStep
  case tapNotice => exact s.endsWithin_tapNotice
  case expiryStep => exact s.endsWithin_expiryStep
  case chainVisit => exact s.endsWithin_chainVisit
  case sweepItem => exact s.endsWithin_sweepItem
  case slotWaitResume => exact s.endsWithin_slotWaitResume
  case grant => exact s.endsWithin_grant
  case stallResume => exact s.endsWithin_stallResume
  case referralWork => exact s.endsWithin_referralWork
  case daySummary => exact s.endsWithin_daySummary
  case owedPortNotice => exact s.endsWithin_owedPortNotice
  case owedDayOverrun => exact s.endsWithin_owedDayOverrun
  case owedRollDone => exact s.endsWithin_owedRollDone

/-- A step keeps the bounds: it runs one command, or idles. -/
theorem step_endsWithin {s u : State} (h : step s = .next u) : s.Midway false 0 [] u := by
  unfold step at h
  split at h
  next => cases h; exact .refl s
  next c rest _ =>
    obtain ⟨v, completes, within⟩ := exec_endsWithin c { s with pending := rest }
    obtain rfl : v = u := by simpa [completes] using h
    refine ⟨within.queues, within.counters, fun credits slots => within.slots credits ?_⟩
    have books : s.uses.Books 0 [] := State.slotLaw_iff.1 slots
    exact State.slotLaw_iff.2 books

/-- Settles O6: a step leaves the line link within its places, with none held for a REPLY (`step_endsWithin`). -/
theorem queueBoundsKept : Obligations.QueueBoundsKept := fun _ _ bounds h =>
  State.queuesInBounds_iff.2 ((step_endsWithin h).queues bounds)

/-- Settles O7: a step saturates its counters, and leaves no tap and no work in hand (`step_endsWithin`). -/
theorem countersStayInRange : Obligations.CountersStayInRange :=
  ⟨fun _ _ range h => (step_endsWithin h).counters range,
    fun _ _ credits slots h => State.slotLaw_iff.2 ((step_endsWithin h).slots credits slots)⟩

end Sys2Proof.Machine
end

section
/-! PROOFS. Numbers in byte order, and a downstream frame on the wire (R178, R191). -/

namespace Sys2Proof.Machine

open Sys2Proof

/-! ## Numbers in byte order (12, opening paragraph) -/

theorem beNat_append (l m : List Byte) : beNat (l ++ m) = beNat l * 256 ^ m.length + beNat m := by
  induction m using List.reverseRecOn with
  | nil => simp [beNat]
  | append_singleton m b ih =>
    have last : ∀ n : List Byte, beNat (n ++ [b]) = 256 * beNat n + b.toNat := fun n => by simp [beNat]
    rw [← List.append_assoc, last, last, ih, List.length_append, List.length_singleton, Nat.pow_succ]
    ring

/-- The low bytes of a number read back. -/
theorem beNat_beBytes (size n : Nat) : beNat (beBytes size n) = n % 256 ^ size := by
  induction size with
  | zero => simp [beBytes, beNat, Nat.mod_one]
  | succ size ih =>
    have first : beNat [BitVec.ofNat 8 (n / 256 ^ size)] = n / 256 ^ size % 256 := by simp [beNat]
    rw [beBytes, ← List.singleton_append, beNat_append, beBytes_length, ih, first, Nat.pow_succ, Nat.mod_mul]
    ring

/-- A field behind bytes that stand before it. -/
theorem fieldAt_append {l m : List Byte} {offset : Nat} (behind : l.length ≤ offset) (size : Nat) :
    fieldAt (l ++ m) offset size = fieldAt m (offset - l.length) size := by
  rw [fieldAt, List.drop_append, List.drop_eq_nil_of_le behind, List.nil_append, fieldAt]

theorem fieldAt_skip {size offset : Nat} (behind : size ≤ offset) (n : Nat) (m : List Byte) (k : Nat) :
    fieldAt (beBytes size n ++ m) offset k = fieldAt m (offset - size) k := by
  rw [fieldAt_append (by rwa [beBytes_length]), beBytes_length]

/-- A number written at the front reads back. -/
theorem fieldAt_beBytes (size n : Nat) (m : List Byte) : fieldAt (beBytes size n ++ m) 0 size = n % 256 ^ size := by
  rw [fieldAt, List.drop_zero, List.take_left' (beBytes_length size n), beNat_beBytes]

/-! ## A downstream frame on the wire (R178, R191) -/

theorem fcsBytes_length (l : List Byte) : (fcsBytes l).length = 4 := by
  rw [fcsBytes, List.length_reverse, beBytes_length]

theorem downKindOf_code (k : DownKind) : downKindOf k.code = some k := by cases k <;> rfl

/-- Addresses, type and engine header of a downstream frame. -/
def DownFrame.header (dest source : BitVec 48) (f : DownFrame) : List Byte :=
  beBytes 6 dest.toNat ++ (beBytes 6 source.toNat ++ (beBytes 2 engineType ++ (beBytes 1 f.kind.code ++
    (beBytes 2 f.request.toNat ++ beBytes 2 f.body.length))))

section
variable (dest source : BitVec 48) (f : DownFrame)

theorem DownFrame.header_length : (f.header dest source).length = etherHeader + engineHeader := by
  simp only [DownFrame.header, List.length_append, beBytes_length]
  rfl

/-- Header, body, padding. -/
theorem DownFrame.covered_eq :
    f.covered dest source = f.header dest source ++ (f.body ++ padding (engineHeader + f.body.length)) := by
  simp [DownFrame.covered, DownFrame.header]

/-- Every field of the header reads back (R191). -/
theorem DownFrame.header_fields (h : f.body.length < 65536) (more : List Byte) :
    let b := f.header dest source ++ more
    fieldAt b 6 6 = source.toNat ∧ fieldAt b 12 2 = engineType ∧ fieldAt b 14 1 = f.kind.code ∧
      fieldAt b 15 2 = f.request.toNat ∧ fieldAt b 17 2 = f.body.length := by
  have code : f.kind.code < 256 := by cases f.kind <;> decide
  have request := f.request.isLt
  have address := source.isLt
  simp only [DownFrame.header, List.append_assoc]
  simp only [fieldAt_skip, fieldAt_beBytes, Nat.reduceLeDiff, Nat.reduceSub, Nat.le_refl]
  exact ⟨Nat.mod_eq_of_lt address, rfl, Nat.mod_eq_of_lt code, Nat.mod_eq_of_lt request, Nat.mod_eq_of_lt h⟩

/-- The padding brings a frame to the Ethernet minimum (R191). -/
theorem DownFrame.covered_length : etherHeader + engineHeader + f.body.length ≤ (f.covered dest source).length ∧
    etherHeader + 46 ≤ (f.covered dest source).length := by
  rw [DownFrame.covered_eq, List.length_append, DownFrame.header_length, List.length_append, padding, List.length_replicate]
  omega

theorem DownFrame.wire_eq :
    f.wire dest source = f.header dest source ++
      (f.body ++ (padding (engineHeader + f.body.length) ++ fcsBytes (f.covered dest source))) := by
  rw [DownFrame.wire]
  nth_rw 1 [DownFrame.covered_eq]
  simp only [List.append_assoc]

theorem DownFrame.wire_length : (f.wire dest source).length = (f.covered dest source).length + 4 := by
  rw [DownFrame.wire, List.length_append, fcsBytes_length]

/-- A frame on the wire is what its check sequence covers, and the check sequence. -/
theorem DownFrame.wire_parts : (f.wire dest source).take ((f.wire dest source).length - 4) = f.covered dest source ∧
    (f.wire dest source).drop ((f.wire dest source).length - 4) = fcsBytes (f.covered dest source) := by
  rw [DownFrame.wire_length, Nat.add_sub_cancel]
  exact ⟨List.take_left, List.drop_left⟩

theorem DownFrame.wire_body :
    ((f.wire dest source).drop (etherHeader + engineHeader)).take f.body.length = f.body := by
  rw [DownFrame.wire_eq, List.drop_left' (f.header_length dest source), List.take_left]

end

/-- Settles O14: the frame classified is the one sent, field by field (`DownFrame.header_fields`), with its check sequence
(`DownFrame.wire_parts`) and its body (`DownFrame.wire_body`). -/
theorem lineFramesReadBack : Obligations.LineFramesReadBack := by
  intro dest source f fixed short
  obtain ⟨address, type, kind, request, length⟩ :
      fieldAt (f.wire dest source) 6 6 = source.toNat ∧ fieldAt (f.wire dest source) 12 2 = engineType ∧
        fieldAt (f.wire dest source) 14 1 = f.kind.code ∧ fieldAt (f.wire dest source) 15 2 = f.request.toNat ∧
        fieldAt (f.wire dest source) 17 2 = f.body.length := by
    rw [DownFrame.wire_eq]
    exact f.header_fields dest source short _
  obtain ⟨covered, check⟩ := f.wire_parts dest source
  obtain ⟨whole, minimum⟩ := f.covered_length dest source
  have long := f.wire_length dest source
  simp only [classifyLine, type, kind, request, length, address, covered, check, downKindOf_code, f.wire_body dest source, fixed,
    ne_eq, not_true_eq_false, if_false, if_true, BitVec.ofNat_toNat, BitVec.setWidth_eq]
  rw [if_neg (by omega), if_neg (by omega), if_neg (by omega)]

end Sys2Proof.Machine
end

section
/-! PROOFS. The line link's events: frames received, carrier lost and returned, frames sent (R178, R182, R192). -/

namespace Sys2Proof.Machine

open Sys2Proof

/-! ## Frames received (R178) -/

section
variable {b : List Byte}

theorem classifyLine_foreign (long : 14 ≤ b.length) (type : fieldAt b 12 2 ≠ engineType) : classifyLine b = .foreign := by
  rw [classifyLine, if_neg (Nat.not_lt.2 long), if_pos type]

theorem classifyLine_bad (long : 23 ≤ b.length) (type : fieldAt b 12 2 = engineType)
    (check : b.drop (b.length - 4) ≠ fcsBytes (b.take (b.length - 4))) : classifyLine b = .bad := by
  rw [classifyLine, if_neg (Nat.not_lt.2 (Nat.le_trans (by decide) long)), if_neg (not_not.2 type)]
  exact (if_neg (Nat.not_lt.2 long)).trans (if_pos check)

/-- With carrier a frame is taken by its case (R178, R182). -/
theorem exec_lineFrameReceived {s : State} (carrier : s.lli.carrier = true) (b : List Byte) :
    exec (.lineFrameReceived b) s = .next (match classifyLine b with
      | .foreign => s.bump .foreignFrames
      | .bad => s.bump .lineBadFrames
      | .unexpected => s.bump .lineUnexpectedFrames
      | .good source f => s.receiveGood source f) := by
  simp only [exec, execLineFrameReceived, carrier, if_true]
  cases classifyLine b <;> rfl

theorem State.receiveGood_listed {s : State} (room : s.lli.receive.length < 16) (source : BitVec 48) (f : DownFrame) :
    s.receiveGood source f = { s with lli := { s.lli with receive := s.lli.receive ++ [f], server := some source } } :=
  if_neg (Nat.not_le.2 room)

theorem State.receiveGood_overrun {s : State} (full : 16 ≤ s.lli.receive.length) (source : BitVec 48) (f : DownFrame) :
    s.receiveGood source f = s.bump .receiveOverruns := if_pos full

end

/-! ## The transmitter (R182, R192) -/

/-- A free transmitter takes the urgent head, else the bulk head, to the destination kept with it or to that of this moment. -/
theorem LineLink.startSending_free {l : LineLink} (carrier : l.carrier = true) (free : l.transmitting = none) :
    l.startSending = { l with
      transmitting := if l.urgent ≠ [] then some .urgent else if l.bulk ≠ [] then some .bulk else none
      urgentTo := if l.urgent ≠ [] then some (l.urgentTo.getD l.destination) else l.urgentTo
      bulkTo := if l.urgent = [] ∧ l.bulk ≠ [] then some (l.bulkTo.getD l.destination) else l.bulkTo } := by
  have starts : l.startSending = l.begin l.nextToSend := if_pos (by rw [carrier, free]; rfl)
  rw [starts, LineLink.nextToSend]
  by_cases urgent : l.urgent = []
  · by_cases bulk : l.bulk = []
    · cases l
      simp_all [LineLink.begin]
    · simp [urgent, bulk, LineLink.begin]
  · simp [urgent, LineLink.begin]

theorem exec_lineCarrierLoss {s : State} (carrier : s.lli.carrier = true) : exec .lineCarrierLoss s =
    .next ({ s with lli := { s.lli with carrier := false, transmitting := none } }.bump .carrierLosses) := if_pos carrier

theorem exec_lineCarrierReturn {s : State} (carrier : s.lli.carrier = false) : exec .lineCarrierReturn s =
    .next { s with lli := LineLink.startSending { s.lli with carrier := true } } := if_neg (by rw [carrier]; decide)

theorem exec_upstreamFrameSent {s : State} {q : QueueSel} (sending : s.lli.transmitting = some q) :
    exec .upstreamFrameSent s = .next { s with lli := s.lli.frameSent q } := by
  simp only [exec, execUpstreamFrameSent, sending]

/-- The line link after a loss of the carrier and its return (R182). -/
def LineLink.resumed (l : LineLink) : LineLink := LineLink.startSending { l with carrier := true, transmitting := none }

/-- The frame that the loss interrupted goes out again with the same bytes, where it is the first to resume (R192). -/
theorem LineLink.resumed_wire {l : LineLink} {bytes : List Byte} (wire : l.wire = some bytes)
    (first : l.transmitting = some .urgent ∨ l.urgent = []) : l.resumed.wire = some bytes := by
  rw [LineLink.resumed, LineLink.startSending_free rfl rfl]
  unfold LineLink.wire at wire ⊢
  split at wire
  next sending =>
    obtain ⟨d, kept, wire⟩ := Option.bind_eq_some_iff.1 wire
    obtain ⟨f, head, rfl⟩ := Option.map_eq_some_iff.1 wire
    have urgent : l.urgent ≠ [] := fun none => by simp [none] at head
    simp [urgent, kept, head]
  next sending =>
    have urgent : l.urgent = [] := first.resolve_left (by rw [sending]; decide)
    obtain ⟨d, kept, wire⟩ := Option.bind_eq_some_iff.1 wire
    obtain ⟨f, head, rfl⟩ := Option.map_eq_some_iff.1 wire
    have bulk : l.bulk ≠ [] := fun none => by simp [none] at head
    simp [urgent, bulk, kept, head]
  next => cases wire

/-- A frame sent leaves the urgent queue, and the next is begun (R182, R39). -/
theorem LineLink.frameSent_urgent {l : LineLink} {f : UpFrame} {rest : List UpFrame} (carrier : l.carrier = true)
    (queue : l.urgent = f :: rest) : l.frameSent .urgent = { l with
      urgent := rest
      owedOffers := if l.owed = [] then 0 else l.owedOffers + 1
      transmitting := if rest ≠ [] then some .urgent else if l.bulk ≠ [] then some .bulk else none
      urgentTo := if rest ≠ [] then some l.destination else none
      bulkTo := if rest = [] ∧ l.bulk ≠ [] then some (l.bulkTo.getD l.destination) else l.bulkTo } := by
  simp only [LineLink.frameSent, queue, List.tail_cons, List.isEmpty_iff]
  exact LineLink.startSending_free carrier rfl

theorem LineLink.frameSent_bulk {l : LineLink} {f : UpFrame} {rest : List UpFrame} (carrier : l.carrier = true)
    (queue : l.bulk = f :: rest) : l.frameSent .bulk = { l with
      bulk := rest
      owedOffers := if l.owed = [] then 0 else l.owedOffers + 1
      transmitting := if l.urgent ≠ [] then some .urgent else if rest ≠ [] then some .bulk else none
      urgentTo := if l.urgent ≠ [] then some (l.urgentTo.getD l.destination) else l.urgentTo
      bulkTo := if l.urgent = [] ∧ rest ≠ [] then some l.destination else none } := by
  simp only [LineLink.frameSent, queue, List.tail_cons, List.isEmpty_iff]
  exact LineLink.startSending_free carrier rfl

/-- Settles O35: a frame received by its case, a loss, a return, both together (`LineLink.resumed_wire`), and a frame sent. -/
theorem lineLinkEvents : Obligations.LineLinkEvents := by
  refine ⟨fun b s carrier => ?_, fun s => exec_lineCarrierLoss, fun s carrier free => ?_,
    fun s bytes carrier wire first => ?_, fun s carrier => ⟨fun f rest sending queue => ?_, fun f rest sending queue => ?_⟩⟩
  · rw [exec_lineFrameReceived carrier]
    refine ⟨fun long type => ?_, fun long type check => ?_, fun unexpected => ?_,
      fun source f good => ⟨fun room => ?_, fun full => ?_⟩⟩
    · rw [classifyLine_foreign long type]
    · rw [classifyLine_bad long type check]
    · rw [unexpected]
    · rw [good, ← State.receiveGood_listed room]
    · rw [good, ← State.receiveGood_overrun full source f]
  · rw [exec_lineCarrierReturn carrier, LineLink.startSending_free (l := { s.lli with carrier := true }) rfl free]
    rfl
  · exact ⟨_, _, exec_lineCarrierLoss carrier, exec_lineCarrierReturn rfl, rfl, LineLink.resumed_wire (l := s.lli) wire first⟩
  · rw [exec_upstreamFrameSent sending, LineLink.frameSent_urgent carrier queue]
  · rw [exec_upstreamFrameSent sending, LineLink.frameSent_bulk carrier queue]

end Sys2Proof.Machine
end

section
/-! PROOFS. VIEW: the selector of its body, and its answers (R179, R186, R193). -/

namespace Sys2Proof.Machine

open Sys2Proof

/-! ## The selector of a VIEW body (R186, R193) -/

theorem viewAskOf_port_refused {b : Byte} (beyond : 8 ≤ b.toNat) : viewAskOf [3, b] = .refused := by
  have port : fieldAt [b] 0 1 = b.toNat := fieldAt_byte rfl
  have asked : viewAskOf [3, b] = match portOf (fieldAt [b] 0 1) with | some p => .select (.port p) | none => .refused := rfl
  rw [asked, port, portOf_eq_none beyond]

theorem viewAskOf_card {c : List Byte} (length : c.length = 10) : viewAskOf (4 :: c) =
    .select (.card (BitVec.ofNat 64 (beNat (c.take 8))) (BitVec.ofNat 16 (beNat (c.drop 8)))) := by
  have day : (c.drop 8).take 2 = c.drop 8 := List.take_of_length_le (by simp [length])
  have asked : viewAskOf (4 :: c) = if c.length = 10 then
      .select (.card (BitVec.ofNat 64 (beNat (c.take 8))) (BitVec.ofNat 16 (beNat ((c.drop 8).take 2)))) else .refused := rfl
  rw [asked, if_pos length, day]

theorem viewAskOf_unknown {body : List Byte} {b : Byte} (head : body.head? = some b) (beyond : 7 ≤ b.toNat) :
    viewAskOf body = .refused := by
  have selector : fieldAt body 0 1 = b.toNat := fieldAt_byte (by rwa [← List.head?_eq_getElem?])
  unfold viewAskOf
  dsimp only
  rw [selector]
  split
  case h_8 => rfl
  all_goals omega

/-! ## A VIEW taken (R179, R186) -/

section
variable {s : State} {f : DownFrame} {rest : List DownFrame} {v : ViewSel}

theorem State.Takes.view (h : s.Takes f rest) (kind : f.kind = .view) : exec .view s = .next (viewTaken f (s.taking rest)) := by
  simp only [exec, execView, h.takeKind kind]

/-- The place held for the REPLY is in no view. -/
theorem State.taking_viewContents (rest : List DownFrame) (v : ViewSel) (s : State) :
    (s.taking rest).viewContents v = { s with lli := { s.lli with receive := rest } }.viewContents v := by
  cases v <;> rfl

theorem State.taking_answerView_done (between : s.lli.replyHeld = false) {c : ViewContents}
    (contents : { s with lli := { s.lli with receive := rest } }.viewContents v = some c) :
    (s.taking rest).answerView f v = s.answeredFull f rest .done none (some c) := by
  rw [State.answerView, State.taking_viewContents, contents]
  exact State.taking_replyFull between _ _ _

theorem State.taking_answerView_absent (between : s.lli.replyHeld = false)
    (contents : { s with lli := { s.lli with receive := rest } }.viewContents v = none) :
    (s.taking rest).answerView f v = s.answered f rest .notFound := by
  rw [State.answerView, State.taking_viewContents, contents]
  exact State.taking_reply between _

theorem viewTaken_select (ask : viewAskOf f.body = .select v) :
    viewTaken f s = State.answerView f v { s with lli := { s.lli with selected := v } } := by
  rw [viewTaken, ask]

theorem viewTaken_again (ask : viewAskOf f.body = .again) : viewTaken f s = s.answerView f s.lli.selected := by
  rw [viewTaken, ask]

theorem viewTaken_refused (ask : viewAskOf f.body = .refused) : viewTaken f s = s.reply f .badArgument := by
  rw [viewTaken, ask]

/-- Anything else is refused and selects nothing (R186). -/
theorem State.Takes.view_refused (h : s.Takes f rest) (kind : f.kind = .view) (ask : viewAskOf f.body = .refused) :
    exec .view s = .next (s.answered f rest .badArgument) := by
  rw [h.view kind, viewTaken_refused ask, State.taking_reply h.between]

/-- The state with a view selected. -/
def State.selecting (v : ViewSel) (s : State) : State := { s with lli := { s.lli with selected := v } }

/-- A selector becomes the selected view, and is answered (R186). -/
theorem State.Takes.view_select (h : s.Takes f rest) (kind : f.kind = .view) (ask : viewAskOf f.body = .select v) :
    exec .view s = .next (((s.selecting v).taking rest).answerView f v) := by
  rw [h.view kind, viewTaken_select ask]
  rfl

/-- A CARD that the Jury Table lacks is selected all the same, and answered NOT_FOUND (R186). -/
theorem State.Takes.view_card_absent (h : s.Takes f rest) (kind : f.kind = .view) {k : BitVec 64} {d : BitVec 16}
    (ask : viewAskOf f.body = .select (.card k d)) (absent : s.jt.lookup k d = none) :
    exec .view s = .next ((s.selecting (.card k d)).answered f rest .notFound) := by
  rw [h.view_select kind ask]
  exact congrArg _ (State.taking_answerView_absent (s := s.selecting (.card k d)) h.between
    (congrArg (Option.map ViewContents.card) absent))

theorem DownFrame.requestKind_view (kind : f.kind = .view) : f.requestKind = .view := by rw [DownFrame.requestKind, kind]

/-- The REPLY stands at the tail of the urgent queue. -/
theorem State.answeredFull_urgent (f : DownFrame) (rest : List DownFrame) (st : Status) (x : Option (TableId × Nat))
    (c : Option ViewContents) (s : State) :
    (s.answeredFull f rest st x c).lli.urgent = s.lli.urgent ++ [.reply f.request f.requestKind st x c] :=
  LineLink.startSending_urgent _

end

/-- Settles O36: the body of a VIEW by what it asks for, and its answer by whether the view has contents. -/
theorem viewAnswered : Obligations.ViewAnswered := by
  intro s f rest h kind
  have between : s.lli.replyHeld = false := h.between
  refine ⟨fun v ask => ?_, fun body => ?_, h.view_refused kind, fun body => ?_, fun b body beyond => ?_,
    fun c length body absent => ?_, fun b beyond head => ?_⟩
  · rw [h.view_select kind ask]
    intro u
    split
    next c contents => exact congrArg _ (State.taking_answerView_done (s := s.selecting v) between contents)
    next contents => exact congrArg _ (State.taking_answerView_absent (s := s.selecting v) between contents)
  · have again : viewAskOf f.body = .again := by rw [body]; rfl
    rw [h.view kind, viewTaken_again again]
    split
    next c contents => exact congrArg _ (State.taking_answerView_done between contents)
    next contents => exact congrArg _ (State.taking_answerView_absent between contents)
  · have ask : viewAskOf f.body = .select .identity := by rw [body]; rfl
    refine ⟨_, h.view_select kind ask, ?_, ?_⟩
    · rw [State.taking_answerView_done (s := s.selecting .identity) between rfl]
      exact LineLink.startSending_selected _
    · rw [State.taking_answerView_done (s := s.selecting .identity) between rfl, State.answeredFull_urgent,
        DownFrame.requestKind_view kind]
      rfl
  · exact h.view_refused kind (by rw [body, viewAskOf_port_refused beyond])
  · have ask := body ▸ viewAskOf_card length
    refine ⟨_, h.view_card_absent kind ask absent, ?_⟩
    rw [State.answered, State.answeredFull_urgent, DownFrame.requestKind_view kind]
    rfl
  · exact h.view_refused kind (viewAskOf_unknown head beyond)

end Sys2Proof.Machine
end

section
/-! PROOFS. The gate link's byte stuffing and check sequence, and the gate frames a hub sends (R190). -/

namespace Sys2Proof.Machine

open Sys2Proof

/-! ## Byte stuffing (R190) -/

theorem unstuff_escape (b : Byte) (l : List Byte) : unstuff (escape :: b :: l) = (unstuff l).map ((b ^^^ 0x20) :: ·) := by
  rw [unstuff, if_pos rfl]

theorem unstuff_plain {b : Byte} (plain : b ≠ escape) (l : List Byte) : unstuff (b :: l) = (unstuff l).map (b :: ·) := by
  cases l with
  | nil => exact if_neg plain
  | cons c l => rw [unstuff, if_neg plain]

theorem unstuff_stuff (l : List Byte) : unstuff (stuff l) = some l := by
  induction l with
  | nil => rfl
  | cons b l ih =>
    rw [stuff]
    split
    next => rw [unstuff_escape, ih, Option.map_some, BitVec.xor_assoc, BitVec.xor_self, BitVec.xor_zero]
    next plain => rw [unstuff_plain fun h => plain (.inr h), ih, Option.map_some]

/-- No byte is lost in the stuffing. -/
theorem stuff_ne_nil {l : List Byte} (nonempty : l ≠ []) : stuff l ≠ [] := by
  intro h
  have empty : some l = some [] := by rw [← unstuff_stuff, h]; rfl
  exact nonempty (Option.some.inj empty)

/-- A frame stuffed is the frame received. -/
theorem receiveGate_stuff (p : PortId) {l : List Byte} (nonempty : l ≠ []) :
    receiveGate p (stuff l) = some (readGateFrame p l) := by
  rw [receiveGate, if_neg (stuff_ne_nil nonempty), unstuff_stuff]

/-! ## The check sequence (R190) -/

theorem withCrc16_length (l : List Byte) : (withCrc16 l).length = l.length + 2 := by
  rw [withCrc16, List.length_append, beBytes_length]

/-- A word with nothing behind it. -/
theorem fieldAt_word_alone (w : BitVec 16) : fieldAt (beBytes 2 w.toNat) 0 2 = w.toNat := by
  have word := fieldAt_beBytes 2 w.toNat []
  rw [List.append_nil] at word
  exact word.trans (Nat.mod_eq_of_lt w.isLt)

theorem crc16Checks_withCrc16 {l : List Byte} (nonempty : 1 ≤ l.length) : crc16Checks (withCrc16 l) = true := by
  have check : fieldAt (withCrc16 l) l.length 2 = (crc16 l).toNat := by
    rw [withCrc16, fieldAt_append (Nat.le_refl _), Nat.sub_self, fieldAt_word_alone]
  have covered : (withCrc16 l).take l.length = l := List.take_left
  have long : 3 ≤ l.length + 2 := by omega
  rw [crc16Checks, withCrc16_length, Nat.add_sub_cancel, check, covered, decide_eq_true long, beq_self_eq_true, Bool.true_and]

/-! ## Frames by their kind (R31, R190) -/

section
variable {p : PortId} {f : List Byte}

theorem readGateFrame_tap (good : crc16Checks f = true) (kind : fieldAt f 0 1 = tapKindCode) (few : fieldAt f 24 1 ≤ 6)
    (length : f.length = 27 + 4 * fieldAt f 24 1) : readGateFrame p f = .tap p (readTap f) := by
  rw [readGateFrame, if_pos good, if_pos kind, if_pos ⟨by omega, few, length⟩]

theorem readGateFrame_beacon (good : crc16Checks f = true) (kind : fieldAt f 0 1 = beaconKindCode) (length : f.length = 9) :
    readGateFrame p f = .beacon p (BitVec.ofNat 32 (fieldAt f 1 4)) (BitVec.ofNat 16 (fieldAt f 5 2)) := by
  rw [readGateFrame, if_pos good, kind, if_neg (by decide), if_pos rfl, if_pos length]

theorem readGateFrame_hubState (good : crc16Checks f = true) (kind : fieldAt f 0 1 = hubStateKindCode) (length : f.length = 5) :
    readGateFrame p f = .hubState p (f.getD 1 0 != 0) (f.getD 2 0) := by
  rw [readGateFrame, if_pos good, kind, if_neg (by decide), if_neg (by decide), if_pos rfl, if_pos length]

theorem readGateFrame_attachAck (good : crc16Checks f = true) (kind : fieldAt f 0 1 = attachAckKindCode)
    (length : f.length = 7) :
    readGateFrame p f = .attachAck p (f.getD 1 0 == 1) (f.getD 2 0) (BitVec.ofNat 16 (fieldAt f 3 2)) := by
  rw [readGateFrame, if_pos good, kind, if_neg (by decide), if_neg (by decide), if_neg (by decide), if_pos rfl, if_pos length]

end

/-! ## Bytes behind other bytes -/

theorem fieldAt_cons {offset : Nat} (behind : 1 ≤ offset) (b : Byte) (m : List Byte) (k : Nat) :
    fieldAt (b :: m) offset k = fieldAt m (offset - 1) k := fieldAt_append (l := [b]) behind k

theorem getD_skip {size offset : Nat} (behind : size ≤ offset) (n : Nat) (m : List Byte) :
    (beBytes size n ++ m).getD offset 0 = m.getD (offset - size) 0 := by
  rw [List.getD_append_right _ _ _ _ (by rwa [beBytes_length]), beBytes_length]

/-! ## The frames of R190 read back -/

/-- The flags of a TAP frame, and those of one of its items. -/
theorem flags_read (a b : Bool) : (BitVec.ofNat 8 (bitOf a + 2 * bitOf b)).getLsbD 0 = a ∧
    (BitVec.ofNat 8 (bitOf a + 2 * bitOf b)).getLsbD 1 = b := by revert a b; decide

theorem itemBytes_length (i : TapItem) : (itemBytes i).length = 4 := by
  rw [itemBytes, List.length_cons, List.length_cons, beBytes_length]

theorem readItem_itemBytes (i : TapItem) : readItem (itemBytes i) = i := by
  have value : fieldAt (itemBytes i) 2 2 = i.value.toNat := fieldAt_word_alone i.value
  obtain ⟨join, last⟩ := flags_read i.join i.last
  rw [readItem, value, BitVec.ofNat_toNat, BitVec.setWidth_eq]
  simp only [itemBytes, List.getD_cons_zero, List.getD_cons_succ, join, last]

theorem readItems_itemBytes (l : List TapItem) (more : List Byte) :
    readItems l.length (l.flatMap itemBytes ++ more) = l := by
  induction l with
  | nil => rfl
  | cons i l ih =>
    have length := itemBytes_length i
    rw [List.length_cons, List.flatMap_cons, List.append_assoc, readItems, List.take_left' length, List.drop_left' length,
      readItem_itemBytes, ih]

theorem items_length (l : List TapItem) : (l.flatMap itemBytes).length = 4 * l.length := by
  induction l with
  | nil => rfl
  | cons i l ih => rw [List.flatMap_cons, List.length_append, itemBytes_length, ih, List.length_cons]; omega

/-- A TAP frame up to its item count. -/
def tapHeader (f : TapFrame) : List Byte :=
  beBytes 1 tapKindCode ++ (beBytes 2 f.tapNumber.toNat ++
    (BitVec.ofNat 8 (bitOf (f.direction == .tapOut) + 2 * bitOf f.live) :: (beBytes 8 f.card.toNat ++
      (f.station :: f.product :: (beBytes 4 f.hubSeq.toNat ++ (beBytes 2 f.hubDay.toNat ++ (beBytes 4 f.hubTime.toNat ++
        beBytes 1 f.items.length)))))))

theorem tapBytes_eq (f : TapFrame) : tapBytes f = tapHeader f ++ f.items.flatMap itemBytes := by
  simp only [tapBytes, tapHeader, List.append_assoc, List.cons_append, List.nil_append]

theorem tapHeader_length (f : TapFrame) : (tapHeader f).length = 25 := by
  simp only [tapHeader, List.length_append, List.length_cons, beBytes_length]

theorem tapBytes_length (f : TapFrame) : (tapBytes f).length = 25 + 4 * f.items.length := by
  rw [tapBytes_eq, List.length_append, tapHeader_length, items_length]

theorem fieldAt_tapHeader_kind (f : TapFrame) (more : List Byte) : fieldAt (tapHeader f ++ more) 0 1 = tapKindCode := by
  rw [tapHeader, List.append_assoc, fieldAt_beBytes]
  exact Nat.mod_eq_of_lt (by decide)

theorem fieldAt_tapHeader_count {f : TapFrame} (few : f.items.length ≤ 6) (more : List Byte) :
    fieldAt (tapHeader f ++ more) 24 1 = f.items.length := by
  simp only [tapHeader, List.append_assoc, List.cons_append, fieldAt_skip, fieldAt_cons, fieldAt_beBytes, Nat.reduceLeDiff,
    Nat.reduceSub, Nat.le_refl]
  exact Nat.mod_eq_of_lt (by omega)

/-- The numbers of a TAP frame stand at the offsets of R190. -/
theorem fieldAt_tapHeader (f : TapFrame) (more : List Byte) :
    let b := tapHeader f ++ more
    fieldAt b 1 2 = f.tapNumber.toNat ∧ fieldAt b 4 8 = f.card.toNat ∧ fieldAt b 14 4 = f.hubSeq.toNat ∧
      fieldAt b 18 2 = f.hubDay.toNat ∧ fieldAt b 20 4 = f.hubTime.toNat := by
  have number := f.tapNumber.isLt
  have card := f.card.isLt
  have seq := f.hubSeq.isLt
  have day := f.hubDay.isLt
  have time := f.hubTime.isLt
  simp only [tapHeader, List.append_assoc, List.cons_append, fieldAt_skip, fieldAt_cons, fieldAt_beBytes, Nat.reduceLeDiff,
    Nat.reduceSub, Nat.le_refl]
  exact ⟨Nat.mod_eq_of_lt number, Nat.mod_eq_of_lt card, Nat.mod_eq_of_lt seq, Nat.mod_eq_of_lt day, Nat.mod_eq_of_lt time⟩

/-- Its flags, station and product stand at the offsets of R190. -/
theorem getD_tapHeader (f : TapFrame) (more : List Byte) :
    let b := tapHeader f ++ more
    b.getD 3 0 = BitVec.ofNat 8 (bitOf (f.direction == .tapOut) + 2 * bitOf f.live) ∧ b.getD 12 0 = f.station ∧
      b.getD 13 0 = f.product := by
  simp only [tapHeader, List.append_assoc, List.cons_append, getD_skip, List.getD_cons_zero, List.getD_cons_succ,
    Nat.reduceLeDiff, Nat.reduceSub, Nat.le_refl, and_self]

/-- The fields of a TAP frame read back, whatever stands behind its items. -/
theorem readTap_tapHeader {f : TapFrame} (few : f.items.length ≤ 6) (more : List Byte) :
    readTap (tapHeader f ++ (f.items.flatMap itemBytes ++ more)) = f := by
  obtain ⟨number, card, seq, day, time⟩ := fieldAt_tapHeader f (f.items.flatMap itemBytes ++ more)
  obtain ⟨flags, station, product⟩ := getD_tapHeader f (f.items.flatMap itemBytes ++ more)
  obtain ⟨out, live⟩ := flags_read (f.direction == .tapOut) f.live
  have direction : (if (f.direction == .tapOut) = true then Direction.tapOut else .tapIn) = f.direction := by
    cases f.direction <;> rfl
  rw [readTap, number, card, seq, day, time, flags, station, product, out, live, direction, fieldAt_tapHeader_count few,
    List.drop_left' (tapHeader_length f), readItems_itemBytes]
  simp only [BitVec.ofNat_toNat, BitVec.setWidth_eq]

/-- A TAP frame of at most six items reads back. -/
theorem readGateFrame_tapBytes (p : PortId) {f : TapFrame} (few : f.items.length ≤ 6) :
    readGateFrame p (withCrc16 (tapBytes f)) = .tap p f := by
  have whole := tapBytes_length f
  have length := withCrc16_length (tapBytes f)
  have good : crc16Checks (withCrc16 (tapBytes f)) = true := crc16Checks_withCrc16 (by omega)
  have parts : withCrc16 (tapBytes f) =
      tapHeader f ++ (f.items.flatMap itemBytes ++ beBytes 2 (crc16 (tapBytes f)).toNat) := by
    rw [withCrc16, ← List.append_assoc, ← tapBytes_eq]
  rw [parts] at length good ⊢
  have count := fieldAt_tapHeader_count few (f.items.flatMap itemBytes ++ beBytes 2 (crc16 (tapBytes f)).toNat)
  rw [readGateFrame_tap good (fieldAt_tapHeader_kind f _) (by omega) (by omega), readTap_tapHeader few]

/-- A byte that carries a bit reads back as that bit, by either test of R190. -/
theorem bitOf_read (b : Bool) : (BitVec.ofNat 8 (bitOf b) != 0) = b ∧ (BitVec.ofNat 8 (bitOf b) == 1) = b := by
  cases b <;> decide

theorem getD_bitOf (b : Bool) (m : List Byte) : (beBytes 1 (bitOf b) ++ m).getD 0 0 = BitVec.ofNat 8 (bitOf b) := by
  cases b <;> rfl

/-- A frame with its check sequence is a good frame of the kind at its front. -/
theorem withCrc16_kind {code : Nat} (byte : code < 256) (body : List Byte) :
    crc16Checks (withCrc16 (beBytes 1 code ++ body)) = true ∧ fieldAt (withCrc16 (beBytes 1 code ++ body)) 0 1 = code := by
  refine ⟨crc16Checks_withCrc16 (by rw [List.length_append, beBytes_length]; omega), ?_⟩
  rw [withCrc16, List.append_assoc, fieldAt_beBytes]
  exact Nat.mod_eq_of_lt byte

section
variable {q p : PortId} {frame : List Byte}

theorem readGateFrame_of_beacon {time : BitVec 32} {day : Day} (sent : gateFrameOf (.beacon q time day) = some (p, frame)) :
    readGateFrame p (withCrc16 frame) = .beacon q time day := by
  obtain ⟨rfl, rfl⟩ := sent
  have times := time.isLt
  have days := day.isLt
  rw [List.append_assoc]
  obtain ⟨good, kind⟩ := withCrc16_kind (code := beaconKindCode) (by decide) (beBytes 4 time.toNat ++ beBytes 2 day.toNat)
  rw [readGateFrame_beacon good kind (by simp only [withCrc16_length, List.length_append, beBytes_length])]
  simp only [withCrc16, List.append_assoc, fieldAt_skip, fieldAt_beBytes, Nat.reduceLeDiff, Nat.reduceSub, Nat.le_refl,
    Nat.reducePow, Nat.mod_eq_of_lt times, Nat.mod_eq_of_lt days, BitVec.ofNat_toNat, BitVec.setWidth_eq]

theorem readGateFrame_of_hubState {alarm : Bool} {code : Byte} (sent : gateFrameOf (.hubState q alarm code) = some (p, frame)) :
    readGateFrame p (withCrc16 frame) = .hubState q alarm code := by
  obtain ⟨rfl, rfl⟩ := sent
  rw [List.append_assoc]
  obtain ⟨good, kind⟩ := withCrc16_kind (code := hubStateKindCode) (by decide) (beBytes 1 (bitOf alarm) ++ [code])
  rw [readGateFrame_hubState good kind
    (by simp only [withCrc16_length, List.length_append, List.length_singleton, beBytes_length])]
  simp only [withCrc16, List.append_assoc, List.singleton_append, getD_skip, getD_bitOf, bitOf_read, List.getD_cons_zero,
    Nat.reduceLeDiff, Nat.reduceSub, Nat.le_refl]

theorem readGateFrame_of_attachAck {positive : Bool} {echo : Byte} {first : TapNo}
    (sent : gateFrameOf (.attachAck q positive echo first) = some (p, frame)) :
    readGateFrame p (withCrc16 frame) = .attachAck q positive echo first := by
  obtain ⟨rfl, rfl⟩ := sent
  have number := first.isLt
  simp only [List.append_assoc, List.singleton_append]
  obtain ⟨good, kind⟩ := withCrc16_kind (code := attachAckKindCode) (by decide)
    (beBytes 1 (bitOf positive) ++ echo :: beBytes 2 first.toNat)
  rw [readGateFrame_attachAck good kind
    (by simp only [withCrc16_length, List.length_append, List.length_cons, beBytes_length])]
  simp only [withCrc16, List.append_assoc, List.cons_append, getD_skip, getD_bitOf, bitOf_read,
    List.getD_cons_zero, fieldAt_skip, fieldAt_cons, fieldAt_beBytes, Nat.reduceLeDiff, Nat.reduceSub, Nat.le_refl,
    Nat.reducePow, Nat.mod_eq_of_lt number, BitVec.ofNat_toNat, BitVec.setWidth_eq]

end

/-- Each of the four frames is read as the command it was sent for; no good frame spells another command. -/
theorem readGateFrame_sent {i : Instr} {p : PortId} {frame : List Byte} (wf : i.wf = true)
    (sent : gateFrameOf i = some (p, frame)) : readGateFrame p (withCrc16 frame) = i := by
  cases i with
  | tap q f =>
    obtain ⟨rfl, rfl⟩ := sent
    exact readGateFrame_tapBytes p (of_decide_eq_true wf)
  | beacon q time day => exact readGateFrame_of_beacon sent
  | hubState q alarm code => exact readGateFrame_of_hubState sent
  | attachAck q positive echo first => exact readGateFrame_of_attachAck sent
  | _ => cases sent

/-- Settles O13: the stuffing is undone (`receiveGate_stuff`), and the frame is read as what was sent
(`readGateFrame_sent`). -/
theorem gateFramesReadBack : Obligations.GateFramesReadBack := by
  intro i p frame wf sent
  have checked : withCrc16 frame ≠ [] := by
    intro empty
    have length := withCrc16_length frame
    rw [empty, List.length_nil] at length
    omega
  rw [receiveGate_stuff p checked, readGateFrame_sent wf sent]

end Sys2Proof.Machine
end

section
/-! PROOFS. The CRC-16 check value, and the lengths of the frames that the engine sends (R190, R191). -/

namespace Sys2Proof.Machine

open Sys2Proof

/-- The check value of the CRC-16: that of the digits 1 to 9 (R190). -/
theorem crc16_digits : crc16 [0x31, 0x32, 0x33, 0x34, 0x35, 0x36, 0x37, 0x38, 0x39] = 0x29B1 := by decide +kernel

theorem answerBytes_length (a : Answer) : (answerBytes a).length = 4 := by
  cases a with
  | go fare => cases fare <;> rfl
  | goProvisional => rfl
  | refuseProductInvalid => rfl

theorem stationBytes_length (l : List Nat) : (l.flatMap (beBytes 1)).length = l.length := by
  induction l with
  | nil => rfl
  | cons n l ih => rw [List.flatMap_cons, List.length_append, beBytes_length, ih, List.length_cons, Nat.add_comm]

/-- An absent half takes as many bytes as a present one (R191). -/
theorem halfBytes_length (h : Option Half) : (halfBytes h).length = 7 := by cases h <;> rfl

theorem JourneyFrame.body_length (j : JourneyFrame) : j.body.length = 64 := by
  unfold JourneyFrame.body
  simp only [List.length_append, List.length_singleton, beBytes_length, Nat.reduceAdd]

theorem RequestFrame.body_length (r : RequestFrame) : r.body.length = 57 := by
  rw [RequestFrame.body]
  simp only [List.length_append, halfBytes_length, beBytes_length, Nat.reduceAdd]

/-- Settles O15: each frame is as long as its layout in R190 or R191. -/
theorem frameLengthsAndCheck : Obligations.FrameLengthsAndCheck := by
  refine ⟨crc16_digits, JourneyFrame.body_length, RequestFrame.body_length, fun p limit interval l => ?_, fun n => ?_,
    fun n a => ?_, fun p => ?_⟩
  all_goals rw [withCrc16_length, GateFrame.bytes]
  all_goals simp only [List.length_append, beBytes_length, stationBytes_length, answerBytes_length]
  omega

end Sys2Proof.Machine
end

section
/-! PROOFS. A step of the engine, by the front of its queue (log 1). -/

namespace Sys2Proof.Machine

open Sys2Proof

theorem step_idle {s : State} (empty : s.pending = []) : step s = .next s := by rw [step, empty]

theorem step_front {c : Instr} {rest : List Instr} {s : State} (front : s.pending = c :: rest) :
    step s = exec c { s with pending := rest } := by rw [step, front]

/-- Settles O1: the queue is a command with its rest (`step_front`), or empty (`step_idle`). -/
theorem stepRunsFrontCommand : Obligations.StepRunsFrontCommand := ⟨fun _ _ _ => step_front, fun _ => step_idle⟩

end Sys2Proof.Machine
end
